-- ==== Sys2Proof/Word.lean ====
section
/-! DEFINITION. The words of the T9648 (R8): bytes and the little-endian fields the manual types u8 to u64,
and the 32 bits of an IEEE 754 binary32 value. -/

namespace Sys2Proof

/-- One byte of a buffer, frame or record (R8). -/
abbrev Byte := BitVec 8
/-- A field the manual types u16. -/
abbrev U16 := BitVec 16
/-- A field the manual types u32. -/
abbrev U32 := BitVec 32
/-- A field the manual types u64. -/
abbrev U64 := BitVec 64
/-- The 32 bits of a binary32 value (R147); arithmetic on it is in Machine/Float32.lean. -/
abbrev F32 := BitVec 32

end Sys2Proof
end

