-- ==== Sys2Proof/Syntax.lean ====
section
/-! DEFINITION. The commands of the T9648 as a block: one constructor of `Instr` per row of spec/opcode_table.json.
A mailbox command carries the datagram that brings it (R57); an event carries what the world outside the module
supplies at it (a conversion code, a frame, a line level, a reading). -/

namespace Sys2Proof

/-- The network path a mailbox datagram or ARP request arrives on (R54, R55). -/
inductive Path where
  | u0 | u1 | u2 | u3 | service
  deriving DecidableEq, Repr

/-- An IPv4 fragment of a request (R54): the identification of its datagram, which of the datagram's fragments it is, and how many
there are. -/
structure Fragment where
  ident : U16 := 0
  index : Nat := 0
  count : Nat := 1
  deriving DecidableEq, Repr

/-- A mailbox request as it arrives: UDP source and destination address and port, the header fields of R57 (or R485 for
version 1, which has no start count) apart from class and opcode, and the payload. Where `fragment` is set, one IPv4 fragment
of that datagram arrives. -/
structure Datagram where
  path       : Path := .u0
  srcAddr    : U32 := 0
  srcPort    : U16 := 0
  dstAddr    : U32 := 0xC0A8300A
  dstPort    : U16 := 50648
  fragment   : Option Fragment := none
  magic      : U16 := 0x9648
  version    : Byte := 2
  mailbox    : Byte := 0
  tag        : U16 := 0
  flags      : Byte := 0
  reserved   : Byte := 0
  length     : U16 := 0
  startCount : U32 := 0
  crc        : U32 := 0
  payload    : List Byte := []
  deriving DecidableEq, Repr

/-- What a strap land reads as (R439). -/
inductive StrapLevel where
  | openLand | tied | neither
  deriving DecidableEq, Repr

/-- The strap lands (R439): UNIT_B, ALMSEL_0 to ALMSEL_5, COMPAT_N. -/
structure Straps where
  unitB   : StrapLevel := .openLand
  almsel  : List StrapLevel := []
  compatN : StrapLevel := .openLand
  deriving DecidableEq, Repr

/-- A port of the switch fabric whose link can come up or go down (R141, R144, R489). -/
inductive PortId where
  | field (n : Fin 48) | uplink (u : Fin 4) | service
  deriving DecidableEq, Repr

/-- An output stage (R200). -/
inductive StageId where
  | currentLoop (i : Fin 48) | fastOutput (j : Fin 16) | digital (d : Fin 64)
  deriving DecidableEq, Repr

/-- Readings of the sensors of R490 and the supplies of 0x0F.01. -/
structure Sensors where
  vin : F32 := 0
  vsafe : F32 := 0
  lid : F32 := 0
  die : F32 := 0
  power : F32 := 0
  deriving DecidableEq, Repr

/-- What one current-loop stage measured over the tick (R206, R210, R490): read-back mean in mA, loop voltage
in volts, junction temperature. -/
structure LoopReading where
  readback : F32
  loopVolts : F32
  junction : F32
  deriving DecidableEq, Repr

/-- What the world supplies at a base tick boundary: stage readings by channel (a channel not listed keeps its last
reading), monitor readings of fast outputs by output (R217), sensor readings, and the banks whose isolated supply has come
back (R125). -/
structure TickIO where
  loops    : List (Nat × LoopReading) := []
  monitors : List (Nat × F32) := []
  sensors  : Option Sensors := none
  supplies : List Nat := []
  deriving DecidableEq, Repr

/-- Where the input of a conversion lies as to its range (R110). -/
inductive InputRange where
  | within | above | below
  deriving DecidableEq, Repr

/-- The result of one converter slot (R110, R114): code, over-range detector, parity of the received word,
sub-tick stamp of the end of conversion, and the die temperature sensor. -/
structure Conversion where
  code     : BitVec 18
  range    : InputRange := .within
  parityOk : Bool := true
  sub      : Nat := 0
  tDie     : F32 := 0
  deriving DecidableEq, Repr

/-- A PTP timestamp (R27): seconds and nanoseconds, with the correction in ns that its message carries. -/
structure PtpStamp where
  seconds    : Nat := 0
  nanos      : Nat := 0
  correction : Int := 0
  deriving DecidableEq, Repr

/-- A gPTP Sync received on an uplink (R29, R33): one-step with its own timestamp, or two-step with that of its Follow_Up
where one came; domain, grandmaster identity, the base-2 logarithm of its Sync interval in s, and the tool time within the
tick at which it was received. -/
structure SyncMessage where
  twoStep     : Bool := false
  origin      : PtpStamp := {}
  followUp    : Option PtpStamp := none
  domain      : Byte := 0
  grandmaster : U64 := 0
  logInterval : Int := -3
  rxSub       : Nat := 0
  deriving DecidableEq, Repr

/-- The width of a HAL_TICK pulse (R46). -/
inductive HalWidth where
  | zero | one | marker
  deriving DecidableEq, Repr

/-- A HAL_TICK edge seen at the lands: its offset from the unit's own boundary and its width. -/
structure HalEdge where
  offsetNs : Int
  width    : HalWidth
  deriving DecidableEq, Repr

/-- The transient events of an uplink other than a plain loss of link (R144). -/
inductive UplinkFault where
  | linkLoss | trainingFailed | fcsErrors (frames : Nat)
  deriving DecidableEq, Repr

/-- A NAND fault (R453): the area and what happened. -/
inductive NandArea where
  | slc | spill
  deriving DecidableEq, Repr

structure NandFault where
  area      : NandArea
  refresh   : Bool        -- a refresh; otherwise a block failed to program or erase
  exhausted : Bool        -- the area's reserve is used up
  deriving DecidableEq, Repr

/-- How a long-running command whose end depends on something measured or awaited comes out (R61). -/
inductive LongOutcome where
  | finish                                   -- the work is done
  | timeout                                  -- the limit the command's chapter states has passed
  | measured (v : List F32)                  -- the readings of a test load (R214, R217)
  | references (results : List (BitVec 18 × F32))    -- codes of reference conversions 0 to 3, 8 times each, each with t_die (R116, R125)
  deriving DecidableEq, Repr

/-- What a standard block of a program is (R267, R268): an edge detector on a point of the input list, a counter, or a timer with its
preset in µs. -/
inductive BlockKind where
  | edge (point : Nat)
  | counter
  | timer (preset : Nat)
  deriving DecidableEq, Repr

/-- A standard block as a cycle evaluates it: its instance by path, and the input the code gives a counter or a timer. -/
structure BlockCall where
  path      : List Byte
  kind      : BlockKind
  input     : Bool := false
  retentive : Bool := false
  deriving DecidableEq, Repr

/-- The instance data of a standard block (R267, R268, R273). -/
structure Block where
  path      : List Byte
  digest    : U64 := 0
  task      : Nat := 0                      -- of its last evaluation, 8·core + task
  kind      : BlockKind
  retentive : Bool := false
  was       : Option Bool := none           -- edge memory: the input latched at the previous executed start
  rose      : Bool := false                 -- outputs of an edge detector
  fell      : Bool := false
  count     : Nat := 0
  started   : Option Nat := none            -- start stamp of a timer in µs, none while it stands
  elapsed   : Nat := 0
  out       : Bool := false                 -- output of a timer
  deriving DecidableEq, Repr

/-- What a program cycle hands over at its end (R257). The code itself is Vasundi Studio's (R270), so its results
come with the event: the output image in list order, changed retentive variables, other changed variables (each by
path), writes to points outside the output list, the standard blocks evaluated, run time and end stamp. -/
structure CycleEnd where
  outputs   : List U32 := []
  retentive : List (List Byte × U64) := []
  vars      : List (List Byte × U64) := []
  strays    : List (Nat × U32) := []
  blocks    : List BlockCall := []
  runNs     : Nat := 0
  sub       : Nat := 0
  deriving DecidableEq, Repr

/-- What the safety island samples (R340, R344): levels of channels A and B of the 24 pairs, channels whose circuit
test failed since the last sample, the read-back of the 12 high-side and low-side switches, and whether VSAFE or a monitor
of the island (R338) is out of its limits at the sample. -/
structure SafetyIO where
  levelA   : BitVec 24 := 0
  levelB   : BitVec 24 := 0
  testA    : BitVec 24 := 0
  testB    : BitVec 24 := 0
  highOn   : BitVec 12 := 0
  lowOn    : BitVec 12 := 0
  current  : List (Nat × F32) := []
  supplyBad : Bool := false
  deriving DecidableEq, Repr

/-- A Shroud frame reaching the island: its bytes, the island-time stamp in ns and, for a DUAL connection, the path. -/
structure ShroudArrival where
  bytes   : List Byte
  stampNs : Nat
  path    : Fin 2
  deriving DecidableEq, Repr

/-- A HEARTBEAT (R393): the Ethernet payload that carries it, header and CRC included, and what the payload behind the header
tells. -/
structure HeartbeatFrame where
  frame      : List Byte := []
  mode       : Byte := 0
  role       : Byte := 0
  claim      : Byte := 0
  grade      : Byte := 0
  digest     : U32 := 0
  lastMirror : Nat := 0
  deriving DecidableEq, Repr

/-- What the pair checks of R386 and R428 compare when the Stay link comes up; `schema` is the mirror schema. -/
structure PeerInfo where
  unitBit      : Bool
  digest       : U32
  sourceDigest : U32
  settings     : U16 := 0        -- settings schema in use
  schema       : U16
  compatMin    : U16
  deriving DecidableEq, Repr

/-- A health report (R403, 0x0D.02). -/
structure HealthReport where
  grade            : Byte := 0
  caps             : U16 := 0
  testsPassed      : U32 := 0
  testsFailed      : U32 := 0
  lastFailedTest   : U16 := 0
  fecCorrected     : U64 := 0
  fecUncorrectable : U32 := 0
  reportTick       : Nat := 0
  deriving DecidableEq, Repr

/-- One mirrored point entry (R394): point, value, status byte, sub-tick. -/
structure MirrorPoint where
  point : Nat
  value : U32
  status : Byte
  subTick : U16
  deriving DecidableEq, Repr

/-- One mirrored force (R92, R394). -/
structure MirrorForce where
  point : Nat
  forced : U32
  underlying : U32
  underStatus : Byte
  underSub : U16
  setTick : Nat
  mailbox : Nat
  deriving DecidableEq, Repr

/-- Mirrored supervision state of a loop (R182, R394). -/
structure MirrorSupervision where
  loop : Nat
  runState : Nat
  lost : BitVec 4
  frozen : BitVec 4
  missing : List Nat
  freeze : List Nat
  returnCount : Nat
  openElapsed : Nat
  fbValue : List F32
  deriving DecidableEq, Repr

/-- Mirrored ramp state (R192, R394). -/
structure MirrorRamp where
  ramp : Nat
  value : F32
  velocity : F32
  target : F32
  status : Byte
  deriving DecidableEq, Repr

/-- Mirrored prompt-loop state (R170, R394). -/
structure MirrorPrompt where
  loop : Nat
  xh : List F32
  z : List F32
  ua : List F32
  deriving DecidableEq, Repr

/-- Mirrored sequencer state (R245, R394): state word fields, recipe, step, elapsed, term memories, values stored while
held, and a scheduled start as start tick and first step. -/
structure MirrorSequence where
  sequence : Nat
  state : Nat
  safetyHold : Bool
  allHold : Bool
  cmdHold : Bool
  pauseHold : Bool
  lastEnd : Nat
  fired : Nat
  cause : Nat
  step : Nat
  elapsed : Nat
  terms : List (Nat × Nat)
  recipe : Nat := 0
  ackSerial : Nat := 0
  ackResult : Nat := 0
  stored : List (Nat × U32) := []
  scheduled : Option (Nat × Nat) := none
  deriving DecidableEq, Repr

/-- One repetitive-memory write of the tick (R195, R394). -/
structure MirrorCell where
  rep : Nat
  slot : Nat
  index : Nat
  value : F32
  deriving DecidableEq, Repr

/-- Forces, owners and formats in force, and pending swaps, each as loop and tick (R92, R172, R394). -/
structure MirrorChanges where
  forces : List MirrorForce := []
  owners : List (Nat × Byte × Byte) := []
  swaps : List (Nat × Nat) := []
  deriving DecidableEq, Repr

/-- The content of one MIRROR part (R394). -/
inductive MirrorContent where
  | changes (c : MirrorChanges)
  | points (l : List MirrorPoint)
  | supervision (l : List MirrorSupervision)
  | ramps (l : List MirrorRamp)
  | prompts (l : List MirrorPrompt)
  | sequences (l : List MirrorSequence)
  | repCells (l : List MirrorCell)
  deriving DecidableEq, Repr

/-- A MIRROR part of a tick as received (R393, R394). -/
structure MirrorFrame where
  frame   : List Byte
  content : MirrorContent
  deriving DecidableEq, Repr

/-- The time-bounded grade caps of R388. -/
inductive TimedCap where
  | dramPage | stayErrors | selfTest
  deriving DecidableEq, Repr

/-- A line sent to the monitor in place of a known command (R480). -/
inductive MonitorLine where
  | known | unknown | tooLong
  deriving DecidableEq, Repr

/-- The mailbox commands (R51, R76, R99, R127, R145, R176, R199, R223, R249, R279, R317, R334, R366, R384, R407,
R435, R460), in the order of their class and opcode. -/
inductive Op where
  | identify
  | getMode
  | getMailbox
  | getDrops
  | getChallenge
  | enterService
  | leaveService
  | enterConfigure
  | goIdle
  | restartSupervisor
  | restartModule
  | setCompat
  | setBinding
  | getBindings
  | setMailboxPort
  | getTime
  | getTimeDetail
  | setTick
  | setTimeRole
  | setGptp
  | stepTime
  | readPoints
  | readRange
  | takeSnapshot
  | readSnapshot
  | freeSnapshot
  | writePoints
  | setForce
  | removeForce
  | listForces
  | setPointConfig
  | getPointConfig
  | getWriteFaults
  | getChannelStatus
  | getGroupStatus
  | setChannelConfig
  | getChannelConfig
  | setEnable
  | readCalibration
  | setUserTrim
  | setFaultThreshold
  | releaseGroup
  | clearCounters
  | getPortStatus
  | getUplinkStatus
  | setPortConfig
  | getPortConfig
  | releaseNode
  | writeNodeParams
  | readNodeParams
  | setPortFaultThreshold
  | releasePort
  | clearPortCounters
  | setUplink
  | getUplinkConfig
  | releaseUplink
  | getLoopConfig
  | getLoopStatus
  | getEngineLoad
  | setLoopWiring
  | writeBank
  | readBank
  | setSwapGroup
  | swap
  | cancelSwap
  | copyActive
  | startLoops
  | stopLoops
  | setStartState
  | releaseLoop
  | setLoopFaultThreshold
  | setSupervision
  | getSupervision
  | returnClosed
  | enterFallback
  | setRampConfig
  | getRamp
  | setRampTarget
  | setRampLimits
  | setRepConfig
  | getRepStatus
  | setRepState
  | snapshotRepMemory
  | readRepMemory
  | writeRepMemory
  | commitRepMemory
  | clearRepMemory
  | freeRepSnapshot
  | getClStatus
  | getFaoStatus
  | getDioStatus
  | setClConfig
  | getStageConfig
  | setClAlarm
  | setFaoConfig
  | setDioConfig
  | runTestLoad
  | releaseStage
  | setStageFaultThreshold
  | getSequenceStatus
  | getSequenceConfig
  | loadBegin
  | loadData
  | loadCommit
  | discardPending
  | readImage
  | start
  | hold
  | resume
  | jump
  | abort
  | setSequenceBinding
  | setSequencePoints
  | getTaskStatus
  | getCoreLoad
  | getProgramInfo
  | programLoadBegin
  | programLoadData
  | programLoadCommit
  | discardStaged
  | installStaged
  | onlineChange
  | stopTask
  | startTask
  | resetCore
  | setVarForce
  | removeVarForce
  | listVarForces
  | readVariables
  | clearTaskCounters
  | setStartKind
  | clearRetentive
  | getStreamStatus
  | getTriggerStatus
  | getSegmentStatus
  | setStreamConfig
  | setRecordSet
  | setFastSet
  | getStreamConfig
  | setTrigger
  | getTrigger
  | enableTriggers
  | hostMark
  | setArm
  | setSegmentConfig
  | readSegmentHeader
  | readSegmentData
  | clearSegments
  | readSkewTable
  | getRecorderStatus
  | openCursor
  | readWindow
  | closeCursor
  | getCodeInfo
  | setRateLimit
  | getClearChallenge
  | clearAudit
  | getSafetyStatus
  | getInputPair
  | getSafetyOutput
  | getAxis
  | getConfigInfo
  | readConfig
  | getShroudConnection
  | openSession
  | closeSession
  | configBegin
  | configData
  | configCheck
  | confirm
  | setPassword
  | safetyDiscardPending
  | getPairStatus
  | getHealthReport
  | getWitnesses
  | setPairConfig
  | getPairConfig
  | handover
  | resync
  | getUpdateStatus
  | stageBegin
  | stageData
  | stageVerify
  | stageDiscard
  | scheduleActivation
  | groupReady
  | cancelActivation
  | updateConfirm
  | reject
  | getHealth
  | getResetHistory
  | listRetired
  | getFaultCounter
  | getEccStatus
  | listRetiredPages
  | resetDomain
  | clearFaultCounter
  | getFuses
  | getStraps
  | setCommissioningKey
  | setDebugLock
  deriving DecidableEq, Repr

/-- A BULK item (R394, R396, R397): changed instance data and retentive words of a task's end, a command that changes
configuration, a pending swap, a recipe image, a program set, an exchange of the running set for the staged one; in SYNC also the
state of a loop. -/
inductive BulkItem where
  | instanceData (core : Fin 4) (task : Fin 8) (vars retentive : List (List Byte × U64)) (blocks : List Block)
  | command (op : Op) (payload : List Byte)
  | swap (loop : Fin 1024) (tick : Nat)
  | recipe (sequence : Fin 16) (active : Bool) (bytes : List Byte)
  | program (running : Bool) (bytes : List Byte)
  | exchange (boundary : Nat)
  | loopState (loop : Fin 1024) (xh z ua : List F32)
  deriving DecidableEq, Repr

/-- What the module finds at power-good beside its lands: the lid temperature in 0.01 °C (R438), and whether DRAM was trained and the
fuses were read (R457). -/
structure StartReading where
  lidCenti    : Int
  memoryReady : Bool
  deriving DecidableEq, Repr

/-- A gPTP source is lost by its Syncs or by its announce messages (R29). -/
structure SourceLoss where
  uplink   : Fin 2
  announce : Bool
  deriving DecidableEq, Repr

/-- A cyclic frame behind its EtherType, and the time within the tick, in ns, at which it has come (R131, R137). -/
structure FieldArrival where
  payload : List Byte
  sub     : Nat
  deriving DecidableEq, Repr

/-- The addresses of a datagram that comes to the stream (R293, R294). -/
structure StreamRoute where
  srcAddr : U32
  dstAddr : U32
  dstPort : U16
  deriving DecidableEq, Repr

/-- The frames in which a BULK item comes (R393), and the item. -/
structure BulkArrival where
  frames : List (List Byte)
  item   : BulkItem
  deriving DecidableEq, Repr

/-- The frame in which a HEALTH report comes (R393), and the report. -/
structure HealthArrival where
  frame  : List Byte
  report : HealthReport
  deriving DecidableEq, Repr

/-- One constructor per row of the table, in its order; the constructors of the mailbox commands carry the request
datagram. -/
inductive Instr where
  /-- R436: VIN has stood at or above 18.5 V for 10 ms, so the module starts, counts a power cycle and enters BOOT. -/
  | powerGood (straps : Straps) (reading : StartReading)
  /-- R327: VIN falls below 17 V; the pending record count is written to MRAM and an active pair member gives up with cause 0x03. -/
  | vinBelow17v
  /-- R436: VIN falls below 16.0 V and the module enters a whole-module reset until power-good returns. -/
  | vinBelow16v
  /-- R440: RESET_N is held low for at least 10 µs and the module enters a whole-module reset. -/
  | resetNLow (heldNs : Nat)
  /-- R74: The loader finishes verifying the slots and enters CONFIGURE, ACTIVATE or HALT. -/
  | bootComplete
  /-- R438: A T9648-A held in BOOT by a cold lid reads the lid temperature again every 10 s. -/
  | lidTempRecheck (lidCenti : Int)
  /-- R438: A T9648-AX warming in CONFIGURE reaches −10 °C lid temperature and stops refusing 0x01.14. -/
  | lidWarmReached
  /-- R421: The journaled copies RUN to FALLBACK and STAGE to RUN finish, STAGE is erased and the module restarts into BOOT. -/
  | activationCopyComplete
  /-- R426: On the first start after an activation, the new firmware finishes building its settings half from the FALLBACK half. -/
  | settingsMigration (failingItem : Option U32)
  /-- R440: The whole-module reset ordered by 0x01.16 or 0x0E.31 takes place about 10 ms after its DONE. -/
  | delayedRestart
  /-- R17: The supervisor lockstep cores disagree and the supervisor domain resets. -/
  | supervisorLockstepMismatch
  /-- R444: The supervisor watchdog is not served for 250 ms and resets the supervisor. -/
  | supervisorWatchdog
  /-- R69: The supervisor serves again and answers every open request RESTARTED with its stage. -/
  | supervisorRestartComplete
  /-- R444: A program core faults and its domain is reset. -/
  | coreFault (core : Fin 4)
  /-- R266: A core fails to abandon a cycle within 1 ms and its watchdog resets it. -/
  | coreWatchdog (core : Fin 4)
  /-- R277: A reset program core restarts within 50 ms and its tasks resume at their next scheduled starts. -/
  | coreRestartComplete (core : Fin 4)
  /-- R444: The release of tick k is not done by (k+1)·T + 20 µs and the loop engine with sequencer resets. -/
  | releaseDeadlineMissed
  /-- R168: At the first boundary 2 ms after its reset, running loops restart bumplessly and ramps restart as R192 states. -/
  | loopEngineRestart
  /-- R304: A staging error or overflow resets acquisition, the lost ticks are replaced by one GAP record and triggers restart disarmed. -/
  | acquisitionReset (overflow : Bool)
  /-- R450: A corrected word is written back and counted as one transient event of its region or page. -/
  | memoryCorrectedError (addr : Nat)
  /-- R452: An uncorrectable error has the outcome given for its region and retires the page or region. -/
  | memoryUncorrectableError (addr : Nat)
  /-- R453: A NAND block is refreshed or retired into the reserve, and an exhausted reserve makes the SLC store read-only. -/
  | nandBlockFault (fault : NandFault)
  /-- R25: Above 70 °C lid temperature the module stops NAND spill and lowers the current-loop supply margin. -/
  | thermalLimit (lidCenti : Int)
  /-- R457: The lid stays above 95 °C for 1 s, which is a permanent fault. -/
  | lidOvertemp
  /-- R41: At each base tick boundary the module resolves the events of the last tick in the rank order of R42. -/
  | tickBoundary (io : TickIO)
  /-- R36: A new base period set by 0x02.10 takes effect at the first boundary of the new grid. -/
  | tickPeriodChange
  /-- R162: At the start of each fast tick, every prompt loop issues urgent requests for its measured inputs. -/
  | fastTick (j : Nat)
  /-- R162: At fast-tick start + T/N − 500 ns, a prompt loop updates with its missing inputs marked unusable. -/
  | promptDeadline (loop : Fin 1024) (j : Nat)
  /-- R161: At (k+1)·T + 10 µs all period outputs, state and stage commands are released together. -/
  | periodRelease
  /-- R236: The elapsed count of a step reaches the level of an ELAPSED term. -/
  | elapsedReached (sequence : Fin 16)
  /-- R238: A START with a start tick enters its first step at rank 5 of tick s − 1. -/
  | scheduledStart (sequence : Fin 16)
  /-- R178: A measured input's missing count reaches loss_ticks and the loop may enter fallback. -/
  | inputLost (loop : Fin 1024) (input : Fin 4)
  /-- R179: A measured input's freeze count reaches freeze_ticks and the loop may enter fallback. -/
  | inputFrozen (loop : Fin 1024) (input : Fin 4)
  /-- R182: A loop that has spent open_ticks in OPEN enters its after_open mode. -/
  | openTimeout (loop : Fin 1024)
  /-- R183: Under AUTO, a loop returns bumplessly to CLOSED when its return count reaches return_ticks. -/
  | autoReturn (loop : Fin 1024)
  /-- R197: After calm_ticks ticks without a freezing condition, learning of a repetitive slot resumes. -/
  | learningResumed (rep : Fin 128) (slot : Fin 2)
  /-- R114: A converter slot ends and its sample word crosses to ENG with flags and tool-time stamp. -/
  | conversionEnd (group : Fin 12) (result : Conversion)
  /-- R103: A group's slot count wraps modulo 256 and a reference conversion becomes pending. -/
  | slotCountWrap (group : Fin 12)
  /-- R112: A channel's input passes its clamp threshold and the group's slots carry SETTLING. -/
  | clampDetect (channel : Fin 96)
  /-- R112: The last clamp of a group releases and SETTLING ends 10 µs later. -/
  | clampRelease (channel : Fin 96) (sub : Nat)
  /-- R123: No end of conversion for 2 µs resets the group, which converts references and resumes its round. -/
  | groupWatchdog (group : Fin 12)
  /-- R101: An isolation bank's supply fails and the bank and its three groups retire. -/
  | bankSupplyFail (bank : Fin 4)
  /-- R33: A gPTP Sync gives an offset measurement that drives the time-state transitions. -/
  | syncReceived (uplink : Fin 2) (sync : SyncMessage)
  /-- R29: After 3 Sync intervals without a valid Sync, or an announce timeout, a gPTP source becomes invalid. -/
  | gptpSourceTimeout (loss : SourceLoss)
  /-- R129: As grandmaster, the module sends two-step Sync on each field port every 31.25 ms. -/
  | fieldSyncSend
  /-- R129: The module answers a peer delay request on a field port. -/
  | pdelayRequest (port : PortId)
  /-- R47: A follower receives a HAL_TICK edge that disciplines phase and carries a bit of the tick frame. -/
  | halyardEdge (edge : HalEdge)
  /-- R47: No HAL_TICK edge within 2·T makes Halyard invalid. -/
  | halyardTimeout
  /-- R48: A BACKUP_MASTER that sees no edge for 3·T starts driving HAL_TICK. -/
  | backupMasterTakeover
  /-- R308: The master changes HAL_ARM at (a+1)·T + T/4 after 0x0A.24. -/
  | halArmDrive
  /-- R49: A HAL_ARM edge arms or disarms the unit from the boundary of the next tick. -/
  | halArmEdge (high : Bool)
  /-- R309: An armed unit with a fire_hal firing pulls HAL_FIRE_N in its slot and releases it at 3T/4. -/
  | halFireDrive
  /-- R309: Every armed unit stamps the first HAL_FIRE_N falling edge and places a HALYARD mark naming the firing unit. -/
  | halFireEdge (sub : Nat)
  /-- R420: A proceeding master raises HAL_ACT at (a_t − 1)·T + T/4 and lowers it at 3T/4. -/
  | halActDrive
  /-- R420: A member on Halyard stamps the rising HAL_ACT that lets it proceed with activation. -/
  | halActEdge
  /-- R137: A cyclic input frame arrives and, when timely and matching, sets the port's input points. -/
  | fieldInputFrame (port : Fin 48) (arrival : FieldArrival) (fcsOk : Bool)
  /-- R137: At boundary k+1 + 10 µs each port builds and sends its output frame with claim and Shroud block. -/
  | fieldOutputFrame (port : Fin 48)
  /-- R141: A field port loses link, counts a transient event and retrains. -/
  | portLinkLoss (port : PortId)
  /-- R141: A port that has not regained link within 1 s, or an uplink within 10 s, retires. -/
  | linkRegainTimeout (port : PortId)
  /-- R140: An acyclic parameter segment is received from a node. -/
  | acyclicSegment (port : Fin 48) (payload : List Byte) (last : Bool)
  /-- R140: A segment unanswered within 100 cycles is sent again, up to 3 times in all. -/
  | acyclicTimeout (port : Fin 48)
  /-- R144: An uplink loss of link, failed training or FCS-error second counts a transient event and may retire it. -/
  | uplinkFault (uplink : Fin 4) (fault : UplinkFault)
  /-- R143: The module answers an ARP request for its address. -/
  | arpRequest (path : Path) (target : U32)
  /-- R143: The module answers an ICMP echo request on an uplink. -/
  | icmpEchoRequest (uplink : Fin 4) (dst : U32) (data : List Byte)
  /-- R54: A partial request datagram is discarded 100 ms after its first fragment. -/
  | fragmentTimeout (path : Path)
  /-- R60: A request with QUERY returns the stored response or the state of the open request. -/
  | query (cls : Byte) (opcode : Byte) (d : Datagram)
  /-- R60: A request with COMPLETION_ACK acknowledges a completion notice. -/
  | completionAck (cls : Byte) (opcode : Byte) (d : Datagram)
  /-- R61: A long-running command completes, its final status is stored and a completion notice is sent. -/
  | longRunningCompletion (mailbox : Fin 64) (outcome : LongOutcome)
  /-- R61: An unacknowledged completion notice is sent again every 250 ms, 8 notices in all. -/
  | completionNoticeResend (mailbox : Fin 64)
  /-- R97: A point snapshot buffer is freed 10 s after it was taken or last read. -/
  | snapshotExpiry (buffer : Fin 4)
  /-- R198: A repetitive-memory snapshot buffer is freed 10 s after it was taken or last read. -/
  | repSnapshotExpiry (buffer : Fin 4)
  /-- R331: A recorder cursor is freed after 60 s without use. -/
  | cursorExpiry (cursor : Fin 16)
  /-- R74: The service link is down for 10 s, or no request arrives on mailboxes 0 to 3 for 600 s, and the module leaves SERVICE. -/
  | serviceTimeout
  /-- R361: A safety session ends after 600 s without a request. -/
  | sessionTimeout
  /-- R252: A CYCLIC task starts at a boundary with m mod n = p and latches its inputs. -/
  | cyclicTaskStart (core : Fin 4) (task : Fin 8)
  /-- R253: An EVENT task whose trigger condition changed starts at the next boundary, unless suppressed. -/
  | eventTaskStart (core : Fin 4) (task : Fin 8)
  /-- R257: A cycle stages its outputs, writes retentive data and its commit marker, and its outputs are applied at rank 7. -/
  | taskEnd (core : Fin 4) (task : Fin 8) (cycle : CycleEnd)
  /-- R261: A trap ends the cycle without commit and counts a transient event of the task. -/
  | cigenTrap (core : Fin 4) (task : Fin 8) (code : Byte) (pc : U32)
  /-- R272: At the first boundary after tick c with no task running, the running set is exchanged for the staged set. -/
  | onlineChangeBoundary
  /-- R272: No exchange boundary within window_ms ends the online change BUSY. -/
  | onlineChangeTimeout
  /-- R289: At boundary k+2 the records of tick k are packed into frames in the ring and sent. -/
  | recordPacking
  /-- R294: A valid acknowledgement frees frames below ack_seq and resends frames named by nacks. -/
  | acknowledgement (uplink : Fin 2) (route : StreamRoute) (bytes : List Byte)
  /-- R295: No valid acknowledgement on the stream path for ack_timeout loses the path and moves the stream. -/
  | pathTimeout
  /-- R295: While the host is unreachable, a probe frame is sent every 1 s alternately on U0 and U1. -/
  | probeSend
  /-- R311: At each multiple of c a capture of the sources is taken into the current segment. -/
  | segmentCapture
  /-- R323: When 64 entries are pending, or 200 ms after the oldest, the recorder commits a batch to NAND and writes its marker. -/
  | batchCommit
  /-- R324: A code's token bucket below its burst gains one token every interval. -/
  | tokenRefill (code : U16)
  /-- R324: A suppressed count not carried within 60 s goes into a SUPPRESSED_SUMMARY record. -/
  | suppressedSummary
  /-- R340: Every 250 µs the island samples all input pairs, evaluates the safety logic and drives its outputs. -/
  | safetySample (io : SafetyIO)
  /-- R361: The confirmation pattern not completed within 30 s ends confirmation and leaves the configuration pending. -/
  | confirmationTimeout
  /-- R346: Once per second, at offset 80 ms × m, a dark or bright pulse tests one switch of an output. -/
  | testPulse (output : Fin 12)
  /-- R346: At the end of a test pulse the island checks the read-back and restores the commanded state. -/
  | testPulseEnd (output : Fin 12) (readbackOk : Bool)
  /-- R344: An overload lasting 10 ms opens both switches of a safety output and sets its overload bit. -/
  | safetyOutputOverload (output : Fin 12)
  /-- R353: Every 1 ms the island cross-compares each axis's sources and supervises its stop and limit functions. -/
  | axisEvaluation
  /-- R337: No tick boundary in the mirror for 2 ms puts the island into lock-out with cause 0x0C. -/
  | tickMirrorSilent
  /-- R338: VSAFE outside [18.0 V, 32.0 V] for more than 1 ms is a safety fault with cause 0x09. -/
  | vsafeFault
  /-- R338: An island rail, oscillator or die temperature out of tolerance is a safety fault with cause 0x0A. -/
  | islandMonitorFault
  /-- R338: The island lockstep cores disagree, a safety fault with cause 0x01. -/
  | islandLockstepMismatch
  /-- R335: The island watchdog resets the island when a sample evaluation is not completed within 1 ms. -/
  | islandWatchdog
  /-- R338: Every 10 s the island scrubs its SRAM and checks its configuration CRC. -/
  | islandScrub (memoryOk : Bool) (configOk : Bool)
  /-- R336: A frame on the configuration connection gives the island the module mode and possibly a class 0x0C command. -/
  | configConnectionFrame
  /-- R421: The island reads and checks its new firmware section, then starts it in lock-out or stays on its running firmware. -/
  | islandFirmwareRestart
  /-- R371: A Shroud frame is checked and accepted, discarded or counted as an error on its connection. -/
  | shroudFrame (connection : Fin 64) (arrival : ShroudArrival)
  /-- R377: An uplink Shroud datagram is checked and its frames are passed to the connections. -/
  | shroudDatagram (path : Fin 2) (srcAddr : U32) (bytes : List Byte) (stampNs : Nat)
  /-- R374: A connection watchdog expires, the connection goes LOST and a required connection faults. -/
  | shroudWatchdogExpiry (connection : Fin 64)
  /-- R380: No copy on a DUAL path for more than one window marks the path missing with a warning. -/
  | pathMissing (connection : Fin 64) (path : Fin 2)
  /-- R380: A DUAL path missing for more than 3 windows is a safety fault with cause 0x08. -/
  | pathMissingFault (connection : Fin 64) (path : Fin 2)
  /-- R377: At boundary k+1 + 10 µs each unit sends its UPLINK Shroud datagram on each uplink concerned. -/
  | shroudUplinkSend
  /-- R201: A peer claim word passing its checks sets each stage DRIVING, ASIDE or HELD. -/
  | claimWord (word : U32)
  /-- R201: No valid peer claim word for 3 µs sets stages HELD and claim_lost. -/
  | claimWordTimeout
  /-- R211: A read-back shortfall of more than 0.08 mA held for 1 ms sets or clears compliance. -/
  | complianceDetect (channel : Fin 48) (present : Bool)
  /-- R211: Less than 0.2 mA flowing for 1 ms with more than 4 mA applied sets open. -/
  | openLoopDetect (channel : Fin 48) (present : Bool)
  /-- R212: A stage at 150 °C junction lowers its current limit in steps, and restores it below 140 °C. -/
  | foldback (channel : Fin 48) (junction : F32)
  /-- R213: A current-loop mismatch count exceeding 10 ms ÷ T retires the channel. -/
  | readbackMismatch (channel : Fin 48)
  /-- R217: A fast-output monitor reading off by more than 0.1 % for more than 10 ms retires the output. -/
  | monitorMismatch (output : Fin 16)
  /-- R219: A filtered digital input edge is stamped, counted and latched. -/
  | digitalInputEdge (channel : Fin 64) (level : Bool) (sub : Nat)
  /-- R220: A digital output overload switches it off and counts a transient event. -/
  | outputOverload (channel : Fin 64)
  /-- R220: An overloaded output commanded ON retries every 100 ms. -/
  | overloadRetry (channel : Fin 64)
  /-- R220: Less than 5 mA for 100 ms in the ON state sets open. -/
  | openLoadDetect (channel : Fin 64)
  /-- R220: A digital output land level differing from the applied state for more than 1 ms counts a transient event. -/
  | landMismatch (channel : Fin 64)
  /-- R469: DSUP_g falls below or returns above 17 V, switching the group's outputs off or back. -/
  | dsupUndervoltage (group : Fin 8) (below : Bool)
  /-- R393: A HEARTBEAT frame from the peer is received on the Stay link. -/
  | heartbeat (hb : HeartbeatFrame)
  /-- R393: Each unit sends a HEARTBEAT at every boundary plus 2 µs. -/
  | heartbeatSend
  /-- R397: No valid HEARTBEAT for 3 ticks, or the Stay link down, puts the unit into SPLIT or SOLO. -/
  | heartbeatLoss (stayDown : Bool)
  /-- R386: The Stay link comes up and the pair checks of unit bit, digest and schema run. -/
  | stayLinkUp (peer : PeerInfo)
  /-- R394: The active unit sends the mirror of tick k from 0.5 µs after its release. -/
  | mirrorSend
  /-- R395: A MIRROR part of a tick is received by the standby. -/
  | mirrorFrame (frame : MirrorFrame)
  /-- R395: At (k+1)·T + 75 µs the standby loads the mirrored outputs into its ASIDE stages. -/
  | loadPoint
  /-- R395: A mirror incomplete 2 µs before boundary k+2, or a digest mismatch, puts the standby into SYNC. -/
  | mirrorDeadline
  /-- R396: A BULK item of configuration or committed instance data arrives and is applied at the next boundary. -/
  | bulkItem (arrival : BulkArrival)
  /-- R395: A CONTROL frame requests a missing mirror part again: its header and what follows (R393). -/
  | controlFrame (header rest : List Byte)
  /-- R403: A unit sends and receives a HEALTH report every 1 s. -/
  | healthFrame (arrival : HealthArrival)
  /-- R392: A unit that gave up after a complete mirror changes its claim at the load point of its last released tick. -/
  | claimChangeDelayed
  /-- R397: With both links lost, a standby promotes after the witnesses report the peer's frames stopped for promote_ticks ticks. -/
  | witnessPromotion
  /-- R391: An active unit in SOLO unsupported by any witness for 2 ticks gives up with cause 0x05. -/
  | witnessLossGiveUp
  /-- R396: An active unit whose standby reports a grade yield_margin higher for 10 s gives up with cause 0x07. -/
  | automaticYield
  /-- R402: A standby sweeps one stage into the test load, each stage every 120 s. -/
  | selfTestSweep (stage : StageId) (measured : List F32)
  /-- R419: At the deadline tick the unit judges its readiness and the group's readiness for activation. -/
  | activationDeadline
  /-- R419: At the boundary of a_t − 1 the unit proceeds with activation or defers with a reason. -/
  | activationProceed
  /-- R419: A proceeding unit restarts at the boundary of a_t and enters ACTIVATE. -/
  | activationRestart
  /-- R422: With auto_confirm set, grade 5 held for confirm_hold_s confirms RUN. -/
  | autoConfirm
  /-- R424: The 600 s window closes without confirmation and RUN becomes REJECTED. -/
  | confirmationWindowClose
  /-- R76: Returns ordering code, serial, firmware version, slot and counters. -/
  | identify (d : Datagram)
  /-- R76: Returns the mode, the previous mode, the cause of the last change and sequence counts. -/
  | getMode (d : Datagram)
  /-- R76: Returns a mailbox's status word, tag, binding and counts. -/
  | getMailbox (d : Datagram)
  /-- R76: Returns the datagram drop counts by cause. -/
  | getDrops (d : Datagram)
  /-- R76: Returns a one-use nonce for ENTER_SERVICE. -/
  | getChallenge (d : Datagram)
  /-- R76: Checks the hmac over the nonce and enters SERVICE. -/
  | enterService (d : Datagram)
  /-- R76: Leaves SERVICE for CONFIGURE or LOCKOUT with settings reloaded. -/
  | leaveService (d : Datagram)
  /-- R76: Stops loops and programs and enters CONFIGURE from IDLE. -/
  | enterConfigure (d : Datagram)
  /-- R76: Leaves CONFIGURE for IDLE, or SYNC for a pair member, when the configuration is complete. -/
  | goIdle (d : Datagram)
  /-- R76: Resets the supervisor domain after sending DONE. -/
  | restartSupervisor (d : Datagram)
  /-- R76: Orders a whole-module reset 10 ms after DONE. -/
  | restartModule (d : Datagram)
  /-- R484: Sets the compatibility bits, effective at the next entry to IDLE. -/
  | setCompat (d : Datagram)
  /-- R66: Binds a mailbox to a role and source filter, with an audit record. -/
  | setBinding (d : Datagram)
  /-- R76: Returns all 64 mailbox bindings. -/
  | getBindings (d : Datagram)
  /-- R76: Sets the mailbox UDP port, effective from the next entry to CONFIGURE. -/
  | setMailboxPort (d : Datagram)
  /-- R51: Returns tool time, tick index, time state, source, period and N. -/
  | getTime (d : Datagram)
  /-- R51: Returns offset, slew, pending step, holdover and source states. -/
  | getTimeDetail (d : Datagram)
  /-- R36: Sets T and N, effective at a boundary of the new grid. -/
  | setTick (d : Datagram)
  /-- R28: Sets the time role, unit number, Halyard delay and free_run_allowed. -/
  | setTimeRole (d : Datagram)
  /-- R51: Sets the gPTP domain and enables U1 as a source. -/
  | setGptp (d : Datagram)
  /-- R31: Takes a pending step of tool time in CONFIGURE. -/
  | stepTime (d : Datagram)
  /-- R97: Returns listed point entries as after the resolution of one tick. -/
  | readPoints (d : Datagram)
  /-- R97: Returns a range of point entries as after one tick. -/
  | readRange (d : Datagram)
  /-- R97: Copies all 8,192 entries into a snapshot buffer. -/
  | takeSnapshot (d : Datagram)
  /-- R97: Returns part of a snapshot buffer. -/
  | readSnapshot (d : Datagram)
  /-- R97: Frees a snapshot buffer. -/
  | freeSnapshot (d : Datagram)
  /-- R87: Writes host-owned points, all or none, with the lower mailbox winning a same-tick conflict. -/
  | writePoints (d : Datagram)
  /-- R90: Forces a point's value for every reader, with an audit record. -/
  | setForce (d : Datagram)
  /-- R92: Removes one or all forces, restoring the underlying value at the next boundary. -/
  | removeForce (d : Datagram)
  /-- R99: Returns the forces with their underlying values. -/
  | listForces (d : Datagram)
  /-- R83: Sets owner and format of points, effective at entry to IDLE. -/
  | setPointConfig (d : Datagram)
  /-- R83: Returns the configured owners and formats. -/
  | getPointConfig (d : Datagram)
  /-- R99: Returns non-finite and non-owner write counts per block. -/
  | getWriteFaults (d : Datagram)
  /-- R127: Returns an analogue channel's configuration, last word and counts. -/
  | getChannelStatus (d : Datagram)
  /-- R127: Returns a converter group's state, trims, temperature and counts. -/
  | getGroupStatus (d : Datagram)
  /-- R108: Sets enable, range and point mode of analogue channels. -/
  | setChannelConfig (d : Datagram)
  /-- R127: Returns analogue channel configurations. -/
  | getChannelConfig (d : Datagram)
  /-- R127: Enables or disables a channel in the round from the next tick. -/
  | setEnable (d : Datagram)
  /-- R121: Returns a channel or group calibration record. -/
  | readCalibration (d : Datagram)
  /-- R127: Sets a channel's user gain and offset trim. -/
  | setUserTrim (d : Datagram)
  /-- R124: Sets a converter group's fault counter threshold. -/
  | setFaultThreshold (d : Datagram)
  /-- R125: Checks and releases a retired converter group. -/
  | releaseGroup (d : Datagram)
  /-- R127: Clears a group's channel counts. -/
  | clearCounters (d : Datagram)
  /-- R145: Returns a field port's state, node and counts. -/
  | getPortStatus (d : Datagram)
  /-- R145: Returns an uplink's link, role and counts. -/
  | getUplinkStatus (d : Datagram)
  /-- R136: Configures a field port's role, entries, timing, watchdog and node identity. -/
  | setPortConfig (d : Datagram)
  /-- R145: Returns a field port's configuration. -/
  | getPortConfig (d : Datagram)
  /-- R139: Sets release in output frames until the node reports safe_state clear. -/
  | releaseNode (d : Datagram)
  /-- R140: Writes a node parameter block in acyclic segments. -/
  | writeNodeParams (d : Datagram)
  /-- R140: Reads a node parameter block in acyclic segments. -/
  | readNodeParams (d : Datagram)
  /-- R141: Sets the fault threshold of a field port or uplink. -/
  | setPortFaultThreshold (d : Datagram)
  /-- R141: Releases a retired field port after 64 valid frames within 1 s. -/
  | releasePort (d : Datagram)
  /-- R145: Clears port counters. -/
  | clearPortCounters (d : Datagram)
  /-- R143: Sets an uplink's role, address, mask, gateway and MTU. -/
  | setUplink (d : Datagram)
  /-- R145: Returns an uplink's configuration. -/
  | getUplinkConfig (d : Datagram)
  /-- R144: Restarts and releases a retired uplink. -/
  | releaseUplink (d : Datagram)
  /-- R176: Returns a loop's wiring and start state. -/
  | getLoopConfig (d : Datagram)
  /-- R175: Returns a loop's status word, outputs and state. -/
  | getLoopStatus (d : Datagram)
  /-- R176: Returns loop engine load figures. -/
  | getEngineLoad (d : Datagram)
  /-- R158: Sets a loop's wiring and resets its supervision part to defaults. -/
  | setLoopWiring (d : Datagram)
  /-- R171: Writes a loop's inactive coefficient bank and parameter set after checks. -/
  | writeBank (d : Datagram)
  /-- R176: Returns a coefficient bank and parameter set. -/
  | readBank (d : Datagram)
  /-- R176: Sets the loops of a swap group. -/
  | setSwapGroup (d : Datagram)
  /-- R172: Schedules a bank swap for a loop or group at tick s. -/
  | swap (d : Datagram)
  /-- R176: Cancels a pending swap, which ends SUPERSEDED. -/
  | cancelSwap (d : Datagram)
  /-- R171: Copies the active bank into the inactive bank. -/
  | copyActive (d : Datagram)
  /-- R166: Starts loops bumplessly from the update of tick a + 2. -/
  | startLoops (d : Datagram)
  /-- R167: Stops loops from tick a + 2, leaving outputs at their last value. -/
  | stopLoops (d : Datagram)
  /-- R166: Sets a loop's start estimate. -/
  | setStartState (d : Datagram)
  /-- R169: Releases a retired loop and restarts it bumplessly. -/
  | releaseLoop (d : Datagram)
  /-- R150: Sets a loop's numeric fault threshold. -/
  | setLoopFaultThreshold (d : Datagram)
  /-- R177: Sets a loop's supervision part from tick a + 2. -/
  | setSupervision (d : Datagram)
  /-- R199: Returns a loop's supervision settings and counts. -/
  | getSupervision (d : Datagram)
  /-- R183: Returns a loop in fallback to CLOSED from tick a + 2. -/
  | returnClosed (d : Datagram)
  /-- R184: Puts a loop into a chosen fallback mode from tick a + 2. -/
  | enterFallback (d : Datagram)
  /-- R187: Configures a ramp's source, points, initial value and limits. -/
  | setRampConfig (d : Datagram)
  /-- R199: Returns a ramp's state and points. -/
  | getRamp (d : Datagram)
  /-- R187: Sets the target of a HOST ramp. -/
  | setRampTarget (d : Datagram)
  /-- R187: Sets rate_t and accel_t of a HOST or POINT ramp. -/
  | setRampLimits (d : Datagram)
  /-- R193: Configures a repetitive controller. -/
  | setRepConfig (d : Datagram)
  /-- R199: Returns a repetitive controller's state and counts. -/
  | getRepStatus (d : Datagram)
  /-- R196: Sets a repetitive controller OFF, HOLD_MEMORY or LEARN from tick a + 2. -/
  | setRepState (d : Datagram)
  /-- R198: Copies a controller's memory into a snapshot buffer. -/
  | snapshotRepMemory (d : Datagram)
  /-- R198: Returns cells of a memory snapshot. -/
  | readRepMemory (d : Datagram)
  /-- R198: Stages memory cells for a later commit. -/
  | writeRepMemory (d : Datagram)
  /-- R198: Checks the staged cells and replaces both slots at once. -/
  | commitRepMemory (d : Datagram)
  /-- R199: Clears a controller's memory from tick a + 2. -/
  | clearRepMemory (d : Datagram)
  /-- R198: Frees a memory snapshot buffer. -/
  | freeRepSnapshot (d : Datagram)
  /-- R215: Returns a current-loop channel's stage status and readings. -/
  | getClStatus (d : Datagram)
  /-- R223: Returns a fast output's drive, code and monitor reading. -/
  | getFaoStatus (d : Datagram)
  /-- R223: Returns a digital channel's state and counts. -/
  | getDioStatus (d : Datagram)
  /-- R205: Configures a current-loop channel's mode, alarm, clamp and idle state. -/
  | setClConfig (d : Datagram)
  /-- R223: Returns a stage's configuration. -/
  | getStageConfig (d : Datagram)
  /-- R208: Sets or clears ALARM on a current-loop output from the release of tick a. -/
  | setClAlarm (d : Datagram)
  /-- R223: Configures a fast output's idle state. -/
  | setFaoConfig (d : Datagram)
  /-- R218: Configures digital channels' direction, filter, idle and open-load. -/
  | setDioConfig (d : Datagram)
  /-- R214: Tests a stage at three values into its test load. -/
  | runTestLoad (d : Datagram)
  /-- R214: Tests and releases a retired stage. -/
  | releaseStage (d : Datagram)
  /-- R220: Sets a stage's fault counter threshold. -/
  | setStageFaultThreshold (d : Datagram)
  /-- R249: Returns a sequence's state word, step and images. -/
  | getSequenceStatus (d : Datagram)
  /-- R249: Returns a sequence's status base, control point and bindings. -/
  | getSequenceConfig (d : Datagram)
  /-- R233: Opens a recipe image load and discards any pending image. -/
  | loadBegin (d : Datagram)
  /-- R233: Writes a part of a recipe image. -/
  | loadData (d : Datagram)
  /-- R232: Checks a recipe image and makes it the pending image. -/
  | loadCommit (d : Datagram)
  /-- R233: Discards a sequence's pending image. -/
  | discardPending (d : Datagram)
  /-- R249: Returns part of an active or pending recipe image. -/
  | readImage (d : Datagram)
  /-- R238: Starts a sequence at once or at a scheduled tick, activating a pending image. -/
  | start (d : Datagram)
  /-- R239: Sets cmd_hold on a sequence, or all_hold on all, from tick a + 1. -/
  | hold (d : Datagram)
  /-- R240: Clears command and pause holds of a sequence or all sequences. -/
  | resume (d : Datagram)
  /-- R241: Enters a named step at rank 8. -/
  | jump (d : Datagram)
  /-- R242: Sends a running sequence to its abort list or cancels a scheduled start. -/
  | abort (d : Datagram)
  /-- R225: Binds ramps and points to a sequence. -/
  | setSequenceBinding (d : Datagram)
  /-- R226: Sets a sequence's status point block and control point. -/
  | setSequencePoints (d : Datagram)
  /-- R278: Returns a task's status word and counts. -/
  | getTaskStatus (d : Datagram)
  /-- R279: Returns a core's load and reset count. -/
  | getCoreLoad (d : Datagram)
  /-- R279: Returns the running or staged program set's identity. -/
  | getProgramInfo (d : Datagram)
  /-- R271: Opens a program set load into the staged slot. -/
  | programLoadBegin (d : Datagram)
  /-- R271: Writes a part of a program set. -/
  | programLoadData (d : Datagram)
  /-- R271: Checks a program set and stages it. -/
  | programLoadCommit (d : Datagram)
  /-- R279: Discards the staged program set. -/
  | discardStaged (d : Datagram)
  /-- R271: Makes the staged set the running set from the next entry to IDLE. -/
  | installStaged (d : Datagram)
  /-- R272: Schedules the exchange of the running set for the staged set at a boundary b. -/
  | onlineChange (d : Datagram)
  /-- R279: Stops a task after its running cycle, with outputs HELD. -/
  | stopTask (d : Datagram)
  /-- R266: Starts a stopped or FAULTED task at its next scheduled start. -/
  | startTask (d : Datagram)
  /-- R277: Resets a program core and answers after its restart. -/
  | resetCore (d : Datagram)
  /-- R276: Forces a program variable by path. -/
  | setVarForce (d : Datagram)
  /-- R276: Removes one or all variable forces. -/
  | removeVarForce (d : Datagram)
  /-- R279: Returns the variable forces. -/
  | listVarForces (d : Datagram)
  /-- R279: Returns program variables from the committed copies. -/
  | readVariables (d : Datagram)
  /-- R279: Clears task counters. -/
  | clearTaskCounters (d : Datagram)
  /-- R264: Sets WARM or COLD start. -/
  | setStartKind (d : Datagram)
  /-- R279: Clears live and shadow retentive copies with an audit record. -/
  | clearRetentive (d : Datagram)
  /-- R317: Returns Stockpot stream, ring and spill status. -/
  | getStreamStatus (d : Datagram)
  /-- R317: Returns a trigger's entry, armed state and counts. -/
  | getTriggerStatus (d : Datagram)
  /-- R317: Returns segmented capture status. -/
  | getSegmentStatus (d : Datagram)
  /-- R280: Sets acquisition mode, divisor, host addresses, ack timeout and copy. -/
  | setStreamConfig (d : Datagram)
  /-- R281: Includes or excludes points in the record set. -/
  | setRecordSet (d : Datagram)
  /-- R283: Sets the fast set of prompt-loop inputs and outputs. -/
  | setFastSet (d : Datagram)
  /-- R317: Returns the stream configuration. -/
  | getStreamConfig (d : Datagram)
  /-- R302: Sets a trigger entry from tick a + 2. -/
  | setTrigger (d : Datagram)
  /-- R317: Returns a trigger entry. -/
  | getTrigger (d : Datagram)
  /-- R302: Enables or disables triggers from tick a + 2. -/
  | enableTriggers (d : Datagram)
  /-- R307: Places a HOST mark at rank 8 of the command's tick. -/
  | hostMark (d : Datagram)
  /-- R308: Arms or disarms acquisition, driving HAL_ARM on the master. -/
  | setArm (d : Datagram)
  /-- R311: Configures segmented capture. -/
  | setSegmentConfig (d : Datagram)
  /-- R314: Returns a segment header. -/
  | readSegmentHeader (d : Datagram)
  /-- R317: Returns captures of a segment. -/
  | readSegmentData (d : Datagram)
  /-- R312: Clears all segments and re-arms segment 0. -/
  | clearSegments (d : Datagram)
  /-- R305: Returns the channel skew table. -/
  | readSkewTable (d : Datagram)
  /-- R334: Returns recorder counts and log state. -/
  | getRecorderStatus (d : Datagram)
  /-- R331: Opens a cursor on a log, bound to the mailbox. -/
  | openCursor (d : Datagram)
  /-- R332: Fixes and returns a window of up to 64 records and advances the cursor. -/
  | readWindow (d : Datagram)
  /-- R331: Frees a cursor. -/
  | closeCursor (d : Datagram)
  /-- R319: Returns whether a code is defined, its audit attribute and its bucket. -/
  | getCodeInfo (d : Datagram)
  /-- R324: Sets a code's token bucket. -/
  | setRateLimit (d : Datagram)
  /-- R330: Returns a nonce, last_seq and digest for clearing the audit log. -/
  | getClearChallenge (d : Datagram)
  /-- R330: Clears the audit log on a valid hmac and writes three AUDIT_CLEARED records. -/
  | clearAudit (d : Datagram)
  /-- R366: Returns the safety status points and counts. -/
  | getSafetyStatus (d : Datagram)
  /-- R366: Returns an input pair's state. -/
  | getInputPair (d : Datagram)
  /-- R366: Returns a safety output's state. -/
  | getSafetyOutput (d : Datagram)
  /-- R366: Returns an axis's positions, speeds and state. -/
  | getAxis (d : Datagram)
  /-- R366: Returns safety configuration identity, CRCs and password state. -/
  | getConfigInfo (d : Datagram)
  /-- R366: Returns part of the safety configuration in use. -/
  | readConfig (d : Datagram)
  /-- R384: Returns a Shroud connection's state and counts. -/
  | getShroudConnection (d : Datagram)
  /-- R361: Opens a safety session with the password. -/
  | openSession (d : Datagram)
  /-- R361: Closes the safety session. -/
  | closeSession (d : Datagram)
  /-- R361: Opens a safety configuration load. -/
  | configBegin (d : Datagram)
  /-- R361: Writes a part of a safety configuration. -/
  | configData (d : Datagram)
  /-- R361: Checks the safety configuration and returns its CRC. -/
  | configCheck (d : Datagram)
  /-- R361: Enters CONFIRMING on a matching CRC and awaits the confirmation pattern. -/
  | confirm (d : Datagram)
  /-- R362: Sets or changes the safety password. -/
  | setPassword (d : Datagram)
  /-- R366: Discards a pending safety configuration. -/
  | safetyDiscardPending (d : Datagram)
  /-- R404: Returns the pair status word and counts. -/
  | getPairStatus (d : Datagram)
  /-- R403: Returns the last health report of a unit. -/
  | getHealthReport (d : Datagram)
  /-- R407: Returns the witness ports' reports. -/
  | getWitnesses (d : Datagram)
  /-- R386: Configures pairing, witnesses, promote_ticks, auto_rejoin and yield_margin. -/
  | setPairConfig (d : Datagram)
  /-- R407: Returns the pair configuration. -/
  | getPairConfig (d : Datagram)
  /-- R407: Gives up control with cause 0x04 so that the standby takes over. -/
  | handover (d : Datagram)
  /-- R407: Puts the unit into SYNC. -/
  | resync (d : Datagram)
  /-- R416: Returns slot states, counters and the schedule. -/
  | getUpdateStatus (d : Datagram)
  /-- R414: Names an image by length and digest and resumes or erases STAGE. -/
  | stageBegin (d : Datagram)
  /-- R414: Writes a part of the staged image and commits complete blocks. -/
  | stageData (d : Datagram)
  /-- R412: Verifies the staged image. -/
  | stageVerify (d : Datagram)
  /-- R415: Erases STAGE. -/
  | stageDiscard (d : Datagram)
  /-- R417: Schedules an activation at tick a_t and reports readiness. -/
  | scheduleActivation (d : Datagram)
  /-- R418: Tells a member which members of its group are ready. -/
  | groupReady (d : Datagram)
  /-- R420: Cancels the schedule with deferral reason 10. -/
  | cancelActivation (d : Datagram)
  /-- R423: Confirms RUN, blows rollback fuses and writes an audit record. -/
  | updateConfirm (d : Datagram)
  /-- R424: Rejects an UNCONFIRMED RUN and restarts into FALLBACK. -/
  | reject (d : Datagram)
  /-- R460: Returns supplies, temperatures, power and fault counts. -/
  | getHealth (d : Datagram)
  /-- R489: Returns the last 16 resets. -/
  | getResetHistory (d : Datagram)
  /-- R460: Returns the retired resources with causes. -/
  | listRetired (d : Datagram)
  /-- R455: Returns a resource's fault counter. -/
  | getFaultCounter (d : Datagram)
  /-- R460: Returns memory error counts and scrub status. -/
  | getEccStatus (d : Datagram)
  /-- R460: Returns the retired DRAM pages. -/
  | listRetiredPages (d : Datagram)
  /-- R444: Resets the acquisition, a port or a converter group domain. -/
  | resetDomain (d : Datagram)
  /-- R456: Discards a resource's kept fault stamps. -/
  | clearFaultCounter (d : Datagram)
  /-- R446: Returns the fuse fields. -/
  | getFuses (d : Datagram)
  /-- R460: Returns the strap values read at start. -/
  | getStraps (d : Datagram)
  /-- R447: Stores the commissioning key and blows its fuses. -/
  | setCommissioningKey (d : Datagram)
  /-- R446: Blows the debug_lock fuses. -/
  | setDebugLock (d : Datagram)
  /-- R482: The monitor lists the commands available. -/
  | monHelp (line : MonitorLine)
  /-- R482: The monitor prints the fields of 0x01.01. -/
  | monId
  /-- R482: The monitor prints mode, time state and pair role. -/
  | monMode
  /-- R482: The monitor prints the fields of 0x0F.01. -/
  | monHealth
  /-- R482: The monitor starts printing the tick index and time state every second until a character arrives. -/
  | monTick
  /-- R482: Each second of tool time the monitor prints one TICK line. -/
  | monitorTickLine
  /-- R482: The monitor prints point entries. -/
  | monPt (point : Nat) (count : Option Nat)
  /-- R482: The monitor prints the newest general-log records. -/
  | monRec (count : Option Nat)
  /-- R483: The monitor prints the start-up trace again. -/
  | monTrace
  /-- R141: A field port, uplink or service port gains link after training, so its cyclic traffic, mailbox or stream path can resume. -/
  | portLinkUp (port : PortId)
  /-- R74: The service port link goes down, which starts the 10 s count after which the module leaves SERVICE. -/
  | serviceLinkDown
  /-- R390: Every 1 µs the claim composer sends one claim word with the current claim on CLM_TX_P/N, including grade-0 words through a whole-module reset. -/
  | claimWordSend
  /-- R388: A time-bounded grade cap (a DRAM page retired in the last 24 h, Stay-link errors over the last 60 s, a self-test failed in the last 600 s) lapses and the health grade rises. -/
  | gradeCapExpiry (cap : TimedCap)
  /-- R29: On U0 and U1 the module runs the peer-to-peer delay exchange of IEEE 802.1AS as a time-aware end station. -/
  | peerDelayMeasurement (uplink : Fin 2) (delayNs : Nat)
  /-- R482: Any character received on MON_RX ends the running TICK output of the monitor. -/
  | monitorCharacterReceived (char : Byte)
  deriving DecidableEq, Repr

end Sys2Proof
end

