-- ==== Sys2Proof/Config.lean ====
section
/-! DEFINITION. What an implementation fixes or the manual leaves open: free values are opaque constants without a
body, so that nothing can be proved about which value they take. -/

namespace Sys2Proof.Config

/-- The significand and sign bits of a NaN that an operation produces (R147 and IEEE 754 leave them open): applied to
the operation's number and its operands' bits. notes/assumptions/3. -/
opaque nanBits : Nat → List F32 → BitVec 32

/-- The nonces of 0x01.10 and 0x0B.30 (32 bytes, R76, R330), applied to the count of free values taken so far.
notes/assumptions/4. -/
opaque nonce : Nat → BitVec 256

/-- The salt of the safety password (R362), applied to the count of free values taken so far. notes/assumptions/4. -/
opaque salt : Nat → BitVec 128

/-- The ASCII serial number of 0x01.01 and the ordering code's text beyond the name the manual gives. -/
opaque serial : BitVec 128

/-- The 12-bit code within its class of an event kind (R319: given in the firmware's event code list), by the kind's
number. notes/assumptions/6. -/
opaque eventCode : Nat → BitVec 12

/-- Whether an event code list gives an event kind the audit attribute where R319 does not settle it. -/
opaque eventAudit : Nat → Bool

/-- The 20 params bytes of a record whose layout the event code list gives (R319), from the kind's number and what the
record tells. notes/assumptions/6. -/
opaque eventParams : Nat → List Nat → List (BitVec 8)

/-- Header fields of the image installed at manufacture (R408, R410), by field number: 0 firmware_version,
1 rollback_index, 2 mirror_schema, 3 mirror_compat_min, 4 settings_schema, 5 settings_compat_min, 6 image_len,
7 image_crc, 8 island_rollback. notes/assumptions/7. -/
opaque factoryImage : Nat → Nat

/-- Version of the island firmware installed at manufacture (point 318). -/
opaque islandVersion : BitVec 32

/-- The measured completion time of the period work of a tick (0x06.03), by tick. -/
opaque completionNs : Nat → Nat

/-- The busy time of a core in a tick, in permille (0x09.02), by core and tick. -/
opaque busyPermille : Nat → Nat → Nat

/-- The 64-bit type digest of a program variable's path in a program image, and whether the variable is retentive, or
none for an unknown path (R270: the symbol table is Vasundi Studio's own). notes/assumptions/8. -/
opaque symbol : List (BitVec 8) → List (BitVec 8) → Option (BitVec 64 × Bool)

/-- The function-block instances of a program image, each with its path and 64-bit type digest (R273). notes/assumptions/8. -/
opaque instances : List (BitVec 8) → List (List (BitVec 8) × BitVec 64)

/-- The paths of the retentive variables of a program image (R264). notes/assumptions/8. -/
opaque retentivePaths : List (BitVec 8) → List (List (BitVec 8))

/-- The initial value of a program variable by image and path. notes/assumptions/8. -/
opaque initialValue : List (BitVec 8) → List (BitVec 8) → BitVec 64

/-- Whether a forced program variable feeds an output point, by image, path, core, task and place in the output list
(R276). notes/assumptions/8. -/
opaque feedsOutput : List (BitVec 8) → List (BitVec 8) → Nat → Nat → Nat → Bool

/-- The number of spare blocks in each NAND reserve. notes/assumptions/7. -/
opaque nandReserve : Nat → Nat

/-- The segment that tells a node its watchdog count w (R139: the acyclic configuration's layout is not given), by w.
notes/assumptions/49. -/
opaque nodeConfig : Nat → List (BitVec 8)

/-- A word the manual leaves unstated after a corner case, by the number of the case and the operands.
notes/assumptions/3. -/
opaque unstated : Nat → List Nat → Nat

end Sys2Proof.Config
end

