-- ==== Sys2Proof/Machine/Bytes.lean ====
section
/-! DEFINITION. Byte strings: the little-endian codec of R8, the CRC-32C of the manual's frames and records (00_scope)
and the CRC-8 of R46 and R387. -/

namespace Sys2Proof.Machine

/-- The `n` bytes of a number, least significant first (R8). -/
def le : Nat → Nat → List Byte
  | 0, _ => []
  | n + 1, v => BitVec.ofNat 8 v :: le n (v / 256)

/-- The number a byte string spells, least significant byte first (R8). -/
def unle : List Byte → Nat
  | [] => 0
  | b :: r => b.toNat + 256 * unle r

/-- The number spelled by `n` bytes from offset `o`; bytes past the end count as 0. -/
def rd (p : List Byte) (o n : Nat) : Nat := unle ((p.drop o).take n)

/-- The number a byte string spells, most significant byte first. -/
def unbe (l : List Byte) : Nat := l.foldl (fun a b => a * 256 + b.toNat) 0

/-- The `n` bytes of a number, most significant first. -/
def be (n v : Nat) : List Byte := (le n v).reverse

/-- An integer as an `8·n`-bit two's complement number. -/
def leInt (n : Nat) (v : Int) : List Byte := le n (v % (2 ^ (8 * n) : Int)).toNat

/-- A Boolean as one byte. -/
def leBool (b : Bool) : List Byte := [if b then 1 else 0]

/-- A binary32 value's bytes. -/
def leF (x : F32) : List Byte := le 4 x.toNat

/-- The text of a string as bytes, cut or padded with zeros to `n`. -/
def ascii (n : Nat) (t : String) : List Byte :=
  ((t.toList.map fun (c : Char) => BitVec.ofNat 8 c.toNat) ++ List.replicate n 0).take n

/-- One bit of a reflected CRC-32C: polynomial 0x1EDC_6F41 (00_scope), reflected 0x82F6_3B78. -/
def crcBit (c : Nat) : Nat := if c % 2 = 1 then (c / 2) ^^^ 0x82F63B78 else c / 2

def crcByte (c : Nat) (b : Byte) : Nat :=
  crcBit (crcBit (crcBit (crcBit (crcBit (crcBit (crcBit (crcBit (c ^^^ b.toNat))))))))

/-- CRC-32C of a byte string (initial value and final inversion of the Castagnoli CRC; notes/assumptions/10). -/
def crc32c (l : List Byte) : Nat := l.foldl crcByte 0xFFFFFFFF ^^^ 0xFFFFFFFF

/-- One bit of a CRC-8 with polynomial 0x07 and initial value 0 (R46, R387), most significant bit first. -/
def crc8Bit (c : Nat) (b : Bool) : Nat :=
  let d := (c * 2) % 256
  if (c.testBit 7) != b then d ^^^ 7 else d

def crc8 (bits : List Bool) : Nat := bits.foldl crc8Bit 0

/-- The `n` low bits of a number, most significant first. -/
def bitsOf (n v : Nat) : List Bool := (List.range n).map fun i => v.testBit (n - 1 - i)

/-- The number that bits spell, most significant first. -/
def ofBits (l : List Bool) : Nat := l.foldl (fun a b => 2 * a + cond b 1 0) 0

/-- Lists of `n` elements cut from a list in order; the last may be shorter. `fuel` bounds their number. -/
def chunks {α : Type} (n : Nat) : Nat → List α → List (List α)
  | 0, _ => []
  | fuel + 1, l => if l.isEmpty then [] else l.take n :: chunks n fuel (l.drop n)

/-- A saturating 8-bit and 16-bit and 32-bit count. -/
def sat8 (n : Nat) : Nat := min n 255
def sat16 (n : Nat) : Nat := min n 65535
def sat32 (n : Nat) : Nat := min n 0xFFFFFFFF

end Sys2Proof.Machine
end

