-- ==== Sys2Proof/Machine/Float32.lean ====
section
/-! DEFINITION. IEEE 754 binary32 arithmetic on bit patterns (R147): each operation computes exactly and rounds once, to
nearest with ties to even; subnormals are kept. The bits of a NaN result are free values (notes/assumptions/3). -/

namespace Sys2Proof.Machine

def fSign (x : F32) : Bool := x.toNat ≥ 0x80000000
def fExp (x : F32) : Nat := x.toNat / 0x800000 % 256
def fFrac (x : F32) : Nat := x.toNat % 0x800000
def fNan (x : F32) : Bool := fExp x = 255 ∧ fFrac x ≠ 0
def fInf (x : F32) : Bool := fExp x = 255 ∧ fFrac x = 0
/-- Neither infinite nor a NaN. -/
def fFinite (x : F32) : Bool := fExp x ≠ 255
def fZero (x : F32) : Bool := x.toNat % 0x80000000 = 0

/-- The significand as an integer; a finite value is `± fMant x · 2 ^ fPow x`. -/
def fMant (x : F32) : Nat := if fExp x = 0 then fFrac x else fFrac x + 0x800000
def fPow (x : F32) : Int := if fExp x = 0 then -149 else (fExp x : Int) - 150
def fSigned (x : F32) : Int := if fSign x then -(fMant x : Int) else (fMant x : Int)

def fMake (sign : Bool) (mag : Nat) : F32 := BitVec.ofNat 32 (mag + (if sign then 0x80000000 else 0))

/-- A NaN as operation `op` produces it: its bits other than exponent and quietness are free. -/
def fNanOf (op : Nat) (l : List F32) : F32 := (Config.nanBits op l) ||| 0x7FC00000

/-- `m / 2 ^ k` rounded to nearest, ties to even; `sticky` tells that the exact value lies above `m / 2 ^ k` by less than
one unit of `m`. -/
def roundShift (m k : Nat) (sticky : Bool) : Nat :=
  if k = 0 then m
  else
    let q := m >>> k
    let r := m % 2 ^ k
    let half := 2 ^ (k - 1)
    if r > half ∨ (r = half ∧ (sticky = true ∨ q % 2 = 1)) then q + 1 else q

/-- The binary32 nearest to `± (m + sticky) · 2 ^ e`. A value that rounds past the largest finite one is infinite. -/
def fRound (sign : Bool) (m : Nat) (e : Int) (sticky : Bool) : F32 :=
  if m = 0 then fMake sign 0
  else
    let top : Int := (Nat.log2 m : Int) + e          -- exponent of the leading bit
    let q : Int := max (top - 23) (-149)             -- exponent of the result's unit
    let n : Nat := if q ≥ e then roundShift m (q - e).toNat sticky else m <<< (e - q).toNat
    let mag : Nat := if n < 0x800000 then n else ((q + 149).toNat) * 0x800000 + n
    if n ≥ 0x800000 ∧ (q + 150 ≥ 255 ∨ mag ≥ 0x7F800000) then fMake sign 0x7F800000 else fMake sign mag

/-- The binary32 nearest to `n · 2 ^ e` for an integer `n`; an exact zero takes the sign given. -/
def fOfScaled (n : Int) (e : Int) (zeroSign : Bool) : F32 :=
  if n = 0 then fMake zeroSign 0 else fRound (n < 0) n.natAbs e false

def fOfInt (n : Int) : F32 := fOfScaled n 0 false
def fOfNat (n : Nat) : F32 := fOfInt n

def fNeg (x : F32) : F32 := x ^^^ 0x80000000
def fAbs (x : F32) : F32 := x &&& 0x7FFFFFFF

/-- Fused multiply-add `a·b + c` with one rounding (R147). -/
def fFma (a b c : F32) : F32 :=
  let sp := fSign a != fSign b
  if fNan a ∨ fNan b ∨ fNan c then fNanOf 0 [a, b, c]
  else if (fInf a ∧ fZero b) ∨ (fZero a ∧ fInf b) then fNanOf 0 [a, b, c]
  else if fInf a ∨ fInf b then
    if fInf c ∧ fSign c ≠ sp then fNanOf 0 [a, b, c] else fMake sp 0x7F800000
  else if fInf c then c
  else
    let p : Int := fSigned a * fSigned b
    let ep := fPow a + fPow b
    let e := min ep (fPow c)
    let n := p * 2 ^ (ep - e).toNat + fSigned c * 2 ^ (fPow c - e).toNat
    let zs := if p = 0 ∧ fZero c then sp && fSign c else false
    fOfScaled n e zs

def fMul (a b : F32) : F32 :=
  let sp := fSign a != fSign b
  if fNan a ∨ fNan b then fNanOf 1 [a, b]
  else if (fInf a ∧ fZero b) ∨ (fZero a ∧ fInf b) then fNanOf 1 [a, b]
  else if fInf a ∨ fInf b then fMake sp 0x7F800000
  else fRound sp (fMant a * fMant b) (fPow a + fPow b) false

def fAdd (a b : F32) : F32 :=
  if fNan a ∨ fNan b then fNanOf 2 [a, b]
  else if fInf a then (if fInf b ∧ fSign a ≠ fSign b then fNanOf 2 [a, b] else a)
  else if fInf b then b
  else
    let e := min (fPow a) (fPow b)
    fOfScaled (fSigned a * 2 ^ (fPow a - e).toNat + fSigned b * 2 ^ (fPow b - e).toNat) e
      (fZero a && fZero b && fSign a && fSign b)

def fSub (a b : F32) : F32 := fAdd a (fNeg b)

def fDiv (a b : F32) : F32 :=
  let sp := fSign a != fSign b
  if fNan a ∨ fNan b ∨ (fInf a ∧ fInf b) ∨ (fZero a ∧ fZero b) then fNanOf 3 [a, b]
  else if fInf a ∨ fZero b then fMake sp 0x7F800000
  else if fInf b ∨ fZero a then fMake sp 0
  else
    let m := fMant a <<< 60
    fRound sp (m / fMant b) (fPow a - fPow b - 60) (decide (m % fMant b ≠ 0))

/-- Integer square root by bits, from bit `n - 1` down. -/
def isqrt (v : Nat) : Nat → Nat → Nat
  | 0, r => r
  | n + 1, r => let c := r + 2 ^ n; isqrt v n (if c * c ≤ v then c else r)

def fSqrt (a : F32) : F32 :=
  if fNan a then fNanOf 4 [a]
  else if fZero a then a
  else if fSign a then fNanOf 4 [a]
  else if fInf a then a
  else
    let e := fPow a - 60
    let odd : Bool := e % 2 != 0
    let m := fMant a <<< (if odd then 61 else 60)
    let e2 := if odd then e - 1 else e
    let r := isqrt m 45 0
    fRound false r (e2 / 2) (decide (r * r ≠ m))

/-- Order of two values that are not NaN: `a < b`. A comparison with a NaN is false. -/
def fLt (a b : F32) : Bool :=
  if fNan a ∨ fNan b then false
  else if fZero a ∧ fZero b then false
  else match fSign a, fSign b with
    | true, false => true
    | false, true => false
    | false, false => a.toNat < b.toNat
    | true, true => b.toNat < a.toNat

def fEq (a b : F32) : Bool :=
  if fNan a ∨ fNan b then false else if fZero a ∧ fZero b then true else a = b
def fLe (a b : F32) : Bool := fLt a b || fEq a b
def fGe (a b : F32) : Bool := fLe b a
def fGt (a b : F32) : Bool := fLt b a

/-- The smaller and the greater of two values; with equal values the first. -/
def fMin (a b : F32) : F32 := if fLt b a then b else a
def fMax (a b : F32) : F32 := if fLt a b then b else a

/-- Whether a value is not below zero; −0 counts as zero. -/
def fNonNeg (x : F32) : Bool := fLe 0 x

/-- A finite value scaled by a power of ten, rounded to the nearest integer, ties to even; 0 where not finite. -/
def fToInt (x : F32) (scale : Nat) : Int :=
  if !fFinite x then 0
  else
    let m := fMant x * scale
    let n : Nat := if fPow x ≥ 0 then m <<< (fPow x).toNat else roundShift m (-fPow x).toNat false
    if fSign x then -(n : Int) else n

/-- Decimal numbers the manual writes, as the nearest binary32 of `n / d`. -/
def fRat (n : Int) (d : Nat) : F32 :=
  if n = 0 then 0 else
  let m := n.natAbs <<< 80
  fRound (n < 0) (m / d) (-80) (decide (m % d ≠ 0))

end Sys2Proof.Machine
end

