-- ==== Sys2Proof/Machine/State.lean ====
section
/-! DEFINITION. The state of the T9648 as plain data: one structure per chapter of the manual, the queue of commands
waiting, and the state after reset. A field's comment names the rule that gives it; its default is its value at reset.
Values whose reset the manual does not give are named in notes/assumptions/1. -/

namespace Sys2Proof.Machine

/-- A sparse table keyed by number; keys rise strictly (Laws/Table.lean). An index not listed stands at the value the
reader names. -/
structure Tab (α : Type) where
  cells : List (Nat × α) := []
  deriving DecidableEq, Repr

/-! ### Modes, statuses, roles -/

/-- The operating modes (R73). -/
inductive Mode where
  | boot | activate | service | configure | idle | run | hold | sync | standby | handover | lockout | halt
  deriving DecidableEq, Repr

/-- The status codes of a response (R63). -/
inductive Status where
  | done | accepted | busy | refusedMode | refusedRight | badArg | notOwner | restarted | retired | unknown
  | timeout | superseded
  deriving DecidableEq, Repr

/-- The roles of a mailbox (R53, R65). -/
inductive Role where
  | observe | operate | engineer | safety | service | unbound
  deriving DecidableEq, Repr

/-- The event records the manual names (R319 gives the class; the code within it is the firmware's list). -/
inductive EventKind where
  | moduleStart | eventsLost | suppressedSummary | auditWarn | auditFull | auditCleared
  | modeChange | datagramDropped | bindingSet | settingsChange | domainReset | strapUndefined | coldHold
  | timeState | timeStep | halConflict | halPeriodMismatch | halMaster
  | forceSet | forceChanged | forceRemoved | writeDiscarded | nonFinite | ownerMove
  | groupFault | calibrationBad
  | pathChange | portEvent | nodeParams
  | numericFault | inputLost | inputFrozen | inputEnd | fallbackEnter | afterOpen | returnClosed | rampClipped
  | rampLimitStop | learning | promptExcess | swapped
  | compliance | openLoop | foldback | dsup | stageFault
  | seqLoad | seqStart | seqStep | seqHold | seqResume | seqJump | seqAbort | seqEnd
  | overrun | taskFaulted | trap | orphan | onlineChange | retentiveUnmatched | varForce | retentiveCleared
  | streamPath | unreachable | spillStart | spillStop | spillBudget | acqReset
  | safetyFault | resetRefused | resetAccepted | safetyStep | shroudWarn | shroudState | islandFirmware
  | pairCheck | pairRole | giveUp | mirrorIncomplete | looped | selfTest
  | updateStep | deferral | confirmed | rejected | migrationFailed | scheduleEnded
  | retirement | released | eccCorrected | eccUncorrectable | pageRetired | keyDamaged | keySet | haltCause
  | nandBlock | thermal | fabricCount
  deriving DecidableEq, Repr

/-! ### Settings (R488) -/

/-- A mailbox binding (R66). -/
structure Binding where
  role : Role := .unbound
  addr : U32 := 0
  mask : U32 := 0
  port : U16 := 0
  deriving DecidableEq, Repr

/-- Owner code and format of a point as configured (R78, R79). -/
structure PointCfg where
  owner  : Byte := 0
  format : Byte := 0
  deriving DecidableEq, Repr

/-- An analogue channel's configuration (R108, R109, R117): enabled on ±10 V in point mode MEAN. -/
structure ChannelCfg where
  enabled : Bool := true
  range   : Nat := 0
  last    : Bool := false      -- point mode LAST
  deriving DecidableEq, Repr

/-- A user trim (R116, R122): gain 1.0 and offset 0.0. -/
structure UserTrim where
  gain : F32 := 0x3F800000
  off  : F32 := 0
  deriving DecidableEq, Repr

/-- A field port's configuration (0x05.10, R136, R139). -/
structure PortCfg where
  enabled   : Byte := 0
  phyRole   : Byte := 0
  inCount   : Nat := 0
  outCount  : Nat := 0
  shroudLen : Nat := 0
  gIn       : Nat := 2
  dOut      : Nat := 17
  w         : Nat := 10
  nodeId    : U32 := 0
  deriving DecidableEq, Repr

/-- An uplink's configuration (0x05.40, R143). -/
structure UplinkCfg where
  role    : Byte := 0
  addr    : U32 := 0
  mask    : U32 := 0
  gateway : U32 := 0
  mtu     : Nat := 9000
  deriving DecidableEq, Repr

/-- A loop's wiring (R158). -/
structure Wiring where
  nx : Nat := 0
  ny : Nat := 0
  nu : Nat := 0
  nr : Nat := 0
  ni : Nat := 0
  prompt     : Bool := false
  trackForce : Bool := false
  autoStart  : Bool := false
  repetitive : Bool := false
  repIndex   : Nat := 0
  inPoint    : List Nat := []
  spSource   : List Nat := []     -- bit 15 = 0: ramp, bit 15 = 1: point
  outPoint   : List Nat := []
  uOff       : List F32 := []
  swapGroup  : Nat := 255
  deriving DecidableEq, Repr

/-- A loop's supervision part (R177) with its defaults. -/
structure Supervision where
  lossTicks   : List Nat := [3, 3, 3, 3]
  freezeTicks : List Nat := [1000, 1000, 1000, 1000]
  required    : BitVec 8 := 0
  fallback    : Nat := 2
  afterOpen   : Nat := 2
  onCommand   : Bool := false
  returnTicks : Nat := 10
  openTicks   : Nat := 1000
  preset      : List F32 := [0, 0, 0, 0]
  fbStep      : List F32 := [0x3A83126F, 0x3A83126F, 0x3A83126F, 0x3A83126F]
  deriving DecidableEq, Repr

/-- A coefficient block with its parameter set (R156, R159): 208 and 16 binary32 words; a bank never written holds
zeros. `ok` is clear once an uncorrectable error has discarded the bank (R452). -/
structure Bank where
  block  : List F32 := []
  params : List F32 := []
  ok     : Bool := true
  deriving DecidableEq, Repr

/-- The lasting configuration of a loop (R158, R166, R171). -/
structure LoopCfg where
  wiring : Wiring := {}
  start  : List F32 := []
  sup    : Supervision := {}
  bank0  : Bank := {}
  bank1  : Bank := {}
  active : Nat := 0
  deriving DecidableEq, Repr

/-- A ramp's configuration (R186, 0x06.44), with the period it was configured under (R37). -/
structure RampCfg where
  source : Nat := 0
  target : Nat := 0xFFFF
  out    : Option Nat := none
  init   : F32 := 0
  lo     : F32 := 0xFF7FFFFF
  hi     : F32 := 0x7F7FFFFF
  rate   : F32 := 0x7F7FFFFF
  accel  : F32 := 0
  period : Option Nat := none
  deriving DecidableEq, Repr

/-- A repetitive controller's configuration (R193). -/
structure RepCfg where
  period : Nat := 0
  lead   : Nat := 0
  calm   : Nat := 1000
  outSel : List Nat := []
  eSel   : List Nat := []
  gamma  : List F32 := []
  q0     : List F32 := []
  q1     : List F32 := []
  limit  : List F32 := []
  sync   : Nat := 0xFFFF
  loop   : Nat := 0
  deriving DecidableEq, Repr

/-- A current-loop channel's configuration (R205). -/
structure ClCfg where
  mode     : Nat := 0           -- 0 OUTPUT, 1 INPUT_POWERED, 2 INPUT_PASSIVE
  high     : Bool := false      -- high alarm
  ne43     : Bool := true
  onInvalid : Bool := true
  idleKind : Nat := 0           -- 0 OFF, 1 VALUE, 2 ALARM
  idleMa   : F32 := 0
  deriving DecidableEq, Repr

/-- A fast output's configuration (0x07.20). -/
structure FaoCfg where
  idleValue : Bool := false
  idleV     : F32 := 0
  deriving DecidableEq, Repr

/-- A digital channel's configuration (0x07.30): direction 0 input, 1 output; filter 2 is 100 µs (R219). -/
structure DioCfg where
  output   : Bool := false
  filter   : Nat := 2
  idleOn   : Bool := false
  openLoad : Bool := false
  deriving DecidableEq, Repr

/-- A sequence's bindings, status block and control point (R225, R226, R243). -/
structure SeqCfg where
  bound      : List (Nat × Nat) := []     -- kind 0 ramp, 1 point; index
  statusBase : Option Nat := none
  control    : Option Nat := none
  deriving DecidableEq, Repr

/-- A task record of a program set (R251) with its point lists. -/
structure TaskRec where
  core : Nat
  task : Nat
  priority : Nat
  event : Bool
  cycle : Nat
  phase : Nat
  trigPoint : Nat
  trigOp : Nat
  maxSkips : Nat
  level : F32
  hyst : F32
  inputs : List Nat
  outputs : List Nat
  latches : List Nat
  deriving DecidableEq, Repr

/-- A program set (R270): its header, task records and bytes. -/
structure ProgSet where
  id : U64
  name : List Byte
  period : Nat
  instanceLen : Nat
  retentiveLen : Nat
  crc : U32
  tasks : List TaskRec
  bytes : List Byte
  deriving DecidableEq, Repr

/-- A trigger entry (R302). -/
structure TriggerCfg where
  enabled : Bool := false
  point   : Nat := 0
  perTick : Bool := false       -- mode POINT
  edge    : Nat := 1
  fireHal : Bool := false
  segment : Bool := false
  level   : F32 := 0
  hyst    : F32 := 0
  deriving DecidableEq, Repr

/-- Segmented-capture configuration (R311). -/
structure SegCfg where
  segments : Nat := 1
  length   : Nat := 16
  pre      : Nat := 0
  interval : Nat := 1
  sources  : List Nat := []     -- bit 15 set for a channel
  deriving DecidableEq, Repr

/-- Stream configuration (0x0A.10). -/
structure StreamCfg where
  mode     : Option Nat := none -- 0 STREAM, 1 SEGMENTED, 2 BOTH, 3 OFF; none while no setting exists (R280)
  divisor  : Nat := 1
  hostU0   : U32 := 0
  hostU1   : U32 := 0
  hostPort : Nat := 50649
  ackMs    : Nat := 1000
  copy     : Byte := 0
  copyAddr : U32 := 0
  copyPort : Nat := 0
  deriving DecidableEq, Repr

/-- Pair configuration (0x0D.10). -/
structure PairCfg where
  paired     : Bool := false
  witnesses  : List Nat := []
  promote    : Nat := 3
  autoRejoin : Bool := true
  yield      : Nat := 0
  deriving DecidableEq, Repr

/-- The settings store (R488): the effect of every command that R488 lists, and nothing else. -/
structure Settings where
  compat      : Option Byte := none           -- 0x01.20
  bindings    : Tab Binding := {}             -- 0x01.30; factory bindings of R66 where not listed
  udpPort     : Nat := 50648                  -- 0x01.32
  periodUs    : Nat := 100                    -- 0x02.10 (R36)
  fastN       : Nat := 10                     -- 0x02.10 (R38)
  timeRole    : Nat := 0                      -- 0x02.11 (R28)
  unit        : Nat := 0
  halDelay    : Nat := 0
  freeRun     : Bool := false
  gptpDomain  : Nat := 0                      -- 0x02.12
  u1Enabled   : Bool := true
  points      : Tab PointCfg := {}            -- 0x03.30
  channels    : Tab ChannelCfg := {}          -- 0x04.10, 0x04.12
  trims       : Tab UserTrim := {}            -- 0x04.21; 8·channel + range
  thresholds  : Tab (Nat × Nat) := {}         -- 0x04.30, 0x05.30, 0x06.31, 0x07.51; by resource identity
  ports       : Tab PortCfg := {}             -- 0x05.10
  uplinks     : Tab UplinkCfg := {}           -- 0x05.40
  loops       : Tab LoopCfg := {}             -- class 0x06
  ramps       : Tab RampCfg := {}             -- 0x06.44
  reps        : Tab RepCfg := {}              -- 0x06.48
  cl          : Tab ClCfg := {}               -- 0x07.10
  fao         : Tab FaoCfg := {}              -- 0x07.20
  dio         : Tab DioCfg := {}              -- 0x07.30
  seqs        : Tab SeqCfg := {}              -- 0x08.30, 0x08.31
  program     : Option ProgSet := none        -- 0x09.20, 0x09.21
  cold        : Bool := false                 -- 0x09.51
  stream      : StreamCfg := {}               -- 0x0A.10
  excluded    : Tab Bool := {}                -- 0x0A.11: points not recorded
  fastSet     : List Nat := []                -- 0x0A.12
  triggers    : Tab TriggerCfg := {}          -- 0x0A.20, 0x0A.22
  segCfg      : Option SegCfg := none         -- 0x0A.30
  rates       : Tab (Nat × Nat) := {}         -- 0x0B.11: burst, interval ms; by event kind
  pair        : PairCfg := {}                 -- 0x0D.10
  any         : Bool := false                 -- a setting exists
  deriving DecidableEq, Repr
end Sys2Proof.Machine

namespace Sys2Proof.Config
/-- The settings digest of R386: a CRC-32C over the settings store without bindings, uplink addresses and the unit's own
0x02.11 setting; the store's byte layout is the firmware's own. notes/assumptions/7. -/
opaque settingsDigest : Sys2Proof.Machine.Settings → BitVec 32

/-- The payloads behind the header of a Stay link frame (R393, R394), whose layouts the manual leaves to the firmware:
HEARTBEAT with mode, role, claim, grade, settings digest and last mirror tick; one part of a MIRROR; a BULK item; HEALTH. -/
opaque heartbeatPayload : BitVec 8 → BitVec 8 → BitVec 8 → BitVec 8 → BitVec 32 → Nat → List (BitVec 8)
opaque mirrorPayload : Sys2Proof.MirrorContent → List (BitVec 8)
opaque bulkPayload : Sys2Proof.BulkItem → List (BitVec 8)
opaque healthPayload : Sys2Proof.HealthReport → List (BitVec 8)
end Sys2Proof.Config

namespace Sys2Proof.Machine

/-! ### System, resets and faults (chapters 1, 3, 18) -/

/-- An entry of the reset history (R489). -/
structure ResetEntry where
  domain : Nat
  index  : Nat
  cause  : Nat
  tick   : Nat
  start  : Nat
  deriving DecidableEq, Repr

/-- A retired resource (R454, R456, R491). -/
structure Retired where
  resource : Nat
  tick     : Nat
  cause    : Nat
  deriving DecidableEq, Repr

/-- A leaky fault counter (R455, R456): operating-time stamps in ns, newest first, and the lifetime total. -/
structure FaultCounter where
  stamps : List Nat := []
  total  : Nat := 0
  deriving DecidableEq, Repr

/-- Error counts of one memory (0x0F.10). -/
structure EccStatus where
  corrected     : Nat := 0
  uncorrectable : Nat := 0
  lastAddress   : Nat := 0
  deriving DecidableEq, Repr

/-- The factory calibration area (R22, R121, R305), which no command writes: the 32-byte records by number (channel
records 5 · channel + range, group records 480 + group), the skew table in ns, and gain_cal and off_cal of the fast
outputs (R216). A number not listed stands at the value that notes/assumptions/5 names. -/
structure Factory where
  records : Tab (List Byte) := {}
  skew    : Tab U16 := {}
  outputs : Tab (F32 × F32) := {}
  deriving DecidableEq, Repr

/-- The fuses that commands blow (R446). -/
structure Fuses where
  bootKeyHash    : BitVec 384 := 0
  screenAX       : Bool := false  -- the screening field names a T9648-AX
  safetyIdentity : U32 := 1
  rollbackModule : Nat := 0
  rollbackIsland : Nat := 0
  keySet         : Bool := false
  keyHash        : BitVec 256 := 0
  debugLock      : Nat := 0       -- of 4; read as set when any 2 are blown
  deriving DecidableEq, Repr

structure SysState where
  powered       : Bool := true              -- VIN at power-good (R436)
  inReset       : Bool := false             -- held in a whole-module reset (R440)
  mode          : Mode := .boot             -- R73, R74
  prevMode      : Mode := .boot
  since         : Nat := 0                  -- tick of the last change
  cause         : Nat := 1                  -- R74: MODULE_START
  lockoutFrom   : Mode := .idle             -- mode from which LOCKOUT was entered (R74)
  startCount    : Nat := 1                  -- R71, MRAM
  powerCycles   : Nat := 1                  -- R321, MRAM
  opNs          : Nat := 0                  -- operating time in ns at the boundary of the current tick (R321), MRAM
  opSinceGood   : Nat := 0                  -- operating time at the last power-good (R483)
  straps        : Straps := {}              -- as read at this start (R439)
  lands         : Straps := {}              -- levels at the strap lands
  compat        : Byte := 0                 -- compatibility bits in force (R484)
  coldHold      : Bool := false             -- R438: T9648-A waiting in BOOT
  warming       : Bool := false             -- R438: T9648-AX below −10 °C in CONFIGURE
  memoryFails   : Bool := false             -- DRAM training or the fuse read failed at power-good (R457)
  lidCenti      : Int := 4000               -- lid temperature in 0.01 °C
  sensors       : Sensors := {}             -- R490
  hot           : Bool := false             -- lid above 70 °C (R25)
  fuses         : Fuses := {}               -- R446
  factory       : Factory := {}             -- factory calibration area of the NAND (R22)
  keyRecord     : Option (List Byte × U32) := none   -- commissioning key record in MRAM (R447)
  nonces        : List (BitVec 256 × Nat) := []      -- 0x01.10: unused nonces, each with its operating time
  free          : Nat := 0                  -- the model's own count of free values taken (notes/assumptions/4)
  restart       : Option (Nat × Nat) := none         -- delayed whole-module reset: cause code, due operating time
  history       : List ResetEntry := []     -- 0x0F.02, newest first, at most 16
  supResets     : List Nat := []            -- R445, operating-time stamps
  coreResets    : Tab (List Nat) := {}
  engineResets  : List Nat := []
  moduleResets  : List Nat := []
  haltAtStart   : Bool := false             -- R445, last row
  haltDue       : Nat := 0                  -- cause of a permanent fault found, which rank 2 follows (R42, R457)
  resetDue      : Option Nat := none        -- cause of a whole-module reset ordered by this command (R440)
  haltCause     : Nat := 0                  -- R457
  retired       : List Retired := []        -- R454, R456, held in MRAM, ascending identity
  toRetire      : List (Nat × Nat × Nat) := []  -- resource, cause, and the operating time in ns from which rank 2 takes it
  counters      : Tab FaultCounter := {}    -- R455, by resource identity
  supUp         : Bool := true              -- supervisor serving
  engineUp      : Bool := true
  engineBack    : Nat := 0                  -- tick at which the engine restarts (R444)
  acqUp         : Bool := true
  ecc           : Tab EccStatus := {}       -- 0x0F.10: 0 SRAM, 1 DRAM, 2 MRAM
  pages         : List (Nat × Nat) := []    -- retired DRAM pages: address and tick (R451)
  pageStamps    : Tab Nat := {}             -- operating time of a page's last corrected error
  spares        : Nat := 131072             -- R21
  ringLost      : Nat := 0                  -- pages by which the Stockpot ring has shrunk (R451)
  captureLost   : Nat := 0                  -- pages by which the capture region has shrunk
  slcReadOnly   : Bool := false             -- R453
  pagesOut      : Bool := false             -- the spare pages are used up outside the ring and capture regions (R451)
  blocksRetired : Tab Nat := {}             -- R453, by area
  firmwareDefer : Bool := false             -- island firmware restart asked for (R421)
  serviceLink   : Bool := false             -- service port link
  serviceDown   : Option Nat := none        -- operating time the service link went down
  serviceUsed   : Nat := 0                  -- operating time of the last request on mailboxes 0 to 3
  deriving DecidableEq, Repr

/-! ### Time (chapter 2) -/

/-- The time states (R30). -/
inductive TimeState where
  | free | acquiring | locked | slewing | holdover | unaligned
  deriving DecidableEq, Repr

/-- A gPTP source on an uplink (R29). -/
structure Gptp where
  valid       : Bool := false
  interval    : Nat := 125000000            -- Sync interval in ns (R29)
  lastSync    : Nat := 0                    -- operating time in ns of the last valid Sync
  offset      : Int := 0
  grandmaster : U64 := 0
  peerDelay   : Nat := 0
  exchanges   : Nat := 0
  deriving DecidableEq, Repr

structure TimeSt where
  tick       : Nat := 0                     -- index of the current tick (R39)
  periodUs   : Nat := 100                   -- T in force (R36)
  fastN      : Nat := 10                    -- N in force (R38)
  change     : Option (Nat × Nat × Nat) := none  -- pending T, N and first tick of the new grid (R36)
  state      : TimeState := .free           -- R30
  source     : Nat := 0                     -- 0 own oscillator, 1 gPTP U0, 2 gPTP U1, 3 Halyard
  offset     : Int := 0                     -- last measured offset in ns
  good       : Nat := 0                     -- consecutive measurements within 50 ns
  slew       : Int := 0                     -- slew still to do in ns (R31)
  step       : Option Int := none           -- pending step (R33)
  stepNow    : Option Int := none           -- step to take at the next boundary (R31)
  holdSince  : Nat := 0                     -- operating time HOLDOVER was entered
  gptp0      : Gptp := {}
  gptp1      : Gptp := {}
  halValid   : Bool := false                -- Halyard is a valid source (R47)
  halOffset  : Int := 0
  halPos     : Option Nat := none           -- position of the last edge in the tick frame (R46)
  halBits    : List Bool := []              -- bits of the frame so far, newest first
  halEdgeAt  : Option Nat := none           -- operating time in ns of the last edge seen
  driving    : Bool := false                -- this unit drives HAL_TICK (R28, R48)
  conflict   : Bool := false                -- a MASTER has stopped driving (R48)
  masterUnit : Nat := 0                     -- from the last good frame (R47)
  masterTime : Nat := 0
  halTicks   : Int := 0                     -- ticks by which the master's index leads the unit's count (R47)
  txBits     : List Bool := []              -- positions 1 to 127 of the frame being sent (R46)
  halArm     : Bool := false                -- HAL_ARM as seen
  halAct     : Option Nat := none           -- tick of the last rising HAL_ACT
  syncSent   : Nat := 0                     -- two-step Syncs sent on each field port (R129)
  syncSeq    : Nat := 0                     -- sequence number of the next Sync (R129)
  pdelay     : Tab Nat := {}                -- peer delay answers, by port: 0 to 47 field, 48 and 49 U0 and U1 (R29, R129)
  deriving DecidableEq, Repr

/-! ### Mailboxes (chapter 3) -/

/-- The state field of a mailbox (R53). -/
inductive BoxState where
  | empty | opened | accepted | answered | notifying
  deriving DecidableEq, Repr

/-- What identifies a request beyond its tag (R60). -/
structure ReqId where
  op      : Option Op := none
  cls     : Byte := 0
  opcode  : Byte := 0
  payload : List Byte := []
  crc     : U32 := 0
  deriving DecidableEq, Repr

/-- A mailbox (R52, R53). -/
structure Mailbox where
  state    : BoxState := .empty
  tag      : U16 := 0
  req      : ReqId := {}
  status   : Status := .done
  payload  : List Byte := []
  tick     : Nat := 0                       -- tick_index of the response (R58)
  lastStatus : Byte := 0                    -- last_status of the status word
  path     : Path := .u0                    -- where the request came from
  addr     : U32 := 0
  port     : U16 := 0
  also     : List (Path × U32 × U16) := []  -- where repeats of the open request came from (R54)
  version  : Byte := 2
  noNotice : Bool := false                  -- NO_COMPLETION (R59)
  notices  : Nat := 0                       -- completion notices sent
  stage    : Nat := 0                       -- R69
  issued   : Nat := 0                       -- tick of issue
  confirmed : Bool := false
  opened   : Nat := 0                       -- operating time the request was taken at
  dropped  : Nat := 0
  restarts : Nat := 0
  requests : Nat := 0
  deriving DecidableEq, Repr

/-- A command issued to its serving block and not yet resolved (R68). -/
structure Issued where
  op      : Op
  mailbox : Nat
  tag     : U16
  payload : List Byte
  tick    : Nat
  addr    : U32 := 0
  port    : U16 := 0
  deriving DecidableEq, Repr

/-- A request datagram of which not every fragment has come (R54): path, source, identification, the fragments that have come, and the
operating time of the first. -/
structure Partial where
  path  : Path
  addr  : U32
  ident : U16
  got   : List Nat
  first : Nat
  deriving DecidableEq, Repr

/-- Work that a serving block goes on with although the supervisor has answered its request RESTARTED (R69). -/
structure Orphan where
  mailbox : Nat
  op      : Op
  box     : Mailbox
  deriving DecidableEq, Repr

/-- A DONE that waits for the standby to confirm its item (R394). -/
structure Unconfirmed where
  mailbox : Nat
  tag     : U16
  payload : List Byte
  tick    : Nat                             -- in which the item went out
  deriving DecidableEq, Repr

structure MbxState where
  boxes    : Tab Mailbox := {}
  parts    : List Partial := []             -- requests being reassembled (R54)
  orphans  : List Orphan := []              -- works without a request (R69)
  issued   : List Issued := []              -- in order of issue
  bindings : Tab Binding := {}              -- bindings in force; factory bindings where not listed
  udpPort  : Nat := 50648                   -- port in use on U0 and U1 (0x01.32)
  holding  : Bool := false                  -- a tick is being resolved: its answers go out after the boundary (R72)
  unsent   : List Nat := []                 -- mailboxes whose answers wait for it, in order
  unconfirmed : List Unconfirmed := []      -- DONEs that wait for the standby (R394)
  badHeader : Nat := 0                      -- 0x01.04
  badCrc    : Nat := 0
  wrongTransport : Nat := 0
  unbound   : Nat := 0
  sourceRefused : Nat := 0
  fragments : Nat := 0
  rxFrames  : Tab Nat := {}                 -- mailbox datagrams and their fragments received, by uplink (0x05.02)
  txFrames  : Tab Nat := {}                 -- and sent
  deriving DecidableEq, Repr

/-! ### Point table (chapter 4) -/

/-- A point entry without its owner (R77, R81). -/
structure Entry where
  value    : U32 := 0
  valid    : Bool := false
  stale    : Bool := false
  forced   : Bool := false
  ovr     : Bool := false
  settling : Bool := false
  held     : Bool := false
  limited  : Bool := false
  retired  : Bool := false
  sub      : U16 := 0
  deriving DecidableEq, Repr

/-- A force (R88, R90, 0x03.22): forced value, underlying entry, tick and mailbox. -/
structure Force where
  point   : Nat
  value   : U32
  under   : Entry
  setTick : Nat
  mailbox : Nat
  deriving DecidableEq, Repr

/-- A snapshot buffer (R97). -/
structure Snapshot where
  tick    : Nat
  entries : Tab Entry
  owners  : Tab PointCfg
  used    : Nat                             -- operating time it was taken or last read
  deriving DecidableEq, Repr

structure PtsState where
  entries   : Tab Entry := {}               -- 8,192 entries (R77)
  inForce   : Tab PointCfg := {}            -- owners and formats in force (R83)
  forces    : List Force := []              -- at most 512, ascending point (R90)
  snaps     : Tab Snapshot := {}            -- 4 buffers (R97)
  nonFinite : Tab Nat := {}                 -- 0x03.40, by owner code
  discarded : Tab Nat := {}
  before    : Tab Entry := {}               -- entries that a prompt loop has written in the tick, as they stood before it (R86)
  written   : List Nat := []                -- points written by the host in the tick being resolved (R87)
  rampSet   : List (Nat × Bool) := []       -- ramps given a target (true) or limits (false) in it (R187)
  deriving DecidableEq, Repr

/-! ### Analogue inputs (chapter 5) -/

/-- One sample of a channel within the tick (R114, R117). -/
structure Sample where
  value    : F32
  sub      : Nat
  settling : Bool
  ovr     : Bool
  urgent   : Bool
  deriving DecidableEq, Repr

/-- What a slot serves (R102): the channel at a position of its group, or a reference. -/
inductive Slot where
  | channel (pos : Nat) (urgent : Bool)
  | reference (r : Nat)
  deriving DecidableEq, Repr

/-- The state of a converter group (0x04.02). -/
inductive GroupMode where
  | running | inReset | retired
  deriving DecidableEq, Repr

/-- A converter group (R102 to R125). -/
structure Group where
  mode      : GroupMode := .running
  slot      : Slot := .channel 0 false      -- what the running slot serves
  next      : Nat := 1                      -- position due next in the round; the first slot takes position 0
  count     : Nat := 0                      -- slot count modulo 256 (R103)
  refDue    : Bool := false                 -- a reference conversion is pending
  refIndex  : Nat := 0                      -- the reference that is due (R119)
  settle    : Nat := 0                      -- slots still to carry SETTLING under R111
  settling  : Bool := false                 -- the running slot carries SETTLING (R111, R112)
  clamped   : BitVec 8 := 0                 -- channels clamped (R112)
  clampEnd  : Nat := 0                      -- tool time in ns until which slots carry SETTLING
  urgent    : List (Nat × Nat) := []        -- urgent requests waiting, in order (R106): position, tool time in ns it is seen (R20)
  asked     : List Nat := []                -- positions requested in this fast tick, the first 2 served out of turn
  trimGain  : F32 := 0x3F800000             -- R120
  trimOff   : F32 := 0
  tDie      : F32 := 0
  lastRef   : List F32 := [0, 0, 0, 0]
  refDev    : List Bool := [true, true, true, true]   -- last result of each reference within tolerance
  offBound  : Nat := 0                      -- consecutive updates of trim_off that left it at its bound (R124)
  gainBound : Nat := 0                      -- and of trim_gain
  refsLeft  : Nat := 0                      -- reference conversions left of a restart (R123)
  watchdogs : Nat := 0
  deriving DecidableEq, Repr

/-- The counts of an analogue channel (0x04.01) and its samples of the tick. -/
structure Channel where
  lastWord : BitVec 26 := 0
  samples  : Nat := 0
  ovr     : Nat := 0
  settling : Nat := 0
  urgent   : Nat := 0
  excess   : Nat := 0
  parity   : Nat := 0
  inTick   : List Sample := []              -- in stamp order
  deriving DecidableEq, Repr

structure AinState where
  groups   : Tab Group := {}                -- 12 groups
  channels : Tab Channel := {}              -- 96 channels
  enabled  : Tab Bool := {}                 -- enable in use: what the round takes (0x04.12 acts at a boundary)
  trims    : Tab UserTrim := {}             -- user trims in use (R122)
  bankDown : List Nat := []                 -- banks whose supply is down (R101)
  deriving DecidableEq, Repr

/-! ### Field ports and uplinks (chapter 6) -/

/-- The state of a port (0x05.01). -/
inductive PortMode where
  | down | training | linked | cyclic | inReset | retired
  deriving DecidableEq, Repr

/-- A cyclic Narlidun Field Link frame, taken apart (R131). -/
structure FieldFrame where
  version : Byte := 1
  kind    : Byte := 2
  port    : Byte := 0
  claim   : Byte := 0
  cycle   : U32 := 0
  nodeId  : U32 := 0
  status  : U16 := 0
  entries : List (U32 × Byte) := []
  shroud  : List Byte := []
  deriving DecidableEq, Repr

/-- An acyclic transfer under way on a port (R140): of the block of a request, or of the port's own configuration (R139). -/
structure Acyclic where
  write   : Bool
  left    : List Byte                       -- what is still to send, or nothing on a read
  got     : List Byte := []
  tries   : Nat := 1
  age     : Nat := 0                        -- cycles since the segment was sent
  due     : Bool := false                   -- a segment waits for the next cycle
  request : Option (Nat × U16)
  deriving DecidableEq, Repr

/-- A field port (R131 to R141). -/
structure Port where
  mode       : PortMode := .down
  nodeId     : U32 := 0
  nodeStatus : U16 := 0
  obeyed     : Byte := 0
  rx         : Nat := 0
  tx         : Nat := 0
  missing    : Nat := 0
  late       : Nat := 0
  fcs        : Nat := 0
  cycleBad   : Nat := 0
  linkLosses : Nat := 0
  fresh      : Bool := false                -- a frame of the running tick has been taken
  frame      : Option FieldFrame := none    -- that frame
  frameSub   : Nat := 0                     -- sub-tick time of its last octet in ns (R44)
  seen       : Option FieldFrame := none    -- the frame of the last tick resolved (R400)
  idBad      : Nat := 0                     -- consecutive frames with another node_id (R141)
  release    : Bool := false                -- R139
  downSince  : Option Nat := none           -- operating time of the loss of link
  checking   : Nat := 0                     -- valid frames counted by 0x05.31
  inCheck    : Bool := false
  checkFrom  : Nat := 0                     -- operating time at which 0x05.31 restarted the port
  sent       : Bool := false                -- an acyclic segment has been sent in this cycle (R140)
  acyclic    : Option Acyclic := none
  deriving DecidableEq, Repr

/-- An uplink (R142 to R144). -/
structure Uplink where
  link      : Bool := false
  rx        : Nat := 0
  tx        : Nat := 0
  drops     : Nat := 0
  inReset   : Bool := false
  downSince : Option Nat := none
  checking  : Bool := false                 -- 0x05.42 under way
  checkBad  : Bool := false                 -- a received frame failed its FCS, or link was lost, during the check
  checkFrom : Nat := 0                      -- operating time at which 0x05.42 restarted the uplink
  linkAt    : Option Nat := none            -- operating time at which its link came up in the check
  deriving DecidableEq, Repr

structure FldState where
  ports   : Tab Port := {}                  -- 48
  uplinks : Tab Uplink := {}                -- 4
  inUse   : Tab UplinkCfg := {}             -- uplink configuration in use (0x05.40)
  deriving DecidableEq, Repr

/-! ### Loop engine, supervision, ramps, repetitive control (chapters 7 and 8) -/

/-- What is planned for a loop at a coming tick (R166, R172, R177, R183, R184). -/
inductive PlanKind where
  | start | stop | supervision (v : Supervision) | returnClosed | fallback (mode : Nat)
  | repState (rep mode : Nat) | repClear (rep : Nat) | repCommit (rep : Nat) (cells0 cells1 : List (Nat × F32))
  | trigger (t : Nat) (v : TriggerCfg) | arm (on : Bool) | answer | swapDone
  deriving DecidableEq, Repr

structure Plan where
  tick    : Nat
  loop    : Nat
  kind    : PlanKind
  mailbox : Option (Nat × U16) := none      -- the request to answer DONE
  deriving DecidableEq, Repr

/-- The run state of a loop (R175). -/
inductive RunState where
  | off | closed | hold | ramp | openLoop
  deriving DecidableEq, Repr

/-- What a loop's start state is for the next update (R166, R183). -/
inductive FirstUpdate where
  | ordinary | start | bumplessReturn
  deriving DecidableEq, Repr

/-- A loop as it runs (R157, R175, R177 to R184). -/
structure Loop where
  run        : RunState := .off
  sup        : Supervision := {}            -- supervision part in use (R177)
  first      : FirstUpdate := .ordinary
  xh         : List F32 := []
  z          : List F32 := []
  ua         : List F32 := []
  u          : List F32 := []
  us         : List F32 := []
  saturated  : BitVec 4 := 0
  unusable   : BitVec 4 := 0
  numeric    : Bool := false
  late       : Nat := 0                     -- late_inputs of the last tick (R175)
  lateNow    : Nat := 0
  swap       : Option (Nat × Option (Nat × U16)) := none   -- pending swap: tick, request to answer
  missing    : List Nat := [0, 0, 0, 0]
  freeze     : List Nat := [0, 0, 0, 0]
  lastY      : List (Option F32) := [none, none, none, none]
  lost       : BitVec 4 := 0
  frozen     : BitVec 4 := 0
  returns    : Nat := 0
  openFor    : Nat := 0                     -- ticks spent in OPEN
  fbValue    : List F32 := [0, 0, 0, 0]
  byCommand  : Bool := false                -- fallback entered by 0x06.43 (R184)
  entries    : Nat := 0
  since      : Nat := 0                     -- tick of the entry to the present run state
  fallSince  : Nat := 0                     -- tick of the entry to fallback (R183)
  lastSp     : List F32 := []               -- set-points of the previous update (R197)
  usedInTick : BitVec 4 := 0                -- prompt: inputs usable in some update of the tick (R178)
  sp         : List F32 := []               -- prompt: set-points of the tick (R162)
  lastUsable : List F32 := [0, 0, 0, 0]     -- R283
  arrived    : List (Nat × F32 × Bool) := []  -- prompt: channel, value and SETTLING of this fast tick
  fastDone   : Bool := true                 -- prompt: the update of this fast tick has run
  deriving DecidableEq, Repr

structure LopState where
  loops    : Tab Loop := {}
  plans    : List Plan := []                -- in order of command
  fast     : Nat := 0                       -- fast tick within the tick
  numeric  : Nat := 0                       -- numeric faults in all (0x06.03)
  lastNs   : Nat := 0
  maxNs    : Nat := 0
  released : Bool := true                   -- the period release of the last tick is done (R161)
  unreleased : List (Nat × Entry) := []     -- output points computed for that release, with their entries before it (R161)
  doneDue  : List (Nat × U16) := []         -- swaps that end DONE with that release (R172)
  deriving DecidableEq, Repr

/-- A ramp generator (R186, R189). -/
structure Ramp where
  value    : F32 := 0
  velocity : F32 := 0
  target   : F32 := 0
  limited  : Bool := false
  atTarget : Bool := true
  clipped  : Bool := false
  held     : Bool := false
  rate     : F32 := 0x7F7FFFFF
  accel    : F32 := 0
  noted    : Bool := false                  -- the clip of this target is recorded (R190)
  lastTick : F32 := 0                       -- value of the tick before (R162)
  deriving DecidableEq, Repr

/-- The state of a repetitive controller (R194 to R197). -/
structure Rep where
  mode     : Nat := 0                       -- 0 OFF, 1 HOLD_MEMORY, 2 LEARN
  phase    : Nat := 0                       -- in units of 1/65,536 update
  learning : List Bool := [true, true]
  calm     : List Nat := [0, 0]
  cause    : List Nat := [0, 0]
  updates  : List Nat := [0, 0]
  mem0     : Tab F32 := {}                  -- cells, zero where not listed
  mem1     : Tab F32 := {}
  stage0   : Tab F32 := {}                  -- staged cells (R198)
  stage1   : Tab F32 := {}
  lastSync : Bool := false
  bad      : List Bool := [false, false]    -- a freezing condition held in some update of the tick
  deriving DecidableEq, Repr

/-- A repetitive-memory snapshot (R198). -/
structure RepSnap where
  rep    : Nat
  tick   : Nat
  period : Nat
  mem0   : Tab F32
  mem1   : Tab F32
  used   : Nat
  deriving DecidableEq, Repr

structure RmpState where
  ramps : Tab Ramp := {}
  reps  : Tab Rep := {}
  snaps : Tab RepSnap := {}                 -- 4 buffers
  cells : List MirrorCell := []             -- repetitive-memory writes of the tick (R394)
  deriving DecidableEq, Repr

/-! ### Output stages (chapter 9) -/

/-- A drive state (R200). -/
inductive Drive where
  | driving | aside | held | off
  deriving DecidableEq, Repr

/-- A current-loop stage (R205 to R215). -/
structure ClStage where
  drive      : Drive := .off
  lineClosed : Bool := false                -- the line switch, which HELD leaves as it stood (R200)
  safetyOff  : Bool := false
  alarmSet   : Bool := false                -- ALARM set by 0x07.12
  alarm      : Bool := false                -- ALARM in force
  compliance : Bool := false
  openLoop   : Bool := false
  foldback   : Bool := false
  clipped    : Bool := false
  mismatch   : Nat := 0
  applied    : F32 := 0
  prior      : F32 := 0                     -- command applied at the last release (R213)
  readback   : F32 := 0
  supply     : F32 := 0                     -- of the driver (R210), or what an input gives its loop (R204, R205)
  junction   : F32 := 0
  limit      : F32 := 0x41C00000            -- current limit, 24 mA; 30 mA of a powered input (R205); lowered by foldback (R212)
  foldTemp   : F32 := 0                     -- junction temperature at the last foldback step (R212)
  foldAt     : Nat := 0                     -- operating time of that step
  alarms     : Nat := 0
  compliances : Nat := 0
  opens      : Nat := 0
  changed    : Nat := 0                     -- operating time of the last change of drive state
  deriving DecidableEq, Repr

/-- A fast output (R216, R217). -/
structure FaoStage where
  drive      : Drive := .off
  lineClosed : Bool := false
  safetyOff  : Bool := false
  clipped    : Bool := false
  code       : Int := 0
  monitor    : F32 := 0
  mismatchNs : Nat := 0                     -- time the monitor has disagreed
  changed    : Nat := 0
  deriving DecidableEq, Repr

/-- A digital channel (R218 to R220). -/
structure DioStage where
  drive      : Drive := .off
  lineClosed : Bool := false
  safetyOff  : Bool := false
  level      : Bool := false                -- filtered input level, or applied output state
  edges      : Nat := 0
  lastEdge   : Option Nat := none           -- sub-tick stamp of the last edge of this tick
  rose       : Bool := false                -- latches of this tick
  fell       : Bool := false
  command    : Bool := false                -- last command taken (R200, R203)
  overload   : Bool := false                -- switched off by an overload
  overloadAt : Nat := 0                     -- operating time of the last overload
  overloads  : Nat := 0
  openLoad   : Bool := false
  deriving DecidableEq, Repr

structure StgState where
  cl   : Tab ClStage := {}                  -- 48
  fao  : Tab FaoStage := {}                 -- 16
  dio  : Tab DioStage := {}                 -- 64
  dsupLow : List Nat := []                  -- groups whose DSUP_g is below 17 V (R469)
  margin : F32 := 0x40000000                -- adaptive supply margin, 2 V (R210)
  latches : List (Nat × Nat × Bool × Bool) := []   -- tick, channel, rose, fell of past ticks (R269)
  deriving DecidableEq, Repr

/-! ### Recipe sequencer (chapter 10) -/

/-- An assignment of a step (R230). -/
structure Assign where
  kind  : Nat
  wait  : Bool
  ref   : Nat
  value : U32
  rate  : F32
  accel : F32
  deriving DecidableEq, Repr

/-- A term of a transition (R231). -/
structure Term where
  kind  : Nat
  op    : Nat
  ref   : Nat
  level : U32
  hyst  : F32
  deriving DecidableEq, Repr

/-- A transition (R231). -/
structure Transition where
  any     : Bool          -- combine OR
  timeout : Bool
  target  : Nat
  terms   : List Term
  deriving DecidableEq, Repr

/-- A step (R229). -/
structure Step where
  assigns : List Assign
  trans   : List Transition
  pause   : Bool
  deriving DecidableEq, Repr

/-- A recipe image (R228). -/
structure Image where
  recipe : U64
  period : Nat
  abortFirst : Nat
  steps  : List Step
  bytes  : List Byte
  deriving DecidableEq, Repr

/-- An image load under way (R233). -/
structure Load where
  len  : Nat
  id   : U64
  data : Tab Byte := {}
  deriving DecidableEq, Repr

/-- The state of a sequence (R227). -/
inductive SeqRun where
  | noImage | ready | running | aborting
  deriving DecidableEq, Repr

structure Sequence where
  run        : SeqRun := .noImage
  ackSerial  : Nat := 0
  ackResult  : Nat := 0
  safetyHold : Bool := false
  allHold    : Bool := false
  cmdHold    : Bool := false
  pauseHold  : Bool := false
  lastEnd    : Nat := 0
  fired      : Nat := 0
  cause      : Nat := 0
  step       : Nat := 0
  elapsed    : Nat := 0
  active     : Option Image := none
  slot       : Nat := 1                     -- of the two image slots the one of the active image (R224)
  pending    : Option Image := none
  load       : Option Load := none
  committing : Option Nat := none           -- mailbox of a 0x08.12 under way
  terms      : List (Nat × Nat) := []       -- transition and term of each POINT term that was true
  stored     : List (Nat × U32) := []       -- POINT values of a step entered while held (R235)
  scheduled  : Option (Nat × Nat × Nat × U16) := none   -- start tick, first step, request
  entryTick  : Nat := 0
  transitions : Nat := 0
  deriving DecidableEq, Repr

structure SqnState where
  seqs    : Tab Sequence := {}              -- 16
  bound   : Tab SeqCfg := {}                -- bindings in force (R225)
  allHold : Bool := false                   -- a hold of all sequences is in force (R239)
  deriving DecidableEq, Repr

/-! ### Cyclic programs (chapter 11) -/

/-- The state of a task (R278). -/
inductive TaskMode where
  | unloaded | stopped | waiting | running | faulted
  deriving DecidableEq, Repr

structure Task where
  mode        : TaskMode := .unloaded
  overrun     : Bool := false
  preempted   : Bool := false
  held        : Bool := false
  consecutive : Nat := 0
  lastTrap    : Nat := 0
  executed    : Nat := 0
  skips       : Nat := 0
  suppressed  : Nat := 0
  traps       : Nat := 0
  lastStart   : Nat := 0
  started     : Bool := false               -- some start has been executed
  lastEnd     : Nat := 0
  lastRunNs   : Nat := 0
  maxRunNs    : Nat := 0
  cond        : Bool := false               -- EVENT condition of the last tick
  latched     : List (Nat × U32 × Byte) := []      -- point, value, status as latched (R256)
  flags       : List (Nat × Bool × Bool) := []     -- rose and fell of the latched inputs (R269)
  stamp       : Nat := 0                    -- cycle stamp in µs (R267)
  changedAt   : Nat := 0                    -- boundary after the last change of the condition in the direction of trigger_op
  stopAfter   : Option (Nat × U16) := none  -- 0x09.22 waiting for the end of the cycle
  startReq    : Option (Nat × U16) := none  -- 0x09.23 waiting for the next start
  deriving DecidableEq, Repr

/-- The end of a cycle waiting for rank 7 of its tick (R258). -/
structure TaskFinish where
  core  : Nat
  task  : Nat
  cycle : CycleEnd
  tick  : Nat
  points : List Nat := []                   -- its output list
  priority : Nat := 0
  deriving DecidableEq, Repr

/-- A program variable's value (R260): path, value. -/
abbrev Vars := List (List Byte × U64)

/-- A retentive variable as kept in MRAM (R262): path, type digest, value. -/
structure Retained where
  path   : List Byte
  digest : U64
  value  : U64
  deriving DecidableEq, Repr

/-- A shadow block (R262): the retentive words of one end of a task under its end sequence number, the commit marker written. -/
structure ShadowBlock where
  task  : Nat                               -- 8·core + task
  seq   : Nat
  words : List Retained
  deriving DecidableEq, Repr

structure PrgState where
  running   : Option ProgSet := none        -- the set in use
  staged    : Option ProgSet := none
  load      : Option Load := none
  committing : Option Nat := none
  tasks     : Tab Task := {}                -- 8·core + task
  committed : Vars := []                    -- committed instance data
  live      : List Retained := []           -- retentive variables, live copy (MRAM, R262)
  shadow    : List ShadowBlock := []        -- shadow copy: the last block of each task
  liveSeq   : Tab Nat := {}                 -- directory of the live copy: end sequence number by task
  blocks    : List Block := []              -- committed instance data of the standard blocks
  liveSet   : Option U64 := none            -- program set that wrote the live copy (R264)
  forces    : List (List Byte × U64 × Nat) := []   -- variable forces: path, value, tick (R276)
  ends      : List TaskFinish := []         -- cycle ends of the tick
  trapped   : List Nat := []                -- traps of the tick, counted at rank 7 (R456)
  coreDown  : List Nat := []                -- cores in reset
  coreStopped : List Nat := []              -- cores held stopped (R445)
  resets    : Tab Nat := {}                 -- resets per core (0x09.02)
  busy      : Tab (Nat × Nat) := {}         -- busy permille and its maximum per core
  change    : Option (Nat × Nat × Nat × U16) := none  -- online change: first tick c, window end in ns, request
  latchAt   : Tab Bool := {}                -- value of latched BOOL points at the last tick (R269)
  edges     : List (Nat × Nat × Bool) := [] -- tick, point, rising: changes of latched points (R269)
  deriving DecidableEq, Repr

/-! ### Acquisition (chapter 12) -/

/-- A mark (R286). -/
structure Mark where
  trigger  : Nat := 255
  source   : Nat := 0
  edge     : Nat := 0
  unit     : Nat := 0
  mask     : U64 := 0
  point    : Nat := 0xFFFF
  frac     : Nat := 0
  extra    : Nat := 0
  stamp    : Nat := 0
  interval : Nat := 0
  before   : F32 := 0
  after    : F32 := 0
  hostTag  : U32 := 0
  deriving DecidableEq, Repr

/-- A Stockpot record (R284 to R288), its tick first. -/
inductive StreamRecord where
  | points (tick first : Nat) (entries : List (U32 × Byte))
  | minmax (tick : Nat) (mask : U16) (groups : List (List (F32 × F32) × List Byte))
  | fast (tick n count : Nat) (values : List (U32 × Byte))
  | mark (tick : Nat) (m : Mark)
  | gap (tick firstSeq lastSeq firstTick lastTick reason : Nat)
  | config (tick period n fastCount divisor steps : Nat) (setCrc trigCrc : U32) (entries : List Nat)
  deriving DecidableEq, Repr

/-- A Stockpot frame (R290). -/
structure Frame where
  stream  : Nat
  seq     : Nat
  first   : Nat
  time    : Nat
  flags   : Nat
  records : List StreamRecord
  deriving DecidableEq, Repr

/-- Extremes of a channel over the record interval (R282). -/
structure MinMax where
  lo      : F32 := 0
  hi      : F32 := 0
  some    : Bool := false
  clean   : Bool := false                   -- extremes are of samples without SETTLING
  ovr    : Bool := false
  settled : Bool := false                   -- some sample carried SETTLING
  urgent  : Bool := false
  deriving DecidableEq, Repr

/-- A trigger as it runs (R303, 0x0A.02). -/
structure Trigger where
  up       : Bool := false                  -- armed for RISING
  down     : Bool := false                  -- armed for FALLING
  last     : Option (Nat × F32) := none     -- stamp and value evaluated last
  marks    : Nat := 0
  extra    : Nat := 0
  lastTick : Nat := 0
  lastStamp : Nat := 0
  deriving DecidableEq, Repr

/-- The records of a tick waiting for the boundary two ticks later (R289). -/
structure TickRecords where
  tick  : Nat
  head  : List StreamRecord                 -- CONFIG, and GAP of an acquisition reset
  marks : List Mark                         -- LOCAL, HALYARD, HOST
  rest  : List StreamRecord
  deriving DecidableEq, Repr

/-- A captured segment (R312, R314). -/
structure Segment where
  short    : Bool := false
  complete : Bool := false
  halyard  : Bool := false
  mask     : U64 := 0
  unit     : Nat := 0
  stamp    : Nat := 0
  tick     : Nat := 0
  first    : Nat := 0
  pre      : Nat := 0
  captures : List (List U32) := []          -- 16 words each, in order
  busy     : Nat := 0
  rearm    : Nat := 0
  sources  : Nat := 0
  interval : Nat := 0
  capture  : Nat := 0                       -- capture_id
  deriving DecidableEq, Repr

structure AcqState where
  stream     : StreamCfg := {}              -- stream configuration in use
  excluded   : Tab Bool := {}               -- record set in use
  fastSet    : List Nat := []               -- fast set in use
  triggers   : Tab TriggerCfg := {}         -- trigger entries in use
  trig       : Tab Trigger := {}
  streamId   : Nat := 1                     -- start count at which the stream began (R290)
  nextSeq    : Nat := 0
  ackSeq     : Nat := 0
  path       : Nat := 0                     -- 0 U0, 1 U1 (R295)
  reachable  : Bool := true
  lastAck    : Nat := 0                     -- operating time of the last valid acknowledgement on the path
  probeU1    : Bool := false                -- the next probe goes to U1
  ring       : List Frame := []             -- frames not acknowledged, ascending seq (R297)
  spill      : List Frame := []             -- spilled frames (R298)
  spilling   : Bool := false
  spillDead  : Bool := false                -- the reserve of the spill area is used up (R453)
  budget     : Nat := 0                     -- bytes written to the spill area (R299), MRAM
  ackLost0   : Bool := false                -- U0 lost for want of acknowledgements (R295)
  ackLost1   : Bool := false
  lost       : List (Nat × Nat × Nat × Nat × Nat) := []  -- lost seq range, tick range, reason (R300)
  lostNew    : Bool := false                -- the newest range awaits its GAP record
  gaps       : Nat := 0
  resent     : Nat := 0
  acksDropped : Nat := 0
  timeSteps  : Nat := 0
  configDue  : Bool := true                 -- a CONFIG record is due
  minmax     : Tab MinMax := {}
  fastVals   : List (U32 × Byte) := []      -- FAST values of the tick so far
  hosts      : List Mark := []              -- HOST marks of the tick
  locals     : List Mark := []              -- LOCAL marks of the tick
  halMark    : Option Mark := none          -- HALYARD mark for the tick before
  waiting    : List TickRecords := []
  gapDue     : Option StreamRecord := none  -- GAP of an acquisition reset, to be packed
  streamPlans : List (Nat × StreamCfg) := []  -- 0x0A.10 in effect from a tick on
  back       : Option Nat := none           -- tick at which the domain serves again after its reset (R444)
  lostFrom   : Nat := 0                     -- first tick lost with the reset
  resetBox   : Option Nat := none           -- mailbox of a 0x0F.20 that waits for it
  armed      : Bool := false                -- R308
  armAt      : Option (Nat × Bool) := none  -- HAL_ARM change to drive: tick, level
  armNext    : Option Bool := none          -- armed state from the next boundary
  halArmOut  : Bool := false                -- level driven on HAL_ARM
  fireDue    : Bool := false                -- pull HAL_FIRE_N in this tick (R309)
  fireSeen   : Bool := false                -- the first edge of this tick is taken
  edgesIgnored : Nat := 0
  segs       : Tab Segment := {}
  segCurrent : Nat := 0
  segArmed   : Bool := true
  segLeft    : Option Nat := none           -- captures still to take of the segment in progress
  preRing    : List (Nat × List U32) := []  -- pre-trigger captures: tool time and words, newest first
  segPending : List (Nat × Mark) := []      -- segment triggers not yet matched to a capture, with their tick
  segCount   : Nat := 0                     -- captures of the tick so far
  segFrom    : Nat := 0                     -- tool time at which the current segment was armed
  missedFull : Nat := 0
  missedBusy : Nat := 0
  missedRearm : Nat := 0
  captureId  : Nat := 0
  lastCapture : Nat := 0
  deriving DecidableEq, Repr

/-! ### Event recorder (chapter 13) -/

/-- An event record (R318); `args` is what the record tells, as far as the manual says. -/
structure Record where
  kind    : EventKind
  args    : List Nat := []
  audit   : Bool := false
  cont    : Bool := false
  lostAudit : Bool := false
  unsync  : Bool := false
  mode    : Nat := 0
  opMs    : Nat := 0
  suppressed : Nat := 0
  cycles  : Nat := 0
  time    : Nat := 0
  tick    : Nat := 0
  seq     : Nat := 0
  queued  : Nat := 0                        -- operating time it entered the pending queue
  deriving DecidableEq, Repr

/-- A token bucket (R324). -/
structure Bucket where
  tokens     : Nat := 4
  below      : Nat := 0                     -- operating time it first fell below b, or the last token came
  suppressed : Nat := 0
  since      : Nat := 0                     -- operating time of the first suppression
  deriving DecidableEq, Repr

/-- A cursor (R331, R332). -/
structure Cursor where
  mailbox : Nat
  audit   : Bool
  pos     : Nat                             -- seq at which the next window starts
  window  : Option (List Record) := none
  first   : Nat := 0
  skipped : Nat := 0
  used    : Nat := 0
  deriving DecidableEq, Repr

structure RcdState where
  seq       : Nat := 0                      -- next seq (R320), MRAM
  committed : Nat := 0                      -- last committed seq, plus one (R323), MRAM
  late      : List Record := []             -- records of a supervisor reset, written at its restart (R17, R322)
  waiting   : List (Nat × Record) := []     -- events of the tick with their rank, before rank 9 (R322)
  queue     : List Record := []             -- pending queue, at most 256 (R323)
  general   : List Record := []             -- oldest first, at most 196,608 (R328)
  audit     : List Record := []             -- oldest first, at most 65,536 (R329)
  auditLost : Nat := 0
  lostCount : Nat := 0                      -- losses not yet recorded (R325)
  lostFirst : Nat := 0
  lostLast  : Nat := 0
  lostTotal : Nat := 0
  atLoss    : Nat := 0                      -- pending entries when the module last stopped (R327), MRAM
  buckets   : Tab Bucket := {}              -- by event kind
  cursors   : Tab Cursor := {}              -- 16
  challenge : Option (BitVec 256 × Nat) := none    -- 0x0B.30: nonce, operating time
  deriving DecidableEq, Repr

/-! ### Safety island (chapters 14 and 15) -/

/-- The roles of an input pair (R339). -/
inductive PairRole where
  | off | equivalent | antivalent | reset
  deriving DecidableEq, Repr

/-- An element of the safety logic (R348); the PAIR, SHROUD, AXIS and CONST kinds are the inputs it works on. -/
inductive Element where
  | and (ins : List Nat) | or (ins : List Nat) | not (i : Nat)
  | onDelay (i n : Nat) | offDelay (i n : Nat) | latch (i : Nat)
  | edm (feedback output n : Nat)
  | pair (n : Nat) | shroudBit (c byte bit : Nat) | shroudLockout (c : Nat) | axisViolation (x : Nat)
  | const (b : Bool)
  deriving DecidableEq, Repr

/-- An axis entry (R351). -/
structure AxisCfg where
  srcA : Nat
  srcB : Nat
  drive : Nat
  scale : F32
  tolPos : F32
  tolSpeed : F32
  vStill : F32
  sls : List F32
  slpOn : Bool
  slpLo : F32
  slpHi : F32
  sdi : Nat
  sdiTol : F32
  ss1Time : Nat                             -- ms
  ss1Decel : F32
  ss1OnViolation : Bool
  selSto : Option Nat                       -- logic elements that demand STO and SS1 and select SLS
  selSs1 : Option Nat
  selSls : List Nat                         -- elements that give the bits of the index of the limit; empty: none selected
  deriving DecidableEq, Repr

/-- A Shroud connection's configuration (R369). -/
structure ConnCfg where
  number : Nat
  input  : Bool
  field  : Option Nat                       -- field port; none for UPLINK
  unit   : Nat
  identity : U32
  length : Nat
  window : Nat
  dual   : Bool
  addr0  : U32
  addr1  : U32
  opt    : Bool
  outputs : List (Nat × Nat × Nat)          -- OUT: byte, bit, element
  deriving DecidableEq, Repr

/-- A safety output's configuration (R345, R346). -/
structure OutCfg where
  element : Option Nat
  test    : Bool
  pulse   : Nat                             -- µs
  seriesHigh : Bool
  seriesLow  : Bool
  deriving DecidableEq, Repr

/-- A safety configuration as the island reads it from an image (R348, R349, R351, R360, R369). -/
structure SafetyCfg where
  pairs   : List (PairRole × Nat)           -- role and discrepancy time in samples
  logic   : List Element
  outputs : List OutCfg
  forceOff : List (StageId × Nat)
  holds   : List (Nat × Nat)                -- sequence, element
  lockout : Option Nat
  flags   : List (Nat × Nat)                -- bit, element
  lockStages : List StageId
  lockAxes : List Nat
  axes    : List AxisCfg
  conns   : List ConnCfg
  confirmTail : List Nat                    -- pairs of steps 6 and 7 of the confirmation pattern
  deriving DecidableEq, Repr
end Sys2Proof.Machine

namespace Sys2Proof.Config
/-- The body of a safety configuration image (R360: its layout is Vasundi Studio's own), or none where a field lies
outside the limits. notes/assumptions/9. -/
opaque safetyBody : List (BitVec 8) → Option Sys2Proof.Machine.SafetyCfg

/-- The offset and reason of the first field of a safety configuration outside the limits. notes/assumptions/9. -/
opaque safetyReason : List (BitVec 8) → Nat × Nat
end Sys2Proof.Config

namespace Sys2Proof.Machine

/-- The state of the island (R355). -/
inductive IslandState where
  | unconfigured | run | lockout | confirming
  deriving DecidableEq, Repr

/-- An input pair as it runs (R339 to R342, 0x0C.02). -/
structure InPair where
  rawA     : Bool := false                  -- level of the last sample
  rawB     : Bool := false
  a        : Bool := false                  -- level after two samples
  b        : Bool := false
  changeA  : Nat := 0                       -- sample of the last change of A
  changeB  : Nat := 0
  on       : Bool := false
  faulted  : Bool := false
  cleared  : Bool := false                  -- both channels off-level together since the fault
  pendingAt : Option Nat := none            -- s1 of a discrepancy under way
  failA    : Bool := false                  -- circuit test failed in the last interval
  failB    : Bool := false
  lastD    : Nat := 0                       -- µs
  faults   : Nat := 0
  deriving DecidableEq, Repr

/-- A test pulse under way (R346). -/
structure Pulse where
  high : Bool
  dark : Bool
  deriving DecidableEq, Repr

/-- A safety output (R343 to R347, 0x0C.03). -/
structure SafeOut where
  demand   : Bool := false
  high     : Bool := false                  -- commanded switch states
  low      : Bool := false
  readHigh : Bool := false
  readLow  : Bool := false
  disagreeHigh : Bool := false              -- read-back of the last sample disagreed
  disagreeLow : Bool := false
  stands   : Bool := false                  -- it disagreed at the last two samples
  overload : Bool := false
  faulted  : Bool := false
  pulse    : Option Pulse := none
  nextHigh : Bool := true                   -- the switch the next pulse tests
  pendingOn : Bool := false                 -- an on demand waits for the end of a bright pulse
  tests    : Nat := 0
  overloads : Nat := 0
  current  : F32 := 0
  deriving DecidableEq, Repr

/-- An axis as it runs (R353, R354). -/
structure Axis where
  pA : F32 := 0
  pB : F32 := 0
  vA : F32 := 0
  vB : F32 := 0
  compareFail : Bool := false
  fails : Nat := 0
  faulted : Bool := false                   -- a cross-comparison fault, until a deliberate reset (R358)
  violation : Bool := false
  sto : Bool := false
  ss1 : Option (Nat × F32 × F32) := none    -- evaluation count at the demand and the two |v0|
  ss1Done : Bool := false                   -- SS1 has come to STO
  slsIndex : Nat := 0
  lastA : Option F32 := none                -- positions of the evaluation before
  lastB : Option F32 := none
  againstA : F32 := 0                       -- motion against the permitted direction since selection
  againstB : F32 := 0
  deriving DecidableEq, Repr

/-- A configuration load or a checked configuration of the island (R361). -/
structure SafState where
  state     : IslandState := .unconfigured
  before    : IslandState := .unconfigured  -- state to return to from CONFIRMING
  heldMode  : Nat := 0                      -- R336
  fault     : Nat := 0                      -- point 291
  faultNow  : Bool := false                 -- a safety fault found at the sample under way
  supplyBad : Bool := false                 -- VSAFE or a monitor out of its limits at the last sample
  lockEvents : List Bool := []              -- lock-outs entered (true) and ended (false) that the mode has yet to follow
  demand    : Nat := 0                      -- point 290
  lockTick  : Nat := 0
  faults    : Nat := 0
  cfg       : Option SafetyCfg := none      -- configuration in use; its own store (R335)
  image     : List Byte := []
  crc       : U32 := 0
  build     : U32 := 0
  firmware  : U32 := 0                      -- version beyond the one installed at manufacture
  samples   : Nat := 0                      -- point 293
  rounds    : Nat := 0                      -- point 319
  pairs     : Tab InPair := {}              -- 24
  logic     : List Bool := []               -- element values of the last sample
  timers    : Tab Nat := {}                 -- element timers in samples
  latches   : List Nat := []                -- LATCH elements set
  edmWait   : Tab Nat := {}                 -- EDM elements waiting for feedback
  outs      : Tab SafeOut := {}             -- 12
  forced    : List StageId := []            -- stages forced off
  holds     : List Nat := []                -- sequences the logic holds
  flags     : U32 := 0                      -- point 289
  axes      : Tab Axis := {}                -- 32
  evals     : Nat := 0                      -- axis evaluations
  resetHigh : Option Nat := none            -- sample at which the reset pulse rose
  resetLevel : Bool := false
  resetBad  : Nat := 0                      -- reason of the last refusal (point 292)
  refused   : Nat := 0
  session   : Option (Nat × Nat) := none    -- mailbox and operating time of the last request
  wrong     : Nat := 0                      -- wrong passwords in a row
  wrongAt   : Nat := 0
  password  : Option (BitVec 128 × BitVec 256) := none   -- salt and digest (R362)
  load      : Option Load := none
  pending   : Option (List Byte × U32 × SafetyCfg) := none   -- checked configuration
  confirmAt : Nat := 0                      -- operating time 0x0C.15 took effect
  confirmStep : Nat := 0
  confirmOn : Bool := false                 -- the pair of the step has gone ON
  confirmBox : Option Nat := none
  deriving DecidableEq, Repr

/-- The states of an IN connection (R374). -/
inductive ConnMode where
  | notEstablished | valid | lost
  deriving DecidableEq, Repr

/-- A Shroud connection as it runs (R372 to R380, 0x0C.07). -/
structure Conn where
  mode     : ConnMode := .notEstablished
  last     : Nat := 0
  deadline : Nat := 0                       -- island-time ns at which the watchdog expires
  data     : List Byte := []
  prevData : List Byte := []
  lockFlag : Bool := false
  kept     : List (Nat × List Byte) := []   -- the last 16 accepted seq values with their frames (R379)
  errors   : List Nat := []                 -- island-time stamps of frame errors
  path0    : Nat := 0                       -- island time of the last copy on each path
  path1    : Nat := 0
  miss0    : Bool := false
  miss1    : Bool := false
  stands   : Bool := false                  -- a fault of this connection stays present
  pathFault0 : Bool := false                -- a path missing for more than 3 windows (R380)
  pathFault1 : Bool := false
  accepted : Nat := 0
  duplicates : Nat := 0
  crcErrors : Nat := 0
  idErrors : Nat := 0
  windowErrors : Nat := 0
  seqErrors : Nat := 0
  mismatches : Nat := 0
  differs  : Bool := false                  -- a copy differed since the last sample (R379, R382)
  missing  : Nat := 0
  outSeq   : Nat := 0                       -- OUT: seq of the next frame
  deriving DecidableEq, Repr

structure ShrState where
  conns : Tab Conn := {}                    -- 64
  drops : Nat := 0                          -- datagrams dropped (R377)
  deriving DecidableEq, Repr

/-! ### Redundant pairs (chapter 16) -/

/-- The pair roles (R404). -/
inductive PairMode where
  | unpaired | active | syncing | standby | handover | givenUp
  deriving DecidableEq, Repr

structure ParState where
  role      : PairMode := .unpaired
  split     : Bool := false
  claimLost : Bool := false                 -- no valid peer claim word for 3 µs (R404)
  solo      : Bool := false
  stayUp    : Bool := false
  own       : Byte := 0                     -- claim being sent (R387)
  peer      : Byte := 0                     -- last valid peer claim
  peerIncumbentSeen : Bool := false
  peerHeldGrade : Nat := 0                  -- grade of the last non-zero peer claim (R389)
  giveUp    : Nat := 0                      -- last cause (R391)
  delayed   : Option Nat := none            -- tick of the load point at which the claim changes (R392)
  claimTick : Option Nat := none            -- tick of the last valid peer claim word
  hbTick    : Option Nat := none            -- tick of the last valid HEARTBEAT
  hbLost    : Bool := false
  peerMode  : Nat := 0
  peerUnit  : Nat := 0                      -- unit number of the last HEARTBEAT
  peerRole  : Nat := 0
  peerGrade : Nat := 0
  peerDigest : U32 := 0
  peerInfo  : Option PeerInfo := none
  checksOk  : Bool := false                 -- the checks of R386 passed
  mirrored  : Bool := false                 -- the release of this tick has been mirrored complete (R392)
  sentParts : List MirrorFrame := []        -- the last mirror sent
  snap      : List MirrorContent := []      -- the content of the tick resolved last, to be mirrored (R394)
  snapTick  : Nat := 0
  lastMirror : Nat := 0
  parts     : List Nat := []                -- parts received of the mirror under way
  partCount : Nat := 0
  rxTick    : Nat := 0
  rxDigest  : U32 := 0
  rx        : List MirrorContent := []
  apply     : Option (Nat × U32 × List MirrorContent) := none   -- complete mirror to apply at the next boundary
  syncGood  : Nat := 0                      -- consecutive complete mirrors in SYNC
  incomplete : Nat := 0
  mismatches : Nat := 0
  switches  : Nat := 0
  switchTick : Nat := 0
  yieldSince : Option Nat := none           -- operating time since which the standby is better by yield_margin
  stopped   : Nat := 0                      -- consecutive ticks in which every witness reports the peer stopped
  unsupported : Nat := 0                    -- consecutive ticks without a supporting witness
  handoverBox : Option Nat := none
  grade     : Nat := 7                      -- R388
  pageCap   : Option Nat := none            -- operating times of the conditions of timed caps
  stayCap   : Option Nat := none
  testCap   : Option Nat := none
  rounds    : Nat × Nat := (0, 0)           -- operating time and island round count of the last check (R402)
  ownReport : HealthReport := {}
  peerReport : HealthReport := {}
  looped    : Nat := 0
  words     : Nat := 0                      -- claim words sent
  instDue   : List BulkItem := []           -- BULK items to apply at the next boundary
  instTasks : List Nat := []                -- tasks whose last end waits to be applied (R396)
  judged    : Option Nat := none            -- tick whose mirror has been judged at its deadline
  fecBase   : Nat × Nat × Nat := (0, 0, 0)  -- start of the 60 s window of R388: operating time, tick, corrected count
  deriving DecidableEq, Repr

/-! ### Firmware update (chapter 17) -/

/-- The state of a slot (R416). -/
inductive SlotState where
  | empty | partly | received | verified | failed | confirmed | unconfirmed | rejected | blocked
  deriving DecidableEq, Repr

/-- Header fields of an image (R410). -/
structure ImageHeader where
  version  : Nat := 0
  rollback : Nat := 0
  mirror   : Nat := 0
  mirrorMin : Nat := 0
  settings : Nat := 0
  settingsMin : Nat := 0
  len      : Nat := 0
  crc      : Nat := 0
  island   : Nat := 0
  hasIsland : Bool := false
  deriving DecidableEq, Repr

/-- A firmware slot (R408): state, header, whether checks 1 to 4 of R412 hold of its bytes (0, or the reason), bytes. -/
structure FwSlot where
  state  : SlotState := .empty
  header : ImageHeader := {}
  reason : Nat := 0
  bytes  : List Byte := []
  deriving DecidableEq, Repr

/-- An activation schedule (R417). -/
structure Schedule where
  at_      : Nat                            -- a_t
  group    : U32
  members  : U16
  auto     : Bool
  hold     : Nat
  readyNow : Bool := false                  -- ready without interruption since the deadline tick
  groupOk  : Bool := false                  -- a complete 0x0E.21 by the deadline tick
  judged   : Bool := false                  -- the deadline has been judged
  proceeding : Bool := false
  deriving DecidableEq, Repr

structure UpdState where
  run        : FwSlot := { state := .confirmed, header :=
    { version := Config.factoryImage 0, rollback := Config.factoryImage 1, mirror := Config.factoryImage 2,
      mirrorMin := Config.factoryImage 3, settings := Config.factoryImage 4, settingsMin := Config.factoryImage 5,
      len := Config.factoryImage 6, crc := Config.factoryImage 7, island := Config.factoryImage 8 } }
  stage      : FwSlot := {}
  fallback   : FwSlot := {}
  factory    : FwSlot := { state := .confirmed, header :=
    { version := Config.factoryImage 0, rollback := Config.factoryImage 1, mirror := Config.factoryImage 2,
      mirrorMin := Config.factoryImage 3, settings := Config.factoryImage 4, settingsMin := Config.factoryImage 5,
      len := Config.factoryImage 6, crc := Config.factoryImage 7, island := Config.factoryImage 8 } }
  slot       : Nat := 0                     -- slot started from: 0 RUN, 1 FALLBACK, 2 FACTORY
  stageLen   : Nat := 0                     -- 0x0E.10
  stageHash  : List Byte := []
  stageData  : Tab Byte := {}               -- bytes received of the block being filled and after it
  stageBlocks : List Nat := []              -- complete blocks in the update journal (R414)
  schedule   : Option Schedule := none
  lastDefer  : Nat := 0
  starts     : Nat := 0                     -- starts_unconfirmed (R424)
  window     : Option Nat := none           -- operating time at which the window opened (R422)
  auto       : Bool := false
  autoHold   : Nat := 0
  goodSince  : Option Nat := none           -- operating time since which the grade stands at 5 or more
  journal    : Option Nat := none           -- an activation copy is pending: next block (R421)
  other      : Settings := {}               -- the settings half of the firmware in the other slot (R425)
  schema     : Nat := Config.factoryImage 4 -- settings schema in use
  sourceDigest : U32 := 0                   -- R425
  otherSchema : Nat := 0                    -- settings schema and source_digest of the other half
  otherDigest : U32 := 0
  migrate    : Bool := false                -- migration due at this start (R426)
  deriving DecidableEq, Repr

/-! ### Monitor and outputs -/

structure MonState where
  ticking : Bool := false                   -- TICK output under way (R482)
  lineAt  : Option Nat := none              -- tool time of its last line
  trace   : List String := []               -- trace lines of the current start (R483)
  deriving DecidableEq, Repr

/-- What the module puts on its lands and links during one command. -/
inductive Output where
  | response (path : Path) (addr : U32) (port : U16) (bytes : List Byte)
  | responseFragment (path : Path) (addr : U32) (port : U16) (offset : Nat) (more : Bool) (bytes : List Byte)
  | fieldFrame (port : Nat) (bytes : List Byte)
  | acyclic (port : Nat) (bytes : List Byte)
  | sync (port seq : Nat)
  | followUp (port seq seconds nanos : Nat)
  | pdelayResponse (port : Nat)
  | arpReply (path : Path) (addr : U32)
  | echoReply (uplink : Nat) (data : List Byte)
  | halTick (w : HalWidth)
  | halArm (high : Bool)
  | halFire (delayNs releaseNs : Nat)
  | halAct (riseNs fallNs : Nat)
  | streamBytes (uplink : Nat) (addr : U32) (port : Nat) (bytes : List Byte)
  | claimWord (w : U32)
  | heartbeat (h : HeartbeatFrame)
  | mirror (f : MirrorFrame)
  | bulk (frames : List (List Byte)) (i : BulkItem)
  | control (frame : List Byte)
  | health (frame : List Byte) (r : HealthReport)
  | shroudDatagram (path : Nat) (addr : U32) (bytes : List Byte)
  | safetySwitch (output : Nat) (high low : Bool)
  | monitor (line : String)
  | peerDelay (uplink : Nat)
  deriving DecidableEq, Repr

/-- The state of the module. `pending` is the queue of commands that wait, first in, first out; `out` is what the last
command put on the module's lands and links. -/
structure State where
  pending : List Instr := []
  cfg  : Settings := {}
  sys  : SysState := {}
  time : TimeSt := {}
  mbx  : MbxState := {}
  pts  : PtsState := {}
  ain  : AinState := {}
  fld  : FldState := {}
  lop  : LopState := {}
  rmp  : RmpState := {}
  stg  : StgState := {}
  sqn  : SqnState := {}
  prg  : PrgState := {}
  acq  : AcqState := {}
  rcd  : RcdState := {}
  saf  : SafState := {}
  shr  : ShrState := {}
  par  : ParState := {}
  upd  : UpdState := {}
  mon  : MonState := {}
  out  : List Output := []
  deriving DecidableEq, Repr

/-- Why a step stops with a fault. No command of the manual's rows stops the block. -/
inductive Fault where
  /-- The name for a command with operands that no hardware can supply. No meaning raises it: such a command is refused by
  Instr.wf (WellFormed.lean), and exec runs it like any other. Safe. -/
  | illFormed
  deriving DecidableEq, Repr

/-- Why a step refuses a command. -/
inductive Refusal where
  /-- Raised by a dispatch arm whose command has no meaning yet; every arm has one, so none raises it. Safe. -/
  | notModelled (mnemonic : String)
  deriving DecidableEq, Repr

/-- The record of the first start (R319): MODULE_START with start count 1, cause power-up, nothing pending. -/
def Record.firstStart : Record := { kind := .moduleStart, args := [1, 1, 0, 0], cycles := 1, unsync := true }

/-- The record of the first change into BOOT (R74). -/
def Record.firstBoot : Record := { kind := .modeChange, args := [0, 0, 1], cycles := 1, unsync := true }

/-- The machine right after its first start since manufacture: BOOT entered (R74), its reset in the history (R489), its
records not yet written, its first trace lines printed (R483), every other field at its reset value. -/
def State.reset : State :=
  { sys := { history := [{ domain := 0, index := 0, cause := 1, tick := 0, start := 1 }] },
    rcd := { waiting := [(0, Record.firstStart), (0, Record.firstBoot)] },
    mon := { trace := ["0 POWER_GOOD", "0 STRAPS unit_b=0 almsel=000000 compat_n=0"] } }

end Sys2Proof.Machine
end

