-- ==== Sys2Proof/Machine/Table.lean ====
section
/-! DEFINITION. Sparse tables keyed by number: reading, writing and removing one entry. Keys rise strictly
(`Tab.Sorted`; kept by every operation, Laws/Table.lean). -/

namespace Sys2Proof.Machine

/-- The entry of key `i` in a list of cells. -/
def cellsFind {α : Type} (i : Nat) : List (Nat × α) → Option α
  | [] => none
  | (k, v) :: r => if k = i then some v else cellsFind i r

/-- The cells with the entry of key `i` set; keys stay in rising order. -/
def cellsPut {α : Type} (i : Nat) (v : α) : List (Nat × α) → List (Nat × α)
  | [] => [(i, v)]
  | (k, w) :: r =>
    if i < k then (i, v) :: (k, w) :: r
    else if i = k then (i, v) :: r
    else (k, w) :: cellsPut i v r

/-- The cells without the entry of key `i`. -/
def cellsDel {α : Type} (i : Nat) : List (Nat × α) → List (Nat × α)
  | [] => []
  | (k, w) :: r => if i = k then r else (k, w) :: cellsDel i r

def Tab.find {α : Type} (t : Tab α) (i : Nat) : Option α := cellsFind i t.cells

def Tab.getD {α : Type} (t : Tab α) (i : Nat) (d : α) : α := (t.find i).getD d

def Tab.put {α : Type} (t : Tab α) (i : Nat) (v : α) : Tab α := ⟨cellsPut i v t.cells⟩

def Tab.del {α : Type} (t : Tab α) (i : Nat) : Tab α := ⟨cellsDel i t.cells⟩

/-- The table with the entry of key `i` replaced by a function of it (`d` where it is not listed). -/
def Tab.upd {α : Type} (t : Tab α) (i : Nat) (d : α) (f : α → α) : Tab α := t.put i (f (t.getD i d))

/-- Whether key `i` is listed. -/
def Tab.has {α : Type} (t : Tab α) (i : Nat) : Bool := (t.find i).isSome

def Tab.keys {α : Type} (t : Tab α) : List Nat := t.cells.map (·.1)

/-- The values of `n` keys from `i` on. -/
def Tab.range {α : Type} (t : Tab α) (i n : Nat) (d : α) : List α := (List.range n).map fun j => t.getD (i + j) d

/-- The table with the values of a list at the keys from `i` on. -/
def Tab.putList {α : Type} (t : Tab α) (i : Nat) : List α → Tab α
  | [] => t
  | v :: r => (t.put i v).putList (i + 1) r

/-- A table of the values of a list at keys 0 on. -/
def Tab.ofList {α : Type} (l : List α) : Tab α := ⟨l.zipIdx.map fun p => (p.2, p.1)⟩

/-- The canonical form of a table: its keys rise strictly. -/
def Tab.Sorted {α : Type} (t : Tab α) : Prop := (t.cells.map (·.1)).Pairwise (· < ·)

/-- The list with the entry at `i` replaced by a function of it (no change past its end). -/
def listUpd {α : Type} (i : Nat) (f : α → α) : List α → List α
  | [] => []
  | x :: r => match i with
    | 0 => f x :: r
    | j + 1 => x :: listUpd j f r

/-- A list with an element placed before the first that it precedes. -/
def insertBy {α : Type} (before : α → α → Bool) (a : α) : List α → List α
  | [] => [a]
  | b :: r => if before a b then a :: b :: r else b :: insertBy before a r

/-- A stable sort: elements of which neither precedes the other keep their order. -/
def sortBy {α : Type} (before : α → α → Bool) (l : List α) : List α := l.foldl (fun r a => insertBy before a r) []

/-- Fold of a state function over a list. -/
def forAll {α β : Type} (l : List α) (f : α → β → β) (b : β) : β := l.foldl (fun b a => f a b) b

/-- Fold over the numbers below `n`. -/
def forN {β : Type} (n : Nat) (f : Nat → β → β) (b : β) : β := forAll (List.range n) f b

/-- The index of the first element that meets `p`. -/
def firstIdx {α : Type} (p : α → Bool) (l : List α) : Option Nat := l.findIdx? p

end Sys2Proof.Machine
end

