-- ==== Sys2Proof/Machine/Ops.lean ====
section
/-! DEFINITION. Operations every chapter uses: codes of modes and statuses, tool and operating time, event records,
outputs, resource identities, fault counters and the start of a retirement. -/

namespace Sys2Proof.Machine

/-! ### Codes -/

/-- Mode codes (R73). -/
def Mode.code : Mode → Nat
  | .boot => 0 | .activate => 1 | .service => 2 | .configure => 3 | .idle => 4 | .run => 5 | .hold => 6
  | .sync => 7 | .standby => 8 | .handover => 9 | .lockout => 10 | .halt => 11

/-- Modes in which loops, tasks and sequences may run: IDLE, RUN and HOLD (R73). -/
def Mode.live (m : Mode) : Bool := m = .idle || m = .run || m = .hold

/-- Modes in which no loop, task or sequence runs, so that tool time may step (R31). -/
def Mode.steps (m : Mode) : Bool := m = .boot || m = .service || m = .configure

/-- The loader runs (R73): in BOOT and ACTIVATE only mailboxes 0 to 3 are served (R75). -/
def State.starting (s : State) : Bool := s.sys.mode = .boot || s.sys.mode = .activate

/-- Status codes (R63). -/
def Status.code : Status → Nat
  | .done => 0 | .accepted => 1 | .busy => 2 | .refusedMode => 3 | .refusedRight => 4 | .badArg => 5 | .notOwner => 6
  | .restarted => 7 | .retired => 8 | .unknown => 9 | .timeout => 10 | .superseded => 11

/-- Role codes (R53). -/
def Role.code : Role → Nat
  | .observe => 0 | .operate => 1 | .engineer => 2 | .safety => 3 | .service => 4 | .unbound => 7

def Role.ofCode : Nat → Option Role
  | 0 => some .observe | 1 => some .operate | 2 => some .engineer | 3 => some .safety | 4 => some .service
  | 7 => some .unbound | _ => none

/-- Time state codes (R30). -/
def TimeState.code : TimeState → Nat
  | .free => 0 | .acquiring => 1 | .locked => 2 | .slewing => 3 | .holdover => 4 | .unaligned => 5

/-! ### Time -/

/-- The base period in ns. -/
def State.periodNs (s : State) : Nat := s.time.periodUs * 1000

/-- Tool time at the boundary of the current tick, in ns (R39). -/
def State.toolNs (s : State) : Nat := s.time.tick * s.periodNs

/-- The first boundary of a grid of `p` ns at or after a tool time in ns. -/
def boundaryFrom (p ns : Nat) : Nat := (ns + p - 1) / p

/-- A change of T is due: the next boundary of the old grid lies at or after its first boundary. -/
def State.periodDue (s : State) : Option (Nat × Nat × Nat) :=
  s.time.change.filter fun c => (s.time.tick + 1) * s.periodNs ≥ c.2.2 * c.1 * 1000

/-- Tick index and tool time in ns of the boundary that ends the current tick (R36, R41). -/
def State.nextBoundary (s : State) : Nat × Nat :=
  match s.periodDue with
  | some (t, _, e) =>
    let tick := max e (boundaryFrom (t * 1000) (s.toolNs + 1))
    (tick, tick * t * 1000)
  | none => (s.time.tick + 1, (s.time.tick + 1) * s.periodNs)

/-- Tool time is synchronised in LOCKED, SLEWING and HOLDOVER (R30). -/
def State.synced (s : State) : Bool :=
  s.time.state = .locked || s.time.state = .slewing || s.time.state = .holdover

/-- The number of ticks that fill `ms` milliseconds, rounded up. -/
def State.ticksOfMs (s : State) (ms : Nat) : Nat := (ms * 1000 + s.time.periodUs - 1) / s.time.periodUs

/-- The 16-bit sub-tick field of a point entry: units of 16 ns, rounded down (R44). -/
def sub16 (ns : Nat) : U16 := BitVec.ofNat 16 (min (ns / 16) 65535)

/-- The leaky window of every counter: 1 s in ns of operating time (R455). -/
def windowNs : Nat := 1000000000

/-! ### Outputs and records -/

/-- What the module puts on a land or link, in order. -/
def emit (o : Output) (s : State) : State := { s with out := s.out ++ [o] }

/-- An event of the current tick at a rank of R42, to be written at rank 9 (R322). -/
def noteRecord (rank : Nat) (r : Record) (s : State) : State :=
  { s with rcd.waiting := s.rcd.waiting ++ [(rank, r)] }

/-- The record of an event of the current tick: mode, operating time and stamps as they stand (R318). -/
def State.record (s : State) (k : EventKind) (args : List Nat) : Record :=
  { kind := k, args := args, mode := s.sys.mode.code, opMs := s.sys.opNs / 1000000, cycles := s.sys.powerCycles,
    unsync := !s.synced, time := if s.synced then s.toolNs else 0, tick := s.time.tick }

def note (rank : Nat) (k : EventKind) (args : List Nat) (s : State) : State := noteRecord rank (s.record k args) s

/-- A check of a standby's self-test fails (R402): a record, and a cap of its grade for 600 s (R388). The checks are numbered 0 to 2
sweep by stage kind, 3 memory, 4 reference conversion, 5 read-back, 6 island rounds. -/
def selfTestFails (kind index : Nat) (s : State) : State :=
  if s.cfg.pair.paired && s.par.role = .standby then
    note 3 .selfTest [kind, index]
      { s with par.testCap := some s.sys.opNs, par.ownReport.testsFailed := s.par.ownReport.testsFailed + 1,
               par.ownReport.lastFailedTest := BitVec.ofNat 16 (Config.unstated 63 [kind, index]) }
  else s

/-- An event with a sub-tick stamp in ns. -/
def noteAt (rank : Nat) (k : EventKind) (args : List Nat) (sub : Nat) (s : State) : State :=
  let r := s.record k args
  noteRecord rank { r with time := if s.synced then s.toolNs + sub else 0 } s

/-! ### Uplinks -/

def State.uplink (s : State) (u : Nat) : Uplink := s.fld.uplinks.getD u {}

def updUplink (u : Nat) (f : Uplink → Uplink) (s : State) : State := { s with fld.uplinks := s.fld.uplinks.upd u {} f }
/-- Frames received and sent on an uplink (R145). -/
def heardOn (u n : Nat) (s : State) : State := updUplink u (fun x => { x with rx := x.rx + n }) s
def sentOn (u n : Nat) (s : State) : State := updUplink u (fun x => { x with tx := x.tx + n }) s

/-! ### Modes -/

/-- The mode, or in LOCKOUT the mode from which it was entered: LOCKOUT interrupts no pair role (R74, R397). -/
def State.effMode (s : State) : Mode := if s.sys.mode = .lockout then s.sys.lockoutFrom else s.sys.mode

/-- A change of mode with its record (R74); the actions of a change are in Modes.lean. -/
def setMode (rank : Nat) (m : Mode) (cause : Nat) (s : State) : State :=
  if s.sys.mode = m then s
  else
    note rank .modeChange [s.sys.mode.code, m.code, cause]
      { s with sys.prevMode := s.sys.mode, sys.mode := m, sys.since := s.time.tick, sys.cause := cause }

/-- A change of pair role moves the mode, and in LOCKOUT the mode to which that role belongs (R397). -/
def setEffMode (rank : Nat) (m : Mode) (cause : Nat) (s : State) : State :=
  if s.sys.mode = .lockout then { s with sys.lockoutFrom := m } else setMode rank m cause s

/-- The number of an event kind, to which the firmware's event code list gives a code (R319). -/
def EventKind.number (k : EventKind) : Nat := k.ctorIdx

/-- The class of an event kind (R319): the command class of its subject. -/
def EventKind.cls : EventKind → Nat
  | .moduleStart | .eventsLost | .suppressedSummary | .auditWarn | .auditFull | .auditCleared => 0
  | .modeChange | .datagramDropped | .bindingSet | .settingsChange | .domainReset | .strapUndefined | .coldHold => 1
  | .timeState | .timeStep | .halConflict | .halPeriodMismatch | .halMaster => 2
  | .forceSet | .forceChanged | .forceRemoved | .writeDiscarded | .nonFinite | .ownerMove => 3
  | .groupFault | .calibrationBad => 4
  | .pathChange | .portEvent | .nodeParams => 5
  | .numericFault | .inputLost | .inputFrozen | .inputEnd | .fallbackEnter | .afterOpen | .returnClosed | .rampClipped
  | .rampLimitStop | .learning | .promptExcess | .swapped => 6
  | .compliance | .openLoop | .foldback | .dsup | .stageFault => 7
  | .seqLoad | .seqStart | .seqStep | .seqHold | .seqResume | .seqJump | .seqAbort | .seqEnd => 8
  | .overrun | .taskFaulted | .trap | .orphan | .onlineChange | .retentiveUnmatched | .varForce | .retentiveCleared => 9
  | .streamPath | .unreachable | .spillStart | .spillStop | .spillBudget | .acqReset => 10
  | .safetyFault | .resetRefused | .resetAccepted | .safetyStep | .shroudWarn | .shroudState | .islandFirmware => 12
  | .pairCheck | .pairRole | .giveUp | .mirrorIncomplete | .looped | .selfTest => 13
  | .updateStep | .deferral | .confirmed | .rejected | .migrationFailed | .scheduleEnded => 14
  | .retirement | .released | .eccCorrected | .eccUncorrectable | .pageRetired | .keyDamaged | .keySet | .haltCause
  | .nandBlock | .thermal | .fabricCount => 15

/-- The 16-bit code of an event kind (R319): class 0 as the manual's table, 0x1004 for a dropped datagram, otherwise
the class with the firmware's code. -/
def EventKind.code (k : EventKind) : Nat :=
  match k with
  | .moduleStart => 1 | .eventsLost => 2 | .suppressedSummary => 3 | .auditWarn => 4 | .auditFull => 5
  | .auditCleared => 6
  | .datagramDropped => 0x1004
  | k => k.cls * 4096 + (Config.eventCode k.number).toNat

/-- A permanent fault (R457): the module goes to HALT at rank 2 of the tick (R42, R75). -/
def permanentFault (cause : Nat) (s : State) : State :=
  if s.sys.haltDue = 0 then { s with sys.haltDue := cause } else s

/-- A whole-module reset ordered with a cause of R489. -/
def orderReset (cause : Nat) (s : State) : State :=
  if s.sys.resetDue = none then { s with sys.resetDue := some cause } else s

/-! ### Resources, fault counters and retirement (R454 to R456, R491) -/

def resource (kind index : Nat) : Nat := kind * 0x1000000 + index
def resKind (r : Nat) : Nat := r / 0x1000000
def resIndex (r : Nat) : Nat := r % 0x1000000

/-- How many resources of a kind exist (R454). -/
def kindCount : Nat → Nat
  | 1 => 4 | 2 => 12 | 3 => 96 | 4 => 48 | 5 => 16 | 6 => 64 | 7 => 48 | 8 => 1024 | 9 => 32 | 10 => 13
  | 11 => 0x800000 | 12 => 4 | _ => 0

def State.isRetired (s : State) (r : Nat) : Bool := s.sys.retired.any fun x => x.resource == r

/-- The threshold of a counter: events and window in ms; 3 events within 1 s where no command set another (R455). -/
def State.threshold (s : State) (r : Nat) : Nat × Nat := s.cfg.thresholds.getD r (3, 1000)

/-- The stamps of a counter kept within its window (0x0F.04). -/
def State.inWindow (s : State) (r : Nat) : Nat :=
  ((s.sys.counters.getD r {}).stamps.filter fun t => s.sys.opNs - t ≤ (s.threshold r).2 * 1000000).length

/-- A retirement that rank 2 takes from an operating time on (R456). -/
def retireFrom (from' r cause : Nat) (s : State) : State :=
  if s.isRetired r || s.sys.toRetire.any (fun x => x.1 == r) then s
  else { s with sys.toRetire := s.sys.toRetire ++ [(r, cause, from')] }

/-- A retirement found in this tick, due at its rank 2 or, after that rank, at the next tick's (R456). -/
def retireDue (r cause : Nat) (s : State) : State := retireFrom 0 r cause s

/-- One transient event of a resource at the current operating time (R455): the stamp is kept and the threshold is
judged against the oldest of the last n stamps. A retired resource's counter is frozen (R456). -/
def countFaultFrom (from' r : Nat) (s : State) : State :=
  if s.isRetired r then s
  else
    let (n, w) := s.threshold r
    let c := s.sys.counters.getD r {}
    let stamps := (s.sys.opNs :: c.stamps).take n
    let s := { s with sys.counters := s.sys.counters.put r { stamps := stamps, total := c.total + 1 } }
    let reached := stamps.length ≥ n && s.sys.opNs - stamps.getLast?.getD 0 ≤ w * 1000000
    if reached then retireFrom from' r 1 s else s

/-- A transient event whose threshold retires at rank 2 of the tick. -/
def countFault (r : Nat) (s : State) : State := countFaultFrom 0 r s

/-- A transient event of a rank after 2, whose threshold retires at rank 2 of the next tick (R150, R456). -/
def countLateFault (r : Nat) (s : State) : State := countFaultFrom (s.sys.opNs + 1) r s

/-- A successful release: the retirement ends and the kept stamps are discarded (R456). -/
def releaseResource (rank r : Nat) (s : State) : State :=
  let c := s.sys.counters.getD r {}
  note rank .released [r]
    { s with sys.retired := s.sys.retired.filter (fun x => x.resource != r),
             sys.counters := s.sys.counters.put r { c with stamps := [] } }

/-- An entry of the reset history (R489): newest first, at most 16. -/
def enterReset (domain index cause : Nat) (s : State) : State :=
  let e : ResetEntry := { domain, index, cause, tick := s.time.tick, start := s.sys.startCount }
  { s with sys.history := (e :: s.sys.history).take 16 }

/-- A domain reset with its event record (R444, R489). -/
def domainReset (rank domain index cause : Nat) (s : State) : State :=
  note rank .domainReset [domain, index, cause, s.time.tick] (enterReset domain index cause s)

/-- One more of a repeated reset (R445): its stamps within 600 s, and whether the third has come, which clears them. -/
def escalate (limitS : Nat) (now : Nat) (stamps : List Nat) : List Nat × Bool :=
  let l := now :: stamps.filter fun t => now - t ≤ limitS * 1000000000
  if l.length ≥ 3 then ([], true) else (l, false)

/-- A unit that proceeds with an activation in the tick before a_t (R419). -/
def State.proceeding (s : State) : Bool := s.upd.schedule.any fun x => x.proceeding

/-! ### Free values -/

/-- A free value is taken: the model's own count moves on (notes/assumptions/4). -/
def takeFree (s : State) : Nat × State := (s.sys.free, { s with sys.free := s.sys.free + 1 })

end Sys2Proof.Machine
end

