-- ==== Sys2Proof/Machine/Catalog.lean ====
section
/-! DEFINITION. The command tables: class, opcode, role and modes of every mailbox command (R51, R76, R99, R127, R145,
R176, R199, R223, R249, R279, R317, R334, R366, R384, R407, R435, R460). -/

namespace Sys2Proof.Machine

/-- A row of the command tables. `modes` has bit m set where the command is accepted in mode code m; `issued` tells that
the command goes to a serving block and is resolved at rank 8 (R68; notes/assumptions/13); `late` that it reads
state as after the resolution of its tick (R97); `setting` that R488 lists it; `wait` the ticks and
the application latency in µs after which a command is done whose DONE follows a later event (R61, R86), 1 ms for a
command whose row gives ACCEPTED first. -/
structure OpDesc where
  cls     : Byte
  opcode  : Byte
  role    : Role
  modes   : Nat
  issued  : Bool
  late    : Bool
  setting : Bool
  wait    : Option (Nat × Nat)

end Sys2Proof.Machine

namespace Sys2Proof

/-- The tables' rows. -/
def Op.desc : Op → Machine.OpDesc
  | .identify => ⟨0x01, 0x01, .observe, 0xFFF, false, false, false, none⟩
  | .getMode => ⟨0x01, 0x02, .observe, 0xFFF, false, false, false, none⟩
  | .getMailbox => ⟨0x01, 0x03, .observe, 0xFFC, false, false, false, none⟩
  | .getDrops => ⟨0x01, 0x04, .observe, 0xFFC, false, false, false, none⟩
  | .getChallenge => ⟨0x01, 0x10, .service, 0x418, false, false, false, none⟩
  | .enterService => ⟨0x01, 0x11, .service, 0x418, true, false, false, none⟩
  | .leaveService => ⟨0x01, 0x12, .service, 0x004, true, false, false, none⟩
  | .enterConfigure => ⟨0x01, 0x13, .engineer, 0x010, true, false, false, some (1, 0)⟩
  | .goIdle => ⟨0x01, 0x14, .engineer, 0x008, true, false, false, some (1, 0)⟩
  | .restartSupervisor => ⟨0x01, 0x15, .engineer, 0x7F8, false, false, false, none⟩
  | .restartModule => ⟨0x01, 0x16, .engineer, 0x11C, false, false, false, none⟩
  | .setCompat => ⟨0x01, 0x20, .engineer, 0x008, false, false, true, none⟩
  | .setBinding => ⟨0x01, 0x30, .service, 0x004, false, false, true, none⟩
  | .getBindings => ⟨0x01, 0x31, .observe, 0xFFC, false, false, false, none⟩
  | .setMailboxPort => ⟨0x01, 0x32, .service, 0x004, false, false, true, none⟩
  | .getTime => ⟨0x02, 0x01, .observe, 0xFFC, false, false, false, none⟩
  | .getTimeDetail => ⟨0x02, 0x02, .observe, 0xFFC, false, false, false, none⟩
  | .setTick => ⟨0x02, 0x10, .engineer, 0x008, true, false, true, none⟩
  | .setTimeRole => ⟨0x02, 0x11, .engineer, 0x008, true, false, true, none⟩
  | .setGptp => ⟨0x02, 0x12, .engineer, 0x008, true, false, true, none⟩
  | .stepTime => ⟨0x02, 0x20, .engineer, 0x008, true, false, false, none⟩
  | .readPoints => ⟨0x03, 0x01, .observe, 0xFFC, true, true, false, none⟩
  | .readRange => ⟨0x03, 0x02, .observe, 0xFFC, true, true, false, none⟩
  | .takeSnapshot => ⟨0x03, 0x03, .observe, 0xFF8, true, true, false, none⟩
  | .readSnapshot => ⟨0x03, 0x04, .observe, 0xFF8, false, false, false, none⟩
  | .freeSnapshot => ⟨0x03, 0x05, .observe, 0xFF8, false, false, false, none⟩
  | .writePoints => ⟨0x03, 0x10, .operate, 0x478, true, false, false, some (1, 1)⟩
  | .setForce => ⟨0x03, 0x20, .engineer, 0x478, true, false, false, some (1, 1)⟩
  | .removeForce => ⟨0x03, 0x21, .engineer, 0x478, true, false, false, some (1, 1)⟩
  | .listForces => ⟨0x03, 0x22, .observe, 0xFFC, true, false, false, none⟩
  | .setPointConfig => ⟨0x03, 0x30, .engineer, 0x008, true, false, true, none⟩
  | .getPointConfig => ⟨0x03, 0x31, .observe, 0xFFC, false, false, false, none⟩
  | .getWriteFaults => ⟨0x03, 0x40, .observe, 0xFFC, true, false, false, none⟩
  | .getChannelStatus => ⟨0x04, 0x01, .observe, 0xFFC, true, false, false, none⟩
  | .getGroupStatus => ⟨0x04, 0x02, .observe, 0xFFC, true, false, false, none⟩
  | .setChannelConfig => ⟨0x04, 0x10, .engineer, 0x008, true, false, true, none⟩
  | .getChannelConfig => ⟨0x04, 0x11, .observe, 0xFFC, false, false, false, none⟩
  | .setEnable => ⟨0x04, 0x12, .engineer, 0x070, true, false, true, none⟩
  | .readCalibration => ⟨0x04, 0x20, .observe, 0xFFC, false, false, false, none⟩
  | .setUserTrim => ⟨0x04, 0x21, .engineer, 0x078, true, false, true, none⟩
  | .setFaultThreshold => ⟨0x04, 0x30, .engineer, 0x008, true, false, true, none⟩
  | .releaseGroup => ⟨0x04, 0x31, .engineer, 0x078, true, false, false, some (0, 1000)⟩
  | .clearCounters => ⟨0x04, 0x32, .engineer, 0x078, true, false, false, none⟩
  | .getPortStatus => ⟨0x05, 0x01, .observe, 0xFFC, true, false, false, none⟩
  | .getUplinkStatus => ⟨0x05, 0x02, .observe, 0xFFC, true, false, false, none⟩
  | .setPortConfig => ⟨0x05, 0x10, .engineer, 0x008, true, false, true, none⟩
  | .getPortConfig => ⟨0x05, 0x11, .observe, 0xFFC, false, false, false, none⟩
  | .releaseNode => ⟨0x05, 0x12, .operate, 0x070, true, false, false, some (0, 1000)⟩
  | .writeNodeParams => ⟨0x05, 0x20, .engineer, 0x018, true, false, false, some (0, 1000)⟩
  | .readNodeParams => ⟨0x05, 0x21, .observe, 0x078, true, false, false, some (0, 1000)⟩
  | .setPortFaultThreshold => ⟨0x05, 0x30, .engineer, 0x008, true, false, true, none⟩
  | .releasePort => ⟨0x05, 0x31, .engineer, 0x078, true, false, false, some (0, 1000)⟩
  | .clearPortCounters => ⟨0x05, 0x32, .engineer, 0x078, true, false, false, none⟩
  | .setUplink => ⟨0x05, 0x40, .service, 0x004, true, false, true, none⟩
  | .getUplinkConfig => ⟨0x05, 0x41, .observe, 0xFFC, false, false, false, none⟩
  | .releaseUplink => ⟨0x05, 0x42, .engineer, 0x07C, true, false, false, some (0, 1000)⟩
  | .getLoopConfig => ⟨0x06, 0x01, .observe, 0xFFC, false, false, false, none⟩
  | .getLoopStatus => ⟨0x06, 0x02, .observe, 0xFF8, true, true, false, none⟩
  | .getEngineLoad => ⟨0x06, 0x03, .observe, 0xFF8, true, false, false, none⟩
  | .setLoopWiring => ⟨0x06, 0x10, .engineer, 0x008, true, false, true, none⟩
  | .writeBank => ⟨0x06, 0x11, .engineer, 0x478, true, false, true, none⟩
  | .readBank => ⟨0x06, 0x12, .observe, 0xFFC, true, false, false, none⟩
  | .setSwapGroup => ⟨0x06, 0x13, .engineer, 0x078, true, false, true, none⟩
  | .swap => ⟨0x06, 0x14, .engineer, 0x470, true, false, true, some (0, 1000)⟩
  | .cancelSwap => ⟨0x06, 0x15, .engineer, 0x470, true, false, false, none⟩
  | .copyActive => ⟨0x06, 0x16, .engineer, 0x478, true, false, true, none⟩
  | .startLoops => ⟨0x06, 0x20, .operate, 0x070, true, false, false, some (3, 10)⟩
  | .stopLoops => ⟨0x06, 0x21, .operate, 0x470, true, false, false, some (3, 10)⟩
  | .setStartState => ⟨0x06, 0x22, .engineer, 0x078, true, false, true, none⟩
  | .releaseLoop => ⟨0x06, 0x30, .engineer, 0x078, true, false, false, none⟩
  | .setLoopFaultThreshold => ⟨0x06, 0x31, .engineer, 0x008, true, false, true, none⟩
  | .setSupervision => ⟨0x06, 0x40, .engineer, 0x078, true, false, true, none⟩
  | .getSupervision => ⟨0x06, 0x41, .observe, 0xFFC, true, false, false, none⟩
  | .returnClosed => ⟨0x06, 0x42, .operate, 0x070, true, false, false, some (3, 10)⟩
  | .enterFallback => ⟨0x06, 0x43, .operate, 0x470, true, false, false, some (3, 10)⟩
  | .setRampConfig => ⟨0x06, 0x44, .engineer, 0x008, true, false, true, none⟩
  | .getRamp => ⟨0x06, 0x45, .observe, 0xFFC, true, true, false, none⟩
  | .setRampTarget => ⟨0x06, 0x46, .operate, 0x070, true, false, false, some (1, 4)⟩
  | .setRampLimits => ⟨0x06, 0x47, .operate, 0x070, true, false, false, some (1, 4)⟩
  | .setRepConfig => ⟨0x06, 0x48, .engineer, 0x008, true, false, true, none⟩
  | .getRepStatus => ⟨0x06, 0x49, .observe, 0xFFC, true, true, false, none⟩
  | .setRepState => ⟨0x06, 0x4A, .operate, 0x070, true, false, false, some (3, 10)⟩
  | .snapshotRepMemory => ⟨0x06, 0x50, .observe, 0xFF8, true, true, false, none⟩
  | .readRepMemory => ⟨0x06, 0x51, .observe, 0xFF8, false, false, false, none⟩
  | .writeRepMemory => ⟨0x06, 0x52, .engineer, 0x078, false, false, false, none⟩
  | .commitRepMemory => ⟨0x06, 0x53, .engineer, 0x078, true, false, false, some (3, 10)⟩
  | .clearRepMemory => ⟨0x06, 0x54, .engineer, 0x078, true, false, false, some (3, 10)⟩
  | .freeRepSnapshot => ⟨0x06, 0x55, .observe, 0xFF8, false, false, false, none⟩
  | .getClStatus => ⟨0x07, 0x01, .observe, 0xFFC, true, false, false, none⟩
  | .getFaoStatus => ⟨0x07, 0x02, .observe, 0xFFC, true, false, false, none⟩
  | .getDioStatus => ⟨0x07, 0x03, .observe, 0xFFC, true, false, false, none⟩
  | .setClConfig => ⟨0x07, 0x10, .engineer, 0x008, true, false, true, none⟩
  | .getStageConfig => ⟨0x07, 0x11, .observe, 0xFFC, false, false, false, none⟩
  | .setClAlarm => ⟨0x07, 0x12, .operate, 0x470, true, false, false, some (1, 10)⟩
  | .setFaoConfig => ⟨0x07, 0x20, .engineer, 0x008, true, false, true, none⟩
  | .setDioConfig => ⟨0x07, 0x30, .engineer, 0x008, true, false, true, none⟩
  | .runTestLoad => ⟨0x07, 0x40, .engineer, 0x008, true, false, false, some (0, 1000)⟩
  | .releaseStage => ⟨0x07, 0x50, .engineer, 0x078, true, false, false, some (0, 1000)⟩
  | .setStageFaultThreshold => ⟨0x07, 0x51, .engineer, 0x008, true, false, true, none⟩
  | .getSequenceStatus => ⟨0x08, 0x01, .observe, 0xFFC, true, true, false, none⟩
  | .getSequenceConfig => ⟨0x08, 0x02, .observe, 0xFFC, false, false, false, none⟩
  | .loadBegin => ⟨0x08, 0x10, .engineer, 0x478, true, false, false, none⟩
  | .loadData => ⟨0x08, 0x11, .engineer, 0x478, true, false, false, none⟩
  | .loadCommit => ⟨0x08, 0x12, .engineer, 0x478, true, false, false, some (0, 1000)⟩
  | .discardPending => ⟨0x08, 0x13, .engineer, 0x478, true, false, false, none⟩
  | .readImage => ⟨0x08, 0x14, .observe, 0xFF8, false, false, false, none⟩
  | .start => ⟨0x08, 0x20, .operate, 0x070, true, false, false, some (1, 10)⟩
  | .hold => ⟨0x08, 0x21, .operate, 0x470, true, false, false, some (1, 10)⟩
  | .resume => ⟨0x08, 0x22, .operate, 0x470, true, false, false, some (1, 10)⟩
  | .jump => ⟨0x08, 0x23, .operate, 0x470, true, false, false, some (1, 10)⟩
  | .abort => ⟨0x08, 0x24, .operate, 0x470, true, false, false, some (1, 10)⟩
  | .setSequenceBinding => ⟨0x08, 0x30, .engineer, 0x008, true, false, true, none⟩
  | .setSequencePoints => ⟨0x08, 0x31, .engineer, 0x008, true, false, true, none⟩
  | .getTaskStatus => ⟨0x09, 0x01, .observe, 0xFFC, true, false, false, none⟩
  | .getCoreLoad => ⟨0x09, 0x02, .observe, 0xFF8, true, false, false, none⟩
  | .getProgramInfo => ⟨0x09, 0x03, .observe, 0xFFC, false, false, false, none⟩
  | .programLoadBegin => ⟨0x09, 0x10, .engineer, 0x478, false, false, false, none⟩
  | .programLoadData => ⟨0x09, 0x11, .engineer, 0x478, false, false, false, none⟩
  | .programLoadCommit => ⟨0x09, 0x12, .engineer, 0x478, false, false, false, none⟩
  | .discardStaged => ⟨0x09, 0x13, .engineer, 0x478, false, false, false, none⟩
  | .installStaged => ⟨0x09, 0x20, .engineer, 0x008, true, false, true, none⟩
  | .onlineChange => ⟨0x09, 0x21, .engineer, 0x070, true, false, true, some (0, 1000)⟩
  | .stopTask => ⟨0x09, 0x22, .engineer, 0x470, true, false, false, none⟩
  | .startTask => ⟨0x09, 0x23, .operate, 0x470, true, false, false, none⟩
  | .resetCore => ⟨0x09, 0x24, .engineer, 0x470, true, false, false, some (0, 1000)⟩
  | .setVarForce => ⟨0x09, 0x30, .engineer, 0x470, true, false, false, none⟩
  | .removeVarForce => ⟨0x09, 0x31, .engineer, 0x470, true, false, false, none⟩
  | .listVarForces => ⟨0x09, 0x32, .observe, 0xFFC, true, false, false, none⟩
  | .readVariables => ⟨0x09, 0x40, .observe, 0xFF0, true, true, false, none⟩
  | .clearTaskCounters => ⟨0x09, 0x50, .engineer, 0x078, true, false, false, none⟩
  | .setStartKind => ⟨0x09, 0x51, .engineer, 0x008, true, false, true, none⟩
  | .clearRetentive => ⟨0x09, 0x52, .engineer, 0x008, true, false, false, none⟩
  | .getStreamStatus => ⟨0x0A, 0x01, .observe, 0xFFC, true, false, false, none⟩
  | .getTriggerStatus => ⟨0x0A, 0x02, .observe, 0xFFC, true, false, false, none⟩
  | .getSegmentStatus => ⟨0x0A, 0x03, .observe, 0xFFC, true, false, false, none⟩
  | .setStreamConfig => ⟨0x0A, 0x10, .engineer, 0x008, true, false, true, none⟩
  | .setRecordSet => ⟨0x0A, 0x11, .engineer, 0x008, true, false, true, none⟩
  | .setFastSet => ⟨0x0A, 0x12, .engineer, 0x008, true, false, true, none⟩
  | .getStreamConfig => ⟨0x0A, 0x13, .observe, 0xFFC, false, false, false, none⟩
  | .setTrigger => ⟨0x0A, 0x20, .engineer, 0x078, true, false, true, none⟩
  | .getTrigger => ⟨0x0A, 0x21, .observe, 0xFFC, false, false, false, none⟩
  | .enableTriggers => ⟨0x0A, 0x22, .operate, 0x078, true, false, true, none⟩
  | .hostMark => ⟨0x0A, 0x23, .operate, 0x7F8, true, false, false, none⟩
  | .setArm => ⟨0x0A, 0x24, .operate, 0x078, true, false, false, some (2, 0)⟩
  | .setSegmentConfig => ⟨0x0A, 0x30, .engineer, 0x008, true, false, true, none⟩
  | .readSegmentHeader => ⟨0x0A, 0x33, .observe, 0xFF8, true, false, false, none⟩
  | .readSegmentData => ⟨0x0A, 0x34, .observe, 0xFF8, true, false, false, none⟩
  | .clearSegments => ⟨0x0A, 0x35, .engineer, 0x078, true, false, false, none⟩
  | .readSkewTable => ⟨0x0A, 0x40, .observe, 0xFFC, false, false, false, none⟩
  | .getRecorderStatus => ⟨0x0B, 0x01, .observe, 0xFFC, false, false, false, none⟩
  | .openCursor => ⟨0x0B, 0x02, .observe, 0xFFC, false, false, false, none⟩
  | .readWindow => ⟨0x0B, 0x03, .observe, 0xFFC, false, false, false, none⟩
  | .closeCursor => ⟨0x0B, 0x04, .observe, 0xFFC, false, false, false, none⟩
  | .getCodeInfo => ⟨0x0B, 0x10, .observe, 0xFFC, false, false, false, none⟩
  | .setRateLimit => ⟨0x0B, 0x11, .engineer, 0x008, false, false, true, none⟩
  | .getClearChallenge => ⟨0x0B, 0x30, .service, 0x004, false, false, false, none⟩
  | .clearAudit => ⟨0x0B, 0x31, .service, 0x004, false, false, false, none⟩
  | .getSafetyStatus => ⟨0x0C, 0x01, .observe, 0xFFC, true, false, false, none⟩
  | .getInputPair => ⟨0x0C, 0x02, .observe, 0xFFC, true, false, false, none⟩
  | .getSafetyOutput => ⟨0x0C, 0x03, .observe, 0xFFC, true, false, false, none⟩
  | .getAxis => ⟨0x0C, 0x04, .observe, 0xFFC, true, false, false, none⟩
  | .getConfigInfo => ⟨0x0C, 0x05, .observe, 0xFFC, false, false, false, none⟩
  | .readConfig => ⟨0x0C, 0x06, .observe, 0xFFC, false, false, false, none⟩
  | .getShroudConnection => ⟨0x0C, 0x07, .observe, 0xFFC, true, false, false, none⟩
  | .openSession => ⟨0x0C, 0x10, .safety, 0x004, true, false, false, none⟩
  | .closeSession => ⟨0x0C, 0x11, .safety, 0x004, true, false, false, none⟩
  | .configBegin => ⟨0x0C, 0x12, .safety, 0x004, true, false, false, none⟩
  | .configData => ⟨0x0C, 0x13, .safety, 0x004, true, false, false, none⟩
  | .configCheck => ⟨0x0C, 0x14, .safety, 0x004, true, false, false, some (0, 1000)⟩
  | .confirm => ⟨0x0C, 0x15, .safety, 0x004, true, false, false, some (0, 1000)⟩
  | .setPassword => ⟨0x0C, 0x16, .safety, 0x004, true, false, false, none⟩
  | .safetyDiscardPending => ⟨0x0C, 0x17, .safety, 0x004, true, false, false, none⟩
  | .getPairStatus => ⟨0x0D, 0x01, .observe, 0xFFC, false, false, false, none⟩
  | .getHealthReport => ⟨0x0D, 0x02, .observe, 0xFFC, false, false, false, none⟩
  | .getWitnesses => ⟨0x0D, 0x03, .observe, 0xFFC, false, false, false, none⟩
  | .setPairConfig => ⟨0x0D, 0x10, .engineer, 0x008, true, false, true, none⟩
  | .getPairConfig => ⟨0x0D, 0x11, .observe, 0xFFC, false, false, false, none⟩
  | .handover => ⟨0x0D, 0x20, .engineer, 0x070, true, false, false, some (0, 1000)⟩
  | .resync => ⟨0x0D, 0x21, .engineer, 0x180, true, false, false, none⟩
  | .getUpdateStatus => ⟨0x0E, 0x01, .observe, 0xFFC, false, false, false, none⟩
  | .stageBegin => ⟨0x0E, 0x10, .service, 0x004, false, false, false, none⟩
  | .stageData => ⟨0x0E, 0x11, .service, 0x004, false, false, false, none⟩
  | .stageVerify => ⟨0x0E, 0x12, .service, 0x004, false, false, false, none⟩
  | .stageDiscard => ⟨0x0E, 0x13, .service, 0x004, false, false, false, none⟩
  | .scheduleActivation => ⟨0x0E, 0x20, .service, 0x51C, false, false, false, none⟩
  | .groupReady => ⟨0x0E, 0x21, .service, 0x51C, false, false, false, none⟩
  | .cancelActivation => ⟨0x0E, 0x22, .service, 0x51C, false, false, false, none⟩
  | .updateConfirm => ⟨0x0E, 0x30, .engineer, 0x170, false, false, false, none⟩
  | .reject => ⟨0x0E, 0x31, .engineer, 0x11C, false, false, false, none⟩
  | .getHealth => ⟨0x0F, 0x01, .observe, 0xFFC, false, false, false, none⟩
  | .getResetHistory => ⟨0x0F, 0x02, .observe, 0xFFC, false, false, false, none⟩
  | .listRetired => ⟨0x0F, 0x03, .observe, 0xFFC, false, false, false, none⟩
  | .getFaultCounter => ⟨0x0F, 0x04, .observe, 0xFFC, false, false, false, none⟩
  | .getEccStatus => ⟨0x0F, 0x10, .observe, 0xFFC, false, false, false, none⟩
  | .listRetiredPages => ⟨0x0F, 0x11, .observe, 0xFFC, false, false, false, none⟩
  | .resetDomain => ⟨0x0F, 0x20, .engineer, 0x078, true, false, false, some (0, 1000)⟩
  | .clearFaultCounter => ⟨0x0F, 0x21, .engineer, 0x078, true, false, false, none⟩
  | .getFuses => ⟨0x0F, 0x30, .observe, 0xFFC, false, false, false, none⟩
  | .getStraps => ⟨0x0F, 0x31, .observe, 0xFFC, false, false, false, none⟩
  | .setCommissioningKey => ⟨0x0F, 0x40, .service, 0x004, false, false, false, none⟩
  | .setDebugLock => ⟨0x0F, 0x41, .service, 0x004, false, false, false, none⟩

end Sys2Proof

namespace Sys2Proof.Machine

/-- Whether a mode code is among a row's modes. -/
def OpDesc.inMode (d : OpDesc) (m : Mode) : Bool := d.modes.testBit m.code

end Sys2Proof.Machine
end

