-- ==== Sys2Proof/Machine/Operands.lean ====
section
/-! DEFINITION. The operand forms of mailbox commands: fields of a request payload by offset (R8, R57), the check of
arguments in the order of R64, and what a handler answers. -/

namespace Sys2Proof.Machine

/-- The field of `n` bytes at offset `o` of a request. -/
def Issued.n (q : Issued) (o n : Nat) : Nat := rd q.payload o n
def Issued.u8 (q : Issued) (o : Nat) : Nat := q.n o 1
def Issued.u16 (q : Issued) (o : Nat) : Nat := q.n o 2
def Issued.u32 (q : Issued) (o : Nat) : Nat := q.n o 4
def Issued.u64 (q : Issued) (o : Nat) : Nat := q.n o 8
/-- A binary32 field. -/
def Issued.f (q : Issued) (o : Nat) : F32 := BitVec.ofNat 32 (q.u32 o)
def Issued.bytes (q : Issued) (o n : Nat) : List Byte := (q.payload.drop o).take n
def Issued.len (q : Issued) : Nat := q.payload.length
/-- `k` fields of `n` bytes from offset `o`. -/
def Issued.list (q : Issued) (o n k : Nat) : List Nat := (List.range k).map fun i => q.n (o + i * n) n
def Issued.fs (q : Issued) (o k : Nat) : List F32 := (q.list o 4 k).map (BitVec.ofNat 32)

/-- A failed check: the status and the payload of the answer; none where the command goes on (R64). -/
abbrev Bad := Option (Status × List Byte)

/-- The first check of a list that fails. -/
def firstBad : List (Bool × Status) → Bad
  | [] => none
  | (true, st) :: _ => some (st, [])
  | (false, _) :: r => firstBad r

/-- The first failure of two checks. -/
def Bad.or (a b : Bad) : Bad := match a with | some x => some x | none => b

/-- A payload whose length is not what the table gives is inconsistent (R63). -/
def lenBad (q : Issued) (n : Nat) : Bool × Status := (q.len != n, .badArg)

/-- The failure of the first element that fails a test, with what the answer then carries. -/
def firstFailing {α : Type} (l : List α) (p : α → Bool) (st : Status) (say : Nat → List Byte) : Bad :=
  (l.findIdx? p).map fun i => (st, say i)

/-- The answer of a handler. `later` holds where the request stays open until a later tick answers it; `post` is what
follows once the answer has been sent (R76). -/
structure Reply where
  st      : State
  status  : Status := .done
  payload : List Byte := []
  later   : Bool := false
  post    : State → State := fun s => s

def done (s : State) : Reply := { st := s }
def say (p : List Byte) (s : State) : Reply := { st := s, payload := p }
/-- A command carried on after this answer (R61). -/
def acceptedReply (s : State) : Reply := { st := s, status := .accepted }
/-- A command answered at a coming tick (R61). -/
def laterReply (s : State) : Reply := { st := s, later := true }

/-- A version-2 request identified by mailbox and tag, to be answered later. -/
def Issued.ref (q : Issued) : Nat × U16 := (q.mailbox, q.tag)

end Sys2Proof.Machine
end

