-- ==== Sys2Proof/Machine/Mailbox.lean ====
section
/-! DEFINITION. Mailboxes (chapter 3): status word, responses, stored answers, completion of open requests, bindings.
The path of a request from datagram to handler is in Receive.lean. -/

namespace Sys2Proof.Machine

/-! ### Bindings (R65, R66) -/

/-- The factory bindings. -/
def factoryBinding : Nat → Binding
  | 0 => { role := .service } | 1 => { role := .service } | 2 => { role := .safety } | 3 => { role := .observe }
  | 4 => { role := .engineer } | _ => {}

def State.binding (s : State) (m : Nat) : Binding := s.mbx.bindings.getD m (factoryBinding m)
def State.box (s : State) (m : Nat) : Mailbox := s.mbx.boxes.getD m {}

def updBox (m : Nat) (f : Mailbox → Mailbox) (s : State) : State := { s with mbx.boxes := s.mbx.boxes.upd m {} f }

/-- Whether a mailbox role includes a command's role (R65). -/
def Role.includes : Role → Role → Bool
  | .service, .unbound => false
  | .service, _ => true
  | .observe, r => r = .observe
  | .operate, r => r = .observe || r = .operate
  | .engineer, r => r = .observe || r = .operate || r = .engineer
  | .safety, r => r = .observe || r = .safety
  | .unbound, _ => false

/-! ### Status word and responses (R53, R58, R485) -/

def BoxState.code : BoxState → Nat
  | .empty => 0 | .opened => 1 | .accepted => 2 | .answered => 3 | .notifying => 4

/-- The mailbox status word (R53). -/
def State.statusWord (s : State) (m : Nat) : Nat :=
  let b := s.box m
  let last := if b.state = .accepted then 1 else b.lastStatus.toNat
  last * 2 ^ 24 + b.state.code * 2 ^ 20 + (s.binding m).role.code * 2 ^ 17 + (if m < 4 then 2 ^ 16 else 0) +
    sat8 b.dropped * 2 ^ 8 + sat8 b.restarts

/-- The bytes of a response in the layout of its request (R58, R485, R486). -/
def responseBytes (version : Byte) (m : Nat) (tag : U16) (cls opcode : Byte) (status : Status) (payload : List Byte)
    (tick : Nat) (s : State) : List Byte :=
  let head := fun (magic : Nat) => le 2 magic ++ [version] ++ le 1 m ++ le 2 tag.toNat ++ [cls, opcode] ++
    le 1 status.code ++ le 1 s.sys.mode.code ++ le 2 payload.length
  if version = 1 then
    let h := head 0x7024
    h ++ le 4 (crc32c (h ++ payload)) ++ payload
  else
    let h := head 0x9648 ++ le 4 (s.statusWord m) ++ le 8 tick ++ le 4 s.sys.startCount
    h ++ le 4 (crc32c (h ++ payload)) ++ payload

def Path.uplink : Path → Option Nat
  | .u0 => some 0 | .u1 => some 1 | .u2 => some 2 | .u3 => some 3 | .service => none

/-- Addresses of the uplinks before any 0x05.40 (R143). -/
def defaultUplink : Nat → UplinkCfg
  | 0 => { addr := 0xC0A8300A, mask := 0xFFFFFF00 }
  | 1 => { addr := 0xC0A8310A, mask := 0xFFFFFF00 }
  | _ => {}

def State.uplinkNow (s : State) (u : Nat) : UplinkCfg := s.fld.inUse.getD u (defaultUplink u)

/-- The IPv4 fragments of a UDP datagram: the UDP payload cut so that each fragment carries at most `room` bytes of the IP
payload, whose first 8 B are the UDP header; `offset` counts 8 B. -/
def fragmentsOf (path : Path) (addr : U32) (port : U16) (room : Nat) : Nat → Nat → List Byte → List Output
  | 0, _, _ => []
  | fuel + 1, offset, bytes =>
    let take := if offset = 0 then room - 8 else room
    if bytes.length ≤ take then [.responseFragment path addr port offset false bytes]
    else
      .responseFragment path addr port offset true (bytes.take take) ::
        fragmentsOf path addr port room fuel (offset + room / 8) (bytes.drop take)

/-- A response as it leaves on a path: whole, or in fragments where the datagram exceeds the IPv4 MTU of the uplink in use
(R54, R143). The IPv4 header has 20 B and the UDP header 8 B. -/
def State.sends (s : State) (path : Path) (addr : U32) (port : U16) (bytes : List Byte) : List Output :=
  match Path.uplink path with
  | none => [.response path addr port bytes]
  | some u =>
    let mtu := (s.uplinkNow u).mtu
    if bytes.length + 28 ≤ mtu then [.response path addr port bytes]
    else fragmentsOf path addr port ((mtu - 20) / 8 * 8) (bytes.length + 1) 0 bytes

/-- Counts of the frames of mailbox datagrams on an uplink (0x05.02). -/
def countFrames (path : Path) (k : Nat) (t : Tab Nat) : Tab Nat :=
  match Path.uplink path with
  | some u => t.upd u 0 (· + k)
  | none => t

/-- A response is sent. -/
def sendBytes (path : Path) (addr : U32) (port : U16) (bytes : List Byte) (s : State) : State :=
  let l := s.sends path addr port bytes
  { s with out := s.out ++ l, mbx.txFrames := countFrames path l.length s.mbx.txFrames }

/-- An uplink that is retired sends nothing and brings nothing (R144). -/
def State.pathRetired (s : State) (p : Path) : Bool :=
  match Path.uplink p with
  | some u => s.isRetired (resource 12 u)
  | none => false

/-- The answer a mailbox holds is sent to an address, in a layout; a retired uplink sends nothing (R144). -/
def sendStored (version : Byte) (m : Nat) (path : Path) (addr : U32) (port : U16) (s : State) : State :=
  let b := s.box m
  if s.pathRetired path then s
  else sendBytes path addr port (responseBytes version m b.tag b.req.cls b.req.opcode b.status b.payload b.tick s) s

/-- The answer a mailbox holds is sent where its request and its repeats came from (R54). -/
def sendAll (m : Nat) (s : State) : State :=
  let b := s.box m
  forAll ((b.path, b.addr, b.port) :: b.also) (fun x s => sendStored b.version m x.1 x.2.1 x.2.2 s) s

/-- The answer a mailbox holds is sent, while a tick is being resolved only after its boundary (R58, R72). -/
def sendAnswer (m : Nat) (s : State) : State :=
  if s.mbx.holding then { s with mbx.unsent := s.mbx.unsent ++ [m] } else sendAll m s

/-- The answers of a tick go out. -/
def sendHeld (s : State) : State :=
  let l := s.mbx.unsent
  let s := { s with mbx.holding := false, mbx.unsent := [] }
  if s.sys.supUp then forAll l sendAll s else s

/-- The answer of a mailbox that waits for the boundary goes out at once, before the change that its command makes (R76). -/
def sendBefore (m : Nat) (s : State) : State :=
  if s.mbx.unsent.contains m && s.sys.supUp then sendAll m { s with mbx.unsent := s.mbx.unsent.filter (· != m) } else s

/-- A final status is stored in the response buffer (R52, R63). -/
def storeAnswer (m : Nat) (st : Status) (payload : List Byte) (s : State) : State :=
  updBox m (fun b => { b with state := .answered, status := st, payload, lastStatus := BitVec.ofNat 8 st.code }) s

/-- The stage of a command that its block has confirmed with a status while the supervisor is being reset (R69): it took effect, in
whole or up to a tick, or it failed and had none. -/
def stageOf : Status → Nat
  | .done | .superseded | .timeout => 2
  | _ => 0

/-- The open request of a mailbox gets its final status (R61): an OPEN request is answered; an ACCEPTED one is stored
and, unless NO_COMPLETION was set, a completion notice goes out. While the supervisor is being reset it only learns on its restart
what the serving block confirmed (R69). -/
def completeRequest (m : Nat) (st : Status) (payload : List Byte) (s : State) : State :=
  if !s.sys.supUp then updBox m (fun b => { b with stage := stageOf st }) s
  else match (s.box m).state with
  | .opened => sendAnswer m (storeAnswer m st payload s)
  | .accepted =>
    let quiet := (s.box m).noNotice
    let s := storeAnswer m st payload s
    if quiet then s
    else sendAnswer m (updBox m (fun b => { b with state := .notifying, notices := 1 }) s)
  | _ => s

/-- The request of a tag gets its final status, if the mailbox still holds it open. -/
def completeTagged (r : Nat × U16) (st : Status) (payload : List Byte) (s : State) : State :=
  if (s.box r.1).tag = r.2 then completeRequest r.1 st payload s else s

/-! ### Answers that wait for the standby (R394) -/

/-- Commands whose effect at an active unit goes to its standby as a BULK item (R394); forces and owners travel with
the mirror, program sets as items of their own, and a swap, whose tick lies two after its command at the earliest, is confirmed
before it is due. -/
def bulkOp (op : Op) : Bool :=
  (op.desc.setting && op != .swap && op != .onlineChange && op != .installStaged) || op = .setRepState || op = .setVarForce ||
    op = .removeVarForce

/-- An active unit has a standby that follows its mirror. -/
def State.followed (s : State) : Bool :=
  s.cfg.pair.paired && s.par.role = .active && s.par.stayUp && s.par.peerRole = 3 && !s.par.hbLost && !s.par.split

/-- The ticks by which the confirmation of a standby delays the DONE of a command. -/
def State.confirmTicks (s : State) (op : Op) : Nat := if s.followed && bulkOp op then 2 else 0

/-- DONE of a command whose effect goes to the standby as a BULK item (R394): at an active unit that is followed it waits for the
confirmation. The command has taken effect (R69). -/
def doneTagged (r : Nat × U16) (payload : List Byte) (s : State) : State :=
  if s.followed && s.sys.supUp then
    updBox r.1 (fun b => if b.tag = r.2 then { b with stage := 2 } else b)
      { s with mbx.unconfirmed := s.mbx.unconfirmed ++ [{ mailbox := r.1, tag := r.2, payload, tick := s.time.tick }] }
  else completeTagged r .done payload s

/-- The DONEs that wait for what `p` holds of go out. -/
def confirmItems (p : Unconfirmed → Bool) (s : State) : State :=
  forAll (s.mbx.unconfirmed.filter p) (fun x s => completeTagged (x.mailbox, x.tag) .done x.payload s)
    { s with mbx.unconfirmed := s.mbx.unconfirmed.filter (!p ·) }

/-- DONEs wait for no standby where none follows. -/
def confirmAlone (s : State) : State := if s.followed then s else confirmItems (fun _ => true) s

/-- A mailbox whose request is open (R52). -/
def Mailbox.isOpen (b : Mailbox) : Bool := b.state = .opened || b.state = .accepted

/-- The mailboxes that hold an open request of one of some commands whose payload meets `p`. -/
def State.openOn (s : State) (ops : List Op) (p : List Byte → Bool) : List Nat :=
  (s.mbx.boxes.cells.filter fun x =>
    x.2.isOpen && (match x.2.req.op with | some o => ops.contains o | none => false) && p x.2.req.payload).map (·.1)

/-- The works without a request of some commands whose payload meets `p` are over. -/
def dropWorks (p : Op → List Byte → Bool) (s : State) : State :=
  { s with mbx.orphans := s.mbx.orphans.filter fun x => !p x.op x.box.req.payload }

/-- The open requests of some commands whose payload meets `p` get their final status. -/
def completeOn (ops : List Op) (p : List Byte → Bool) (st : Status) (payload : List Byte) (s : State) : State :=
  dropWorks (fun o b => ops.contains o && p b) (forAll (s.openOn ops p) (fun m s => completeRequest m st payload s) s)

/-- Long-running commands whose work a block other than the supervisor does, and which a reset of the supervisor does not
cut (R69). -/
def outlives (op : Op) : Bool :=
  [Op.releaseNode, .releasePort, .releaseGroup, .runTestLoad, .releaseStage, .configCheck].contains op

/-- The work of a request that the supervisor's reset ends RESTARTED goes on in its block (R69). -/
def keepWork (m : Nat) (s : State) : State :=
  let b := s.box m
  match b.req.op with
  | some op =>
    if b.state = .accepted && outlives op && b.stage = 1 then
      { s with mbx.orphans := s.mbx.orphans.filter (·.mailbox != m) ++ [{ mailbox := m, op, box := b }] }
    else s
  | none => s

/-- An open request is answered RESTARTED with its stage and tick of issue (R69). DEDUCED (notes/assumptions/16): RESTARTED is
the final status of a long-running request, so that it is repeated as a completion notice and its mailbox is NOTIFYING
(R61). -/
def answerRestarted (m : Nat) (s : State) : State :=
  let b := s.box m
  let s := updBox m (fun b => { b with restarts := b.restarts + 1 }) s
  let s := storeAnswer m .restarted (le 1 b.stage ++ le 8 (if b.stage = 0 then 0 else b.issued)) s
  let s := if b.state = .accepted && !b.noNotice then updBox m (fun b => { b with state := .notifying, notices := 1 }) s
    else s
  sendAnswer m s

/-- The domain that serves an open request is reset (R70): a command it had not confirmed has no effect, so that the
supervisor, which sees every confirmation, answers stage 0; otherwise stage 2. -/
def restartRequest (m : Nat) (s : State) : State :=
  let s := { s with mbx.issued := s.mbx.issued.filter fun q => q.mailbox != m }
  if !s.sys.supUp then updBox m (fun b => { b with stage := if b.stage = 1 then 0 else b.stage }) s
  else answerRestarted m (updBox m (fun b => { b with stage := if b.stage = 1 then 0 else b.stage }) s)

/-- The open requests that a domain serves end RESTARTED when it is reset (R70). -/
def restartOn (ops : List Op) (p : List Byte → Bool) (s : State) : State :=
  dropWorks (fun o b => ops.contains o && p b) (forAll (s.openOn ops p) restartRequest s)

/-- The same of the open requests whose command meets `p`. -/
def restartWhere (p : Op → Bool) (s : State) : State :=
  let l := s.mbx.boxes.cells.filter fun x => x.2.isOpen && (match x.2.req.op with | some o => p o | none => false)
  dropWorks (fun o _ => p o) (forAll (l.map (·.1)) restartRequest s)

/-- Mailboxes reached over a path (R54, R55). -/
def Path.serves : Path → Nat → Bool
  | .service, m => m < 4
  | .u0, m => 4 ≤ m && m < 64
  | .u1, m => 4 ≤ m && m < 64
  | _, _ => false

end Sys2Proof.Machine
end

