-- ==== Sys2Proof/Machine/Points.lean ====
section
/-! DEFINITION. The point table (chapter 4): ranges and owners, reads and writes of entries, forces, snapshots and the
commands of class 0x03. -/

namespace Sys2Proof.Machine

/-! ### Ranges, owners and formats (R79, R80, R492) -/

/-- The owner and format of a point no 0x03.30 has set: the fixed writer of its range, otherwise unassigned
(notes/assumptions/1). -/
def defaultPoint (p : Nat) : PointCfg :=
  if p < 96 then { owner := 0xC0 }
  else if p < 144 then { owner := 0xC1 }
  else if p < 208 then {}
  else if p < 272 then { format := 3 }
  else if p < 320 then { owner := 0xC3, format := 2 }
  else if p < 1024 then {}
  else if p < 7168 then
    if (p - 1024) % 128 < 64 then { owner := BitVec.ofNat 8 (0x80 + (p - 1024) / 128) } else {}
  else {}

/-- Owners and formats that checks use: as configured within CONFIGURE, as in force elsewhere (R83). -/
def State.pointCfg (s : State) (p : Nat) : PointCfg :=
  (if s.sys.mode = .configure then s.cfg.points else s.pts.inForce).getD p (defaultPoint p)

/-- The owner and format in force. -/
def State.ownerNow (s : State) (p : Nat) : PointCfg := s.pts.inForce.getD p (defaultPoint p)

/-- The owner as configured (R83). -/
def State.ownerSet (s : State) (p : Nat) : PointCfg := s.cfg.points.getD p (defaultPoint p)

def isTaskOwner (o : Byte) : Bool := 0x10 ≤ o.toNat && o.toNat ≤ 0x2F
/-- The writers of an output or computed point (R80). -/
def isWriter (o : Byte) : Bool := o = 1 || o = 2 || isTaskOwner o || o = 0x40

/-- Whether a value may stand in a point of a format (R78). -/
def valueFits (format : Byte) (v : U32) : Bool :=
  if format = 0 then fFinite v else if format = 3 then v.toNat ≤ 1 else true

/-- Whether 0x03.30 accepts an owner and format for a point (R80), the mode and direction of its channel included
(R492). -/
def State.ownerAllowed (s : State) (p : Nat) (owner format : Byte) : Bool :=
  if p < 96 then owner = 0xC0 && format = 0
  else if p < 144 then owner = 0xC1 && format = 0
  else if p < 192 then format = 0 && (owner = 0 || (isWriter owner && (s.cfg.cl.getD (p - 144) {}).mode == 0))
  else if p < 208 then format = 0 && (owner = 0 || isWriter owner)
  else if p < 272 then
    let out := (s.cfg.dio.getD (p - 208) {}).output
    format = 3 && (owner = 0 || (owner = 0xC2 && !out) || (isWriter owner && out))
  else if p < 320 then owner = 0xC3 && format = 2
  else if p < 1024 then format.toNat < 4 && (owner = 0 || isWriter owner) && (owner != 1 || format = 0)
  else if p < 7168 then
    if (p - 1024) % 128 < 64 then owner.toNat = 0x80 + (p - 1024) / 128 && format.toNat < 4
    else format.toNat < 4 && (owner = 0 || isWriter owner) && (owner != 1 || format = 0)
  else format.toNat < 4 && p < 8192 && (owner = 0 || isTaskOwner owner || owner = 0x40)

/-- The native point a number names: with compatibility bit 3, 9,000 + c names point c for c from 0 to 23 (R487). -/
def State.nativePoint (s : State) (n : Nat) : Option Nat :=
  if n ≤ 8191 then some n
  else if s.sys.compat.getLsbD 3 && 9000 ≤ n && n ≤ 9023 then some (n - 9000)
  else none

/-- The source or destination resource of a point's range is retired (R80, R81). -/
def State.placeRetired (s : State) (p : Nat) : Bool :=
  if p < 96 then
    s.isRetired (resource 3 p) || s.isRetired (resource 2 (p / 8)) || s.isRetired (resource 1 (p / 24))
  else if p < 144 then s.isRetired (resource 4 (p - 96))
  else if p < 192 then s.isRetired (resource 4 (p - 144))
  else if p < 208 then s.isRetired (resource 5 (p - 192))
  else if p < 272 then s.isRetired (resource 6 (p - 208))
  else if p < 1024 then false
  else if p < 7168 then s.isRetired (resource 7 ((p - 1024) / 128))
  else false

/-- The output points of a loop. -/
def State.loopPoints (s : State) (l : Nat) : List Nat :=
  let w := (s.cfg.loops.getD l {}).wiring
  w.outPoint.take w.nu

/-- All points with a given owner in force. -/
def State.pointsOf (s : State) (owner : Byte) : List Nat :=
  (List.range 8192).filter fun p => (s.ownerNow p).owner == owner

/-- The loop or program task that is the source of a point is retired (R81, R169, R266). -/
def State.writerRetired (s : State) (p : Nat) : Bool :=
  let o := (s.ownerNow p).owner
  (isTaskOwner o && s.isRetired (resource 9 (o.toNat - 0x10))) ||
    (o = 1 && s.sys.retired.any fun x => resKind x.resource == 8 && (s.loopPoints (resIndex x.resource)).contains p)

/-- Whether the source or destination resource of a point is retired (R81, R94). -/
def State.pointRetired (s : State) (p : Nat) : Bool := s.placeRetired p || s.writerRetired p

/-- The points of a resource, which carry RETIRED while it is retired (R94). -/
def State.resourcePoints (s : State) (r : Nat) : List Nat :=
  let i := resIndex r
  match resKind r with
  | 1 => (List.range 24).map (· + 24 * i)
  | 2 => (List.range 8).map (· + 8 * i)
  | 3 => [i]
  | 4 => [96 + i, 144 + i]
  | 5 => [192 + i]
  | 6 => [208 + i]
  | 7 => (List.range 128).map (· + (1024 + 128 * i))
  | 8 => s.loopPoints i
  | 9 => s.pointsOf (BitVec.ofNat 8 (0x10 + i))
  | _ => []

/-! ### Entries (R77, R81) -/

/-- The entry as every reader sees it (R88). -/
def State.entry (s : State) (p : Nat) : Entry := s.pts.entries.getD p {}

def State.value (s : State) (p : Nat) : U32 := (s.entry p).value

/-- A change of a point's own entry: of the underlying entry while a force is in force (R88). -/
def updPoint (p : Nat) (f : Entry → Entry) (s : State) : State :=
  if s.pts.forces.any (fun x => x.point == p) then
    { s with pts.forces := s.pts.forces.map fun x => if x.point = p then { x with under := f x.under } else x }
  else { s with pts.entries := s.pts.entries.upd p {} f }

/-- The entry without the force. -/
def State.ownEntry (s : State) (p : Nat) : Entry :=
  match s.pts.forces.find? (fun x => x.point == p) with
  | some x => x.under
  | none => s.entry p

/-- The writer's own fault counter: a program task or a field port (R78). -/
def writerResource (owner : Byte) : Option Nat :=
  if isTaskOwner owner then some (resource 9 (owner.toNat - 0x10))
  else if 0x80 ≤ owner.toNat && owner.toNat ≤ 0xAF then some (resource 7 (owner.toNat - 0x80))
  else none

/-- What a write carries beyond its value. -/
structure Stamp where
  sub      : U16 := 0
  ovr     : Bool := false
  settling : Bool := false
  limited  : Bool := false
  valid    : Bool := true

/-- A write by the owner of a point (R78, R86): a finite value is stored with VALID set and STALE and HELD clear; a
non-finite one, which has arrived (R81), leaves the value, clears VALID and STALE, is counted for the writer's block and
recorded. RETIRED stays while the resource is retired, and VALID is clear with it. -/
def ownerWrite (rank : Nat) (p : Nat) (v : U32) (k : Stamp) (s : State) : State :=
  let cfg := s.ownerNow p
  if cfg.format = 0 && !fFinite v then
    let s := updPoint p (fun e => { e with valid := false, stale := false }) s
    let s := { s with pts.nonFinite := s.pts.nonFinite.upd cfg.owner.toNat 0 (· + 1) }
    let s := note rank .nonFinite [p, cfg.owner.toNat] s
    match writerResource cfg.owner with
    | some r => countFault r s
    | none => s
  else
    let ret := s.pointRetired p
    let v := if cfg.format = 3 then v &&& 1 else v
    updPoint p (fun e =>
      { e with value := v, valid := k.valid && !ret, stale := false, held := false, ovr := k.ovr,
               settling := k.settling, limited := k.limited, retired := ret, sub := k.sub }) s

/-- A write of a block that is discarded, counted and recorded (R84). -/
def discardWrite (rank : Nat) (owner : Byte) (p : Nat) (s : State) : State :=
  note rank .writeDiscarded [p, owner.toNat]
    { s with pts.discarded := s.pts.discarded.upd owner.toNat 0 (· + 1) }

/-- A write by a block to a point it may not own at run time (R84): discarded, counted and recorded when it does not. -/
def blockWrite (rank : Nat) (owner : Byte) (p : Nat) (v : U32) (k : Stamp) (s : State) : State :=
  if (s.ownerNow p).owner = owner then ownerWrite rank p v k s else discardWrite rank owner p s

/-- HELD is set on a point whose owner is paused (R93). -/
def holdPoint (p : Nat) (s : State) : State := updPoint p (fun e => { e with held := true }) s

/-- STALE is set on a point whose input did not arrive (R81). -/
def stalePoint (p : Nat) (s : State) : State := updPoint p (fun e => { e with stale := true }) s

/-- RETIRED is set on the points of a resource for the resolution of the tick (R94); VALID is clear with it. -/
def retirePoints (r : Nat) (s : State) : State :=
  forAll (s.resourcePoints r) (updPoint · fun e => { e with retired := true, valid := false }) s

/-- A forced entry shows RETIRED as its resource dictates (R88). -/
def showForced (s : State) : State :=
  forAll s.pts.forces (fun f s =>
    { s with pts.entries := s.pts.entries.upd f.point {} fun e => { e with retired := s.pointRetired f.point } }) s

/-- The entry that ranks 5 and above of a tick read: without what a prompt loop, rank 6, has written in the tick (R86). -/
def State.entryBefore (s : State) (p : Nat) : Entry :=
  if s.pts.forces.any (fun x => x.point == p) then s.entry p else s.pts.before.getD p (s.entry p)

/-! ### Flags and bytes -/

/-- The status byte of an entry (R81). -/
def Entry.status (e : Entry) : Byte :=
  let b := fun (x : Bool) (n : Nat) => if x then n else 0
  BitVec.ofNat 8 (b e.valid 128 + b e.stale 64 + b e.forced 32 + b e.ovr 16 + b e.settling 8 + b e.held 4 +
    b e.limited 2 + b e.retired 1)

/-- The flags of a status byte as an entry carries them. -/
def Entry.withStatus (e : Entry) (b : Byte) : Entry :=
  { e with valid := b.getLsbD 7, stale := b.getLsbD 6, forced := b.getLsbD 5, ovr := b.getLsbD 4,
           settling := b.getLsbD 3, held := b.getLsbD 2, limited := b.getLsbD 1, retired := b.getLsbD 0 }

/-- The 8 bytes of an entry (R77): value, status, owner, sub_tick. -/
def entryBytes (owner : Byte) (e : Entry) : List Byte :=
  leF e.value ++ [e.status, owner] ++ le 2 e.sub.toNat

/-- DEDUCED (notes/assumptions/48): the owner byte that a read shows is the one configured, in CONFIGURE that of the latest
0x03.30 (R83). -/
def State.entryBytes (s : State) (p : Nat) : List Byte := Machine.entryBytes (s.pointCfg p).owner (s.entry p)

/-! ### Forces (R88 to R92) -/

/-- Forces in ascending point order, one to a point. -/
def putForce (f : Force) : List Force → List Force
  | [] => [f]
  | x :: r => if f.point < x.point then f :: x :: r else if f.point = x.point then f :: r else x :: putForce f r

/-- A force is set or changed (R88, R90), with its audit record. DESIGN CHOICE (notes/assumptions/48): STALE, OVER, SETTLING,
HELD and LIMITED, of which R88 says nothing, stand on the forced entry as they stood when the force was set, and so does its
sub-tick time. -/
def setForce (p : Nat) (v : U32) (mailbox : Nat) (s : State) : State :=
  let e := s.entry p
  let under := if e.forced then (s.ownEntry p) else e
  let kind := if e.forced then EventKind.forceChanged else .forceSet
  let shown : Entry := { e with value := v, valid := true, forced := true, retired := s.pointRetired p }
  note 8 kind [p, v.toNat, under.value.toNat, mailbox]
    { s with pts.entries := s.pts.entries.put p shown,
             pts.forces := putForce { point := p, value := v, under, setTick := s.time.tick, mailbox } s.pts.forces }

/-- A force is removed: the entry takes the underlying value and status (R92), with an audit record. -/
def dropForce (p : Nat) (mailbox : Nat) (s : State) : State :=
  match s.pts.forces.find? (fun x => x.point == p) with
  | none => s
  | some x =>
    note 8 .forceRemoved [p, x.value.toNat, x.under.value.toNat, mailbox]
      { s with pts.entries := s.pts.entries.put p { x.under with forced := false },
               pts.forces := s.pts.forces.filter fun y => y.point != p }

/-! ### Commands of class 0x03 (R99) -/

/-- The points a list of numbers names; a number that names none is out of range. -/
def State.natives (s : State) (l : List Nat) : List (Option Nat) := l.map s.nativePoint

/-- The answer of a read: the tick and the entries in the order asked for. -/
def readAnswer (tick : Nat) (entries : List (List Byte)) : List Byte :=
  le 8 tick ++ le 2 entries.length ++ [0, 0] ++ entries.flatten

def checkReadPoints (q : Issued) (s : State) : Bad :=
  let n := q.u16 0
  firstBad [(q.len < 2 || n < 1 || n > 500, .badArg), lenBad q (2 + 2 * n),
    ((s.natives (q.list 2 2 n)).any Option.isNone, .badArg)]
def runReadPoints (q : Issued) (s : State) : Reply :=
  say (readAnswer s.time.tick
    ((s.natives (q.list 2 2 (q.u16 0))).map fun p => s.entryBytes (p.getD 0))) s

/-- The numbers of a range. -/
def rangeOf (first count : Nat) : List Nat := (List.range count).map (first + ·)

def checkReadRange (q : Issued) (s : State) : Bad :=
  firstBad [lenBad q 4, (q.u16 2 < 1 || q.u16 2 > 500, .badArg),
    ((s.natives (rangeOf (q.u16 0) (q.u16 2))).any Option.isNone, .badArg)]
def runReadRange (q : Issued) (s : State) : Reply :=
  say (readAnswer s.time.tick
    ((s.natives (rangeOf (q.u16 0) (q.u16 2))).map fun p => s.entryBytes (p.getD 0))) s

/-- The lowest free one of 4 snapshot buffers (R97). -/
def freeOf (n : Nat) (used : Nat → Bool) : Option Nat := (List.range n).find? fun i => !used i

def checkTakeSnapshot (q : Issued) (s : State) : Bad :=
  firstBad [lenBad q 0, ((freeOf 4 s.pts.snaps.has).isNone, .busy)]
def runTakeSnapshot (_ : Issued) (s : State) : Reply :=
  let i := (freeOf 4 s.pts.snaps.has).getD 0
  let owners := if s.sys.mode = .configure then s.cfg.points else s.pts.inForce
  say ([BitVec.ofNat 8 i] ++ le 8 s.time.tick)
    { s with pts.snaps := s.pts.snaps.put i { tick := s.time.tick, entries := s.pts.entries, owners, used := s.sys.opNs } }

def checkReadSnapshot (q : Issued) (s : State) : Bad :=
  firstBad [lenBad q 5, (!s.pts.snaps.has (q.u8 0), .badArg), (q.u16 3 < 1 || q.u16 3 > 500, .badArg),
    ((s.natives (rangeOf (q.u16 1) (q.u16 3))).any Option.isNone, .badArg)]
def runReadSnapshot (q : Issued) (s : State) : Reply :=
  match s.pts.snaps.find (q.u8 0) with
  | none => done s
  | some b =>
    say (readAnswer b.tick ((s.natives (rangeOf (q.u16 1) (q.u16 3))).map fun p =>
        let p := p.getD 0
        entryBytes (b.owners.getD p (defaultPoint p)).owner (b.entries.getD p {})))
      { s with pts.snaps := s.pts.snaps.put (q.u8 0) { b with used := s.sys.opNs } }

def checkFreeSnapshot (q : Issued) (s : State) : Bad :=
  firstBad [lenBad q 1, (!s.pts.snaps.has (q.u8 0), .badArg)]
def runFreeSnapshot (q : Issued) (s : State) : Reply :=
  done { s with pts.snaps := s.pts.snaps.del (q.u8 0) }

/-- The (point, value) pairs of 0x03.10. -/
def writePairs (q : Issued) : List (Nat × U32) :=
  (List.range (q.u16 0)).map fun i => (q.u16 (2 + 6 * i), q.f (4 + 6 * i))

/-- The checks of a host write (R64, R78, R82, R87, R94), each over all points with the index of the first failing. -/
def checkWritePoints (q : Issued) (s : State) : Bad :=
  let l := (writePairs q).map fun x => (s.nativePoint x.1, x.2)
  let at' := fun (i : Nat) => le 2 i
  Bad.or (firstBad [(q.len < 2 || q.u16 0 < 1 || q.u16 0 > 256, .badArg), lenBad q (2 + 6 * q.u16 0)])
    (Bad.or (firstFailing l (fun x => x.1.isNone || !valueFits (s.pointCfg (x.1.getD 0)).format x.2) .badArg at')
      (Bad.or (firstFailing l (fun x => s.pointRetired (x.1.getD 0)) .retired at')
        (Bad.or (firstFailing l (fun x => (s.pointCfg (x.1.getD 0)).owner != 0x40) .notOwner at')
          (firstFailing l.zipIdx (fun x => s.pts.written.contains (x.1.1.getD 0) ||
            (l.take x.2).any fun y => y.1 == x.1.1) .busy at'))))
/-- 0x03.10. DEDUCED (notes/assumptions/48): a host write takes effect at the boundary (R98), so that its sub-tick time is 0. -/
def runWritePoints (q : Issued) (s : State) : Reply :=
  let l := (writePairs q).map fun x => ((s.nativePoint x.1).getD 0, x.2)
  let s := forAll l (fun x s =>
    updPoint x.1 (fun e => { e with value := x.2, valid := true, stale := false, held := false, ovr := false,
                                    settling := false, limited := false, retired := false, sub := 0 }) s) s
  done { s with pts.written := s.pts.written ++ l.map (·.1) }

def checkSetForce (q : Issued) (s : State) : Bad :=
  match s.nativePoint (q.u16 0) with
  | none => some (.badArg, [])
  | some p =>
    firstBad [lenBad q 6, (272 ≤ p && p ≤ 319, .badArg), ((s.pointCfg p).owner = 0, .badArg),
      (!valueFits (s.pointCfg p).format (q.f 2), .badArg),
      (!(s.entry p).forced && s.pts.forces.length ≥ 512, .badArg)]
def runSetForce (q : Issued) (s : State) : Reply :=
  done (setForce ((s.nativePoint (q.u16 0)).getD 0) (q.f 2) q.mailbox s)

def checkRemoveForce (q : Issued) (s : State) : Bad :=
  firstBad [lenBad q 2, (q.u16 0 != 0xFFFF && (s.nativePoint (q.u16 0)).isNone, .badArg)]
/-- The points whose force a 0x03.21 removes. -/
def forcesNamed (q : Issued) (s : State) : List Nat :=
  if q.u16 0 = 0xFFFF then s.pts.forces.map (·.point)
  else (s.pts.forces.map (·.point)).filter (· == (s.nativePoint (q.u16 0)).getD 0)
def runRemoveForce (q : Issued) (s : State) : Reply :=
  say (le 2 (forcesNamed q s).length) (forAll (forcesNamed q s) (fun p s => dropForce p q.mailbox s) s)

def forceBytes (f : Force) : List Byte :=
  le 2 f.point ++ leF f.value ++ leF f.under.value ++ [f.under.status, 0] ++ le 8 f.setTick ++ le 1 f.mailbox ++
    [0, 0, 0]

def checkListForces (q : Issued) (_ : State) : Bad := firstBad [lenBad q 2]
def runListForces (q : Issued) (s : State) : Reply :=
  let l := (s.pts.forces.drop (q.u16 0)).take 150
  say (le 2 l.length ++ (l.map forceBytes).flatten) s

def checkSetPointConfig (q : Issued) (s : State) : Bad :=
  let l := rangeOf (q.u16 0) (q.u16 2)
  Bad.or (firstBad [lenBad q 6])
    (firstFailing l (fun n => match s.nativePoint n with
        | none => true
        | some p => !s.ownerAllowed p (BitVec.ofNat 8 (q.u8 4)) (BitVec.ofNat 8 (q.u8 5)))
      .badArg (fun i => le 2 (q.u16 0 + i)))
def runSetPointConfig (q : Issued) (s : State) : Reply :=
  let l := (rangeOf (q.u16 0) (q.u16 2)).map fun n => (s.nativePoint n).getD 0
  let cfg : PointCfg := { owner := BitVec.ofNat 8 (q.u8 4), format := BitVec.ofNat 8 (q.u8 5) }
  let s := { s with cfg.points := forAll l (fun p t => t.put p cfg) s.cfg.points, cfg.any := true }
  done (if cfg.owner = 0 then forAll l (fun p s => dropForce p q.mailbox s) s else s)

def checkGetPointConfig (q : Issued) (s : State) : Bad :=
  firstBad [lenBad q 4, (q.u16 2 < 1 || q.u16 2 > 1000, .badArg),
    ((s.natives (rangeOf (q.u16 0) (q.u16 2))).any Option.isNone, .badArg)]
def runGetPointConfig (q : Issued) (s : State) : Reply :=
  say ((s.natives (rangeOf (q.u16 0) (q.u16 2))).flatMap fun p =>
    [(s.ownerSet (p.getD 0)).owner, (s.ownerSet (p.getD 0)).format]) s

/-- The blocks that write points, in the order of their owner codes (R79). -/
def writerBlocks : List Nat :=
  [1, 2] ++ rangeOf 0x10 32 ++ [0x40] ++ rangeOf 0x80 48 ++ rangeOf 0xC0 4

def checkGetWriteFaults (q : Issued) (_ : State) : Bad := firstBad [lenBad q 0]
def runGetWriteFaults (_ : Issued) (s : State) : Reply :=
  say (writerBlocks.flatMap fun o =>
    le 4 (sat32 (s.pts.nonFinite.getD o 0)) ++ le 4 (sat32 (s.pts.discarded.getD o 0))) s

end Sys2Proof.Machine
end

