-- ==== Sys2Proof/Machine/Field.lean ====
section
/-! DEFINITION. Field ports and uplinks (chapter 6): cyclic frames, acyclic segments, link faults and the commands of
class 0x05. -/

namespace Sys2Proof.Machine

def State.port (s : State) (n : Nat) : Port := s.fld.ports.getD n {}
def State.portCfg (s : State) (n : Nat) : PortCfg := s.cfg.ports.getD n {}

def updPort (n : Nat) (f : Port → Port) (s : State) : State := { s with fld.ports := s.fld.ports.upd n {} f }

def State.uplinkSet (s : State) (u : Nat) : UplinkCfg := s.cfg.uplinks.getD u (defaultUplink u)

def uplinkResource (u : Nat) : Nat := resource 12 u

/-- An uplink carries traffic: link up and not retired (R142, R144). -/
def State.uplinkUp (s : State) (u : Nat) : Bool :=
  (s.uplink u).link && !(s.uplink u).inReset && !s.isRetired (uplinkResource u)

/-- The first point of a port's inputs and outputs (R80). -/
def portIn (n : Nat) : Nat := 1024 + 128 * n
def portOut (n : Nat) : Nat := 1024 + 128 * n + 64

def ofPort (n : Nat) (p : List Byte) : Bool := rd p 0 1 == n

/-! ### Frames (R8, R131) -/

/-- The payload of a Narlidun Field Link frame: the 16-byte head, `count` entries of 5 B or the bytes of a segment, and the
Shroud block. -/
def linkPayload (f : FieldFrame) (count : Nat) (body : List Byte) : List Byte :=
  [f.version, f.kind, f.port, f.claim] ++ le 4 f.cycle.toNat ++ le 4 f.nodeId.toNat ++ le 1 count ++ le 1 f.shroud.length ++
    le 2 f.status.toNat ++ body ++ f.shroud

/-- A frame from its IEEE 802.1Q priority tag on: the tag with its PCP and VID 0, EtherType 0x88B5, and the payload padded with
zeros to the 42 B that a tagged frame of the Ethernet minimum carries. -/
def linkFrame (pcp : Nat) (payload : List Byte) : List Byte :=
  be 2 0x8100 ++ be 2 (pcp * 0x2000) ++ be 2 0x88B5 ++ payload ++ List.replicate (42 - payload.length) 0

/-- The entries of a cyclic frame, 5 B each. -/
def entriesBytes (l : List (U32 × Byte)) : List Byte := l.flatMap fun x => le 4 x.1.toNat ++ [x.2]

/-- A cyclic frame as it leaves a port. -/
def cyclicBytes (f : FieldFrame) : List Byte := linkFrame 7 (linkPayload f f.entries.length (entriesBytes f.entries))

/-- The head of a frame's payload: what every kind carries. -/
def linkHead (p : List Byte) : FieldFrame :=
  { version := BitVec.ofNat 8 (rd p 0 1), kind := BitVec.ofNat 8 (rd p 1 1), port := BitVec.ofNat 8 (rd p 2 1),
    claim := BitVec.ofNat 8 (rd p 3 1), cycle := BitVec.ofNat 32 (rd p 4 4), nodeId := BitVec.ofNat 32 (rd p 8 4),
    status := BitVec.ofNat 16 (rd p 14 2) }

/-- A cyclic frame taken apart, or none where its counts pass their limits or its bytes end before they do. -/
def readFrame (p : List Byte) : Option FieldFrame :=
  let count := rd p 12 1
  let shroud := rd p 13 1
  if p.length < 16 + 5 * count + shroud || count > 64 || shroud > 48 then none
  else
    some { linkHead p with
      entries := (List.range count).map fun i => (BitVec.ofNat 32 (rd p (16 + 5 * i) 4), BitVec.ofNat 8 (rd p (20 + 5 * i) 1)),
      shroud := (p.drop (16 + 5 * count)).take shroud }

/-- The segment of an acyclic response, or none where the frame is no such response of the port. -/
def readSegment (n : Nat) (p : List Byte) : Option (List Byte) :=
  let h := linkHead p
  let count := rd p 12 1
  if p.length < 16 + count || count > 96 || h.version != 1 || h.kind != 4 || h.port.toNat != n then none
  else some ((p.drop 16).take count)

/-! ### Cyclic input (R133, R137, R139, R141) -/

/-- A port has link. -/
def State.portLinked (s : State) (n : Nat) : Bool := (s.port n).mode = .linked || (s.port n).mode = .cyclic

/-- Whether a port takes part in the cycle: enabled, with link, and not retired but for the check of 0x05.31 (R141). -/
def State.portRuns (s : State) (n : Nat) : Bool :=
  (s.portCfg n).enabled != 0 && !s.starting && s.portLinked n && (!s.isRetired (resource 7 n) || (s.port n).inCheck)

/-- A port in a release check: 64 consecutive valid frames within 1 s release it (R141). -/
def releasePortFrame (n : Nat) (s : State) : State :=
  let s := updPort n (fun p => { p with checking := p.checking + 1 }) s
  if (s.port n).checking ≥ 64 && s.sys.opNs - (s.port n).checkFrom ≤ 1000000000 then
    let s := releaseResource 8 (resource 7 n) (updPort n (fun p => { p with inCheck := false, checking := 0 }) s)
    completeOn [.releasePort] (ofPort n) .done [] s
  else s

/-- A valid frame of the running tick (R137): it is kept for the boundary with the sub-tick time of its last octet, and the
release bit ends once the node reports safe_state clear (R139). -/
def takeFrame (n : Nat) (f : FieldFrame) (sub : Nat) (s : State) : State :=
  let s := updPort n (fun p =>
    { p with mode := if p.mode = .linked then .cyclic else p.mode, fresh := true, frame := some f, frameSub := sub,
             nodeId := f.nodeId, nodeStatus := f.status, obeyed := f.claim, idBad := 0 }) s
  let s := if (s.port n).inCheck then releasePortFrame n s else s
  if (s.port n).release && !f.status.getLsbD 9 then
    completeOn [.releaseNode] (ofPort n) .done [] (updPort n (fun p => { p with release := false }) s)
  else s

/-- A frame of a cyclic input that is no valid one: it is counted by what is wrong with it (R141). -/
def badFrame (n : Nat) (f : Port → Port) (s : State) : State :=
  countFault (resource 7 n) (updPort n (fun p => { f p with checking := 0 }) s)

/-- A frame with a good check sequence (R137, R141): used, or discarded and counted for its fault. -/
def judgeFrame (n : Nat) (f : FieldFrame) (sub : Nat) (s : State) : State :=
  let low := fun (k : Nat) => k % 2 ^ 32
  if f.version != 1 || f.kind != 2 || f.port.toNat != n then s
  else if f.cycle.toNat = low s.time.tick then
    if f.nodeId != (s.portCfg n).nodeId then
      let s := updPort n (fun p => { p with idBad := p.idBad + 1, nodeId := f.nodeId, checking := 0 }) s
      if (s.port n).idBad ≥ 16 then retireDue (resource 7 n) 10 s else s
    else takeFrame n f sub s
  else if s.time.tick > 0 && f.cycle.toNat = low (s.time.tick - 1) then
    badFrame n (fun p => { p with late := p.late + 1 }) s
  else badFrame n (fun p => { p with cycleBad := p.cycleBad + 1 }) s

/-- FIELD_INPUT_FRAME (R131, R137, R141), its last octet `sub` ns after the boundary. -/
def fieldInputEffect (n : Nat) (p : List Byte) (fcsOk : Bool) (sub : Nat) (s : State) : State :=
  if !s.portRuns n then s
  else if !fcsOk then badFrame n (fun p => { p with fcs := p.fcs + 1 }) s
  else
    let s := updPort n (fun p => { p with rx := p.rx + 1 }) s
    match readFrame p with
    | some f => judgeFrame n f sub s
    | none => s

/-- The input points of a port at the boundary (R133, R81): set from the frame of the tick, or STALE, with one
transient event, when none came. A retired port takes frames for the check of 0x05.31 alone, whose count a tick without one
starts afresh (R141). -/
def portPoints (n : Nat) (s : State) : State :=
  let cfg := s.portCfg n
  if cfg.enabled = 0 then s
  else if s.isRetired (resource 7 n) then
    updPort n (fun p => { p with fresh := false, frame := none, seen := none, checking := if p.fresh then p.checking else 0 }) s
  else
    match (s.port n).frame with
    | some f =>
      let l := f.entries.take cfg.inCount
      let sub := sub16 (s.port n).frameSub
      let s := forAll l.zipIdx (fun x s =>
        ownerWrite 2 (portIn n + x.2) x.1.1
          { valid := x.1.2.getLsbD 7, ovr := x.1.2.getLsbD 4, settling := x.1.2.getLsbD 3, sub } s) s
      updPort n (fun p => { p with fresh := false, frame := none, seen := some f }) s
    | none =>
      let s := forN cfg.inCount (fun i s => stalePoint (portIn n + i) s) s
      let s := updPort n (fun p => { p with missing := p.missing + 1, checking := 0, seen := none }) s
      countFault (resource 7 n) s

def fieldPoints (s : State) : State := forN 48 portPoints s

/-! ### Cyclic output (R131, R132, R137) -/

/-- Whether a port sends. -/
def State.portSends (s : State) (n : Nat) : Bool := s.portRuns n

/-- The output frame of the tick that has ended. -/
def outputFrame (n : Nat) (claim : Byte) (shroud : List Byte) (s : State) : FieldFrame :=
  let cfg := s.portCfg n
  { kind := 1, port := BitVec.ofNat 8 n, claim, cycle := BitVec.ofNat 32 (s.time.tick - 1), nodeId := cfg.nodeId,
    status := (if s.sys.straps.unitB = .tied then 1 else 0) + (if (s.port n).release then 2 else 0),
    entries := (List.range cfg.outCount).map fun i => ((s.entry (portOut n + i)).value, (s.entry (portOut n + i)).status),
    shroud := shroud.take cfg.shroudLen }

/-! ### Acyclic segments (R140) -/

/-- The payload of an acyclic request: kind 3 of R131, with at most 96 bytes of the block. -/
def acyclicPayload (n : Nat) (segment : List Byte) (s : State) : List Byte :=
  linkPayload { kind := 3, port := BitVec.ofNat 8 n, claim := s.par.own, cycle := BitVec.ofNat 32 s.time.tick,
                nodeId := (s.portCfg n).nodeId } segment.length segment

/-- The segment of a transfer that is next to be answered. -/
def Acyclic.segment (a : Acyclic) : List Byte := if a.write then a.left.take 96 else []

/-- The segment under way is sent, in the next cycle where one has been sent in this (R140). -/
def sendSegment (n : Nat) (s : State) : State :=
  match (s.port n).acyclic with
  | none => s
  | some a =>
    if (s.port n).sent then updPort n (fun p => { p with acyclic := some { a with due := true } }) s
    else
      emit (.acyclic n (linkFrame 0 (acyclicPayload n a.segment s)))
        (updPort n (fun p => { p with sent := true, acyclic := some { a with due := false, age := 0 } }) s)

/-- A transfer begins with its first segment. -/
def beginAcyclic (n : Nat) (a : Acyclic) (s : State) : State :=
  sendSegment n (updPort n (fun p => { p with acyclic := some a }) s)

/-- A transfer ends: its request, if it has one, gets its final status. -/
def endAcyclic (n : Nat) (a : Acyclic) (st : Status) (payload : List Byte) (s : State) : State :=
  let s := updPort n (fun p => { p with acyclic := none }) s
  match a.request with
  | some r => completeTagged r st payload s
  | none => s

/-- The most bytes that a parameter block has (R140). -/
def blockMost : Nat := 3072

/-- A segment has been answered: the next one follows, or the transfer is complete. -/
def answerSegment (n : Nat) (a : Acyclic) (seg : List Byte) (last : Bool) (s : State) : State :=
  let next := fun (a : Acyclic) => sendSegment n (updPort n (fun p => { p with acyclic := some { a with tries := 1, age := 0 } }) s)
  if a.write then
    let left := a.left.drop 96
    if left.isEmpty then
      let s := endAcyclic n a .done [] s
      if a.request.isSome then note 8 .nodeParams [n, 1] s else s
    else next { a with left }
  else
    let got := (a.got ++ seg).take blockMost
    if last || got.length ≥ blockMost then endAcyclic n a .done (le 2 got.length ++ got) s
    else next { a with got }

/-- ACYCLIC_SEGMENT: the node answers the segment that has been sent. DESIGN CHOICE (notes/assumptions/49): a block read ends with the
segment that the node marks as its last, and with 3,072 B. -/
def acyclicSegmentEffect (n : Nat) (p : List Byte) (last : Bool) (s : State) : State :=
  match (s.port n).acyclic, readSegment n p with
  | some a, some seg => if a.due || !s.portRuns n then s else answerSegment n a seg last s
  | _, _ => s

/-- ACYCLIC_TIMEOUT: a segment that 100 cycles have not answered is sent again, 3 times in all, and then the transfer ends
TIMEOUT. -/
def acyclicTimeoutEffect (n : Nat) (s : State) : State :=
  match (s.port n).acyclic with
  | none => s
  | some a =>
    if a.due || a.age < 100 then s
    else if a.tries ≥ 3 then endAcyclic n a .timeout [] s
    else sendSegment n (updPort n (fun p => { p with acyclic := some { a with tries := a.tries + 1 } }) s)

/-- A new cycle of the ports: a port that was being reset trains, and a segment that waited is sent (R140). DESIGN CHOICE
(notes/assumptions/49): a reset of a port ends with its tick. -/
def fieldNewTick (s : State) : State :=
  let s := { s with fld.ports := ⟨s.fld.ports.cells.map fun x => (x.1,
    { x.2 with sent := false, mode := if x.2.mode = .inReset then .training else x.2.mode,
               acyclic := x.2.acyclic.map fun a => { a with age := a.age + 1 } })⟩ }
  forAll ((s.fld.ports.cells.filter fun x => x.2.acyclic.any (·.due)).map (·.1)) sendSegment s

/-! ### Links (R139, R141, R144, R489) -/

/-- Index of a port in domain 5 of the reset history (R489). -/
def PortId.index : PortId → Nat
  | .field n => n | .uplink u => 48 + u | .service => 53

/-- The long-running commands a port or uplink serves. -/
def portOps : List Op := [.releaseNode, .writeNodeParams, .readNodeParams, .releasePort]
def uplinkOps : List Op := [.releaseUplink]

/-- A port whose domain is reset: its queues are empty (R23), and what its requests had begun is undone (R70). -/
def Port.cut (mode : PortMode) (down : Option Nat) (p : Port) : Port :=
  { p with mode, downSince := down, fresh := false, frame := none, acyclic := none, release := false, inCheck := false,
           checking := 0 }

/-- An uplink whose domain is reset. -/
def Uplink.cut (down : Option Nat) (u : Uplink) : Uplink := { u with link := false, downSince := down, checking := false }

/-- PORT_LINK_LOSS on a field port (R141): one transient event, the port's reset, and the PHY retrains. A retired port loses its
check of 0x05.31 with it. -/
def fieldLinkLoss (n : Nat) (s : State) : State :=
  if s.isRetired (resource 7 n) && !(s.port n).inCheck then s else
  let s := updPort n (fun p => { Port.cut .inReset (some s.sys.opNs) p with linkLosses := p.linkLosses + 1 }) s
  let s := domainReset 2 5 n 0x0501 (countFault (resource 7 n) s)
  restartOn portOps (ofPort n) s

/-- UPLINK_FAULT (R144). While 0x05.42 checks a retired uplink, a frame with a bad check sequence or a loss of link fails
it. -/
def uplinkFaultEffect (u : Nat) (f : UplinkFault) (s : State) : State :=
  if s.isRetired (uplinkResource u) then
    match f with
    | .fcsErrors k => if k = 0 then s else updUplink u (fun x => { x with checkBad := true }) s
    | .linkLoss => updUplink u (fun x => { x with checkBad := true, link := false }) s
    | .trainingFailed => s
  else
    match f with
    | .linkLoss =>
      restartOn uplinkOps (ofPort u) (domainReset 2 5 (48 + u) 0x0501
        (updUplink u (Uplink.cut (some s.sys.opNs)) (countFault (uplinkResource u) s)))
    | .trainingFailed => countFault (uplinkResource u) s
    | .fcsErrors k =>
      let s := updUplink u (fun x => { x with drops := x.drops + k }) s
      if k > 10 then countFault (uplinkResource u) s else s

/-- LINK_REGAIN_TIMEOUT (R141, R144): 1 s for a field port and 10 s for an uplink since the loss, still without link. -/
def linkTimeoutEffect (p : PortId) (s : State) : State :=
  match p with
  | .field n =>
    match (s.port n).downSince with
    | some t => if s.sys.opNs - t ≥ 1000000000 then retireDue (resource 7 n) 9 s else s
    | none => s
  | .uplink u =>
    match (s.uplink u).downSince with
    | some t => if s.sys.opNs - t ≥ 10000000000 then retireDue (uplinkResource u) 9 s else s
    | none => s
  | .service => s

/-- PORT_LINK_UP: link has come up after training; the node of a field port gets its configuration (R139). -/
def linkUpEffect (p : PortId) (s : State) : State :=
  match p with
  | .field n =>
    if s.isRetired (resource 7 n) && !(s.port n).inCheck then s
    else
      let s := updPort n (fun x => { x with mode := .linked, downSince := none }) s
      if (s.portCfg n).enabled = 0 || s.starting then s
      else beginAcyclic n { write := true, left := Config.nodeConfig (s.portCfg n).w, request := none } s
  | .uplink u =>
    if s.isRetired (uplinkResource u) && !(s.uplink u).checking then s
    else updUplink u (fun x =>
      { x with link := true, inReset := false, downSince := none, linkAt := if x.checking then some s.sys.opNs else none }) s
  | .service => { s with sys.serviceLink := true, sys.serviceDown := none, sys.serviceUsed := s.sys.opNs }

/-! ### Commands of class 0x05 (R145) -/

def portModeCode (s : State) (n : Nat) : Nat :=
  if s.isRetired (resource 7 n) then 5
  else match (s.port n).mode with
    | .down => 0 | .training => 1 | .linked => 2 | .cyclic => 3 | .inReset => 4 | .retired => 5

def checkGetPortStatus (q : Issued) (_ : State) : Bad := firstBad [lenBad q 1, (q.u8 0 ≥ 48, .badArg)]
def runGetPortStatus (q : Issued) (s : State) : Reply :=
  let p := s.port (q.u8 0)
  say (le 1 (portModeCode s (q.u8 0)) ++ le 4 p.nodeId.toNat ++ le 2 p.nodeStatus.toNat ++ [p.obeyed] ++ le 8 p.rx ++
    le 8 p.tx ++ le 4 p.missing ++ le 4 p.late ++ le 4 p.fcs ++ le 4 p.cycleBad ++ le 4 p.linkLosses ++
    le 1 (s.inWindow (resource 7 (q.u8 0)))) s

def checkGetUplinkStatus (q : Issued) (_ : State) : Bad := firstBad [lenBad q 1, (q.u8 0 ≥ 4, .badArg)]
def runGetUplinkStatus (q : Issued) (s : State) : Reply :=
  let u := s.uplink (q.u8 0)
  say (leBool u.link ++ [(s.uplinkNow (q.u8 0)).role] ++ le 8 (u.rx + s.mbx.rxFrames.getD (q.u8 0) 0) ++
    le 8 (u.tx + s.mbx.txFrames.getD (q.u8 0) 0) ++ le 4 u.drops ++
    leBool (s.isRetired (uplinkResource (q.u8 0))) ++ le 1 (s.inWindow (uplinkResource (q.u8 0)))) s

/-- Transmission time of a cyclic frame in units of 80 ns (R134). -/
def frameSlots (entries shroud : Nat) : Nat := 58 + 5 * entries + shroud

/-- R136 for a base period of `t` µs: the input frame ends within its tick, and the output values arrive before the
node applies them. -/
def portTimingBad (c : PortCfg) (t : Nat) : Bool :=
  c.gIn * 1000 + 80 * frameSlots c.inCount c.shroudLen + 2000 > t * 1000 ||
    c.dOut * 1000 < 12000 + 80 * frameSlots c.outCount c.shroudLen || c.dOut > 2 * t

def portOf (q : Issued) : PortCfg :=
  { enabled := BitVec.ofNat 8 (q.u8 1), phyRole := BitVec.ofNat 8 (q.u8 2), inCount := q.u8 3, outCount := q.u8 4,
    shroudLen := q.u8 5, gIn := q.u16 6, dOut := q.u16 8, w := q.u8 10, nodeId := BitVec.ofNat 32 (q.u32 11) }

def checkSetPortConfig (q : Issued) (s : State) : Bad :=
  let c := portOf q
  firstBad [lenBad q 15, (q.u8 0 ≥ 48, .badArg), (q.u8 1 > 1, .badArg), (q.u8 2 > 1, .badArg),
    (c.inCount > 64 || c.outCount > 64, .badArg), (c.shroudLen > 48, .badArg), (c.gIn < 1, .badArg), (c.w < 2, .badArg),
    (portTimingBad c s.time.periodUs || portTimingBad c s.cfg.periodUs, .badArg)]
def runSetPortConfig (q : Issued) (s : State) : Reply :=
  done { s with cfg.ports := s.cfg.ports.put (q.u8 0) (portOf q), cfg.any := true }

def checkGetPortConfig (q : Issued) (_ : State) : Bad := firstBad [lenBad q 1, (q.u8 0 ≥ 48, .badArg)]
def runGetPortConfig (q : Issued) (s : State) : Reply :=
  let c := s.portCfg (q.u8 0)
  say (le 1 (q.u8 0) ++ [c.enabled, c.phyRole] ++ le 1 c.inCount ++ le 1 c.outCount ++ le 1 c.shroudLen ++ le 2 c.gIn ++
    le 2 c.dOut ++ le 1 c.w ++ le 4 c.nodeId.toNat) s

def checkReleaseNode (q : Issued) (s : State) : Bad :=
  firstBad [lenBad q 1, (q.u8 0 ≥ 48, .badArg), (s.isRetired (resource 7 (q.u8 0)), .retired)]
/-- 0x05.12 (R139): release rides in the port's output frames until the node reports safe_state clear. -/
def runReleaseNode (q : Issued) (s : State) : Reply :=
  acceptedReply (updPort (q.u8 0) (fun p => { p with release := true }) s)

def checkWriteNodeParams (q : Issued) (s : State) : Bad :=
  firstBad [(q.len < 3, .badArg), lenBad q (3 + q.u16 1), (q.u8 0 ≥ 48, .badArg), (q.u16 1 > 3072 || q.u16 1 < 1, .badArg),
    (s.isRetired (resource 7 (q.u8 0)), .retired), ((s.port (q.u8 0)).acyclic.isSome, .busy)]
def runWriteNodeParams (q : Issued) (s : State) : Reply :=
  acceptedReply (beginAcyclic (q.u8 0) { write := true, left := q.bytes 3 (q.u16 1), request := some q.ref } s)

def checkReadNodeParams (q : Issued) (s : State) : Bad :=
  firstBad [lenBad q 1, (q.u8 0 ≥ 48, .badArg), (s.isRetired (resource 7 (q.u8 0)), .retired),
    ((s.port (q.u8 0)).acyclic.isSome, .busy)]
def runReadNodeParams (q : Issued) (s : State) : Reply :=
  acceptedReply (beginAcyclic (q.u8 0) { write := false, left := [], request := some q.ref } s)

/-- The resources a port number of 0x05.30 names. -/
def portResources (p : Nat) : List Nat :=
  if p = 0xFF then (List.range 48).map (resource 7) ++ (List.range 4).map uplinkResource
  else if p < 48 then [resource 7 p] else [uplinkResource (p - 48)]

def checkSetPortFaultThreshold (q : Issued) (_ : State) : Bad :=
  firstBad [lenBad q 4, (q.u8 0 > 51 && q.u8 0 != 0xFF, .badArg), (q.u8 1 < 1, .badArg),
    (q.u16 2 < 100 || q.u16 2 > 60000, .badArg)]
def runSetPortFaultThreshold (q : Issued) (s : State) : Reply :=
  done { s with
    cfg.thresholds := forAll (portResources (q.u8 0)) (fun r t => t.put r (q.u8 1, q.u16 2)) s.cfg.thresholds,
    cfg.any := true }

def checkReleasePort (q : Issued) (_ : State) : Bad := firstBad [lenBad q 1, (q.u8 0 ≥ 48, .badArg)]
/-- 0x05.31 (R141): the port restarts, and 64 consecutive valid input frames within 1 s release it. -/
def runReleasePort (q : Issued) (s : State) : Reply :=
  acceptedReply (domainReset 8 5 (q.u8 0) 0x0504
    (updPort (q.u8 0) (fun p => { Port.cut .inReset none p with inCheck := true, checkFrom := s.sys.opNs }) s))

def checkClearPortCounters (q : Issued) (_ : State) : Bad :=
  firstBad [lenBad q 1, (q.u8 0 ≥ 48 && q.u8 0 != 0xFF, .badArg)]
def runClearPortCounters (q : Issued) (s : State) : Reply :=
  let l := if q.u8 0 = 0xFF then List.range 48 else [q.u8 0]
  done (forAll l (updPort · fun p =>
    { p with rx := 0, tx := 0, missing := 0, late := 0, fcs := 0, cycleBad := 0, linkLosses := 0 }) s)

/-- Roles of an uplink: 0 OFF or, on U0 and U1, its fixed role; 1 STREAM on U2 and U3 (R142). -/
def checkSetUplink (q : Issued) (_ : State) : Bad :=
  firstBad [lenBad q 16, (q.u8 0 ≥ 4, .badArg), (q.u8 1 > (if q.u8 0 < 2 then 0 else 1), .badArg),
    (q.u16 14 < 1500 || q.u16 14 > 9000, .badArg)]
def runSetUplink (q : Issued) (s : State) : Reply :=
  let c : UplinkCfg := { role := BitVec.ofNat 8 (q.u8 1), addr := BitVec.ofNat 32 (q.u32 2), mask := BitVec.ofNat 32 (q.u32 6),
                         gateway := BitVec.ofNat 32 (q.u32 10), mtu := q.u16 14 }
  done { s with cfg.uplinks := s.cfg.uplinks.put (q.u8 0) c, cfg.any := true }

def checkGetUplinkConfig (q : Issued) (_ : State) : Bad := firstBad [lenBad q 1, (q.u8 0 ≥ 4, .badArg)]
def runGetUplinkConfig (q : Issued) (s : State) : Reply :=
  let c := s.uplinkSet (q.u8 0)
  say (le 1 (q.u8 0) ++ [c.role] ++ le 4 c.addr.toNat ++ le 4 c.mask.toNat ++ le 4 c.gateway.toNat ++ le 2 c.mtu) s

def checkReleaseUplink (q : Issued) (s : State) : Bad :=
  firstBad [lenBad q 1, (q.u8 0 ≥ 4, .badArg), (!s.isRetired (uplinkResource (q.u8 0)), .badArg)]
/-- 0x05.42 (R144): the uplink restarts; link within 1 s and a second without an FCS error release it. -/
def runReleaseUplink (q : Issued) (s : State) : Reply :=
  acceptedReply (domainReset 8 5 (48 + q.u8 0) 0x0504
    (updUplink (q.u8 0) (fun u =>
      { u with checking := true, checkBad := false, checkFrom := s.sys.opNs, linkAt := none, link := false, inReset := false }) s))

/-- How the check of 0x05.42 stands (R144): it fails where link has not come up within 1 s of the restart, or a received frame has
failed its FCS or link was lost since; it succeeds 1 s after link came up. -/
def State.uplinkCheck (s : State) (u : Nat) : Option Bool :=
  let x := s.uplink u
  match x.linkAt with
  | none => if s.sys.opNs - x.checkFrom ≥ 1000000000 then some false else none
  | some t =>
    if x.checkBad || t - x.checkFrom > 1000000000 then some false
    else if s.sys.opNs - t ≥ 1000000000 then some true else none

/-- The end of 0x05.42. -/
def releaseUplinkDone (u : Nat) (ok : Bool) (s : State) : Status × State :=
  let s := updUplink u (fun x => { x with checking := false, linkAt := none }) s
  if ok then (.done, releaseResource 8 (uplinkResource u) s)
  else (.retired, updUplink u (fun x => { x with link := false, inReset := true }) s)

end Sys2Proof.Machine
end

