-- ==== Sys2Proof/Machine/Analogue.lean ====
section
/-! DEFINITION. Analogue inputs (chapter 5): the slot round of a converter group, references and drift trims, samples
and point values, and the commands of class 0x04. -/

namespace Sys2Proof.Machine

/-! ### Ranges and calibration (R108, R116, R121) -/

/-- Span of a range in volts or milliamperes, as a rational (R108). -/
def rangeSpan : Nat → Int × Nat
  | 0 => (20, 1) | 1 => (5, 1) | 2 => (10, 1) | 3 => (1, 2) | _ => (25, 1)

/-- One LSB of a range: its span over 2 ^ 18 (R108). -/
def rangeLsb (r : Nat) : F32 := fRat (rangeSpan r).1 ((rangeSpan r).2 * 262144)

/-- The code as the range reads it: two's complement on bipolar ranges, straight binary on unipolar ones (R108). -/
def codeValue (range : Nat) (code : BitVec 18) : Int :=
  if range = 2 || range = 4 then code.toNat else code.toInt

/-- A record sealed with its CRC-32C (R121). -/
def sealRecord (b : List Byte) : List Byte := b ++ le 4 (crc32c b)

/-- The channel record of a channel that nothing distinguishes: version 1, valid, gain 1.0, offset 0, no drift. -/
def nominalChannel (c range : Nat) : List Byte :=
  sealRecord (le 1 c ++ le 1 range ++ [1, 1] ++ leF (fOfNat 1) ++ List.replicate 20 0)

/-- The group record with the references of R119 and the factory tolerance of R120. -/
def nominalGroup (g : Nat) : List Byte :=
  sealRecord (le 1 g ++ [1, 0, 0] ++ leF 0 ++ leF (fOfNat 2) ++ leF (fNeg (fOfNat 2)) ++ leF (fRat 5 4) ++ leF (fRat 2 10000) ++
    [0, 0, 0, 0])

/-- The factory record of a channel and range (kind 0) or of a group (kind 1) (R121). -/
def State.calRecord (s : State) (kind index range : Nat) : List Byte :=
  if kind = 0 then s.sys.factory.records.getD (5 * index + range) (nominalChannel index range)
  else s.sys.factory.records.getD (480 + index) (nominalGroup index)

/-- A calibration record passes its CRC and, for a channel, carries valid = 1 (R122). -/
def State.calGood (s : State) (kind index range : Nat) : Bool :=
  let r := s.calRecord kind index range
  crc32c (r.take 28) == rd r 28 4 && (kind != 0 || rd r 3 1 == 1)

def State.calF (s : State) (kind index range o : Nat) : F32 := BitVec.ofNat 32 (rd (s.calRecord kind index range) o 4)

/-- t_cal, a signed number of 0.01 °C (R121). -/
def State.calTemp (s : State) (c range : Nat) : F32 :=
  fDiv (fOfInt (BitVec.ofNat 16 (rd (s.calRecord 0 c range) 20 2)).toInt) (fOfNat 100)

def State.channelCfg (s : State) (c : Nat) : ChannelCfg := s.cfg.channels.getD c {}
def State.group (s : State) (g : Nat) : Group := s.ain.groups.getD g {}
def State.channel (s : State) (c : Nat) : Channel := s.ain.channels.getD c {}

def updGroup (g : Nat) (f : Group → Group) (s : State) : State := { s with ain.groups := s.ain.groups.upd g {} f }
def updChannel (c : Nat) (f : Channel → Channel) (s : State) : State :=
  { s with ain.channels := s.ain.channels.upd c {} f }

/-- A code converted to volts or milliamperes (R116), each operation rounded in the order shown. -/
def convertCode (s : State) (c : Nat) (code : BitVec 18) : F32 :=
  let range := (s.channelCfg c).range
  let g := s.group (c / 8)
  let lsb := rangeLsb range
  let x := fMul (fOfInt (codeValue range code)) lsb
  let o := fMul g.trimOff (fDiv lsb (rangeLsb 1))
  let v := fFma (fMul (s.calF 0 c range 4) g.trimGain) x (fAdd (s.calF 0 c range 8) o)
  let dt := fSub g.tDie (s.calTemp c range)
  let v := fAdd (fAdd v (fMul (s.calF 0 c range 16) dt)) (fMul (fMul v (s.calF 0 c range 12)) dt)
  let u := s.ain.trims.getD (8 * c + range) {}
  fFma u.gain v u.off

/-! ### The round (R102 to R106) -/

/-- A channel is in its group's round: enabled and not retired (R102). -/
def State.inRound (s : State) (c : Nat) : Bool := s.ain.enabled.getD c true && !s.isRetired (resource 3 c)

/-- The first position of the round from a position on. -/
def State.dueFrom (s : State) (g from' : Nat) : Option Nat :=
  ((List.range 8).map fun k => (from' + k) % 8).find? fun i => s.inRound (8 * g + i)

/-- SETTLING of the slot that starts at tool time `t` (R111, R112). -/
def Group.settleAt (g : Group) (t : Nat) : Bool := g.settle > 0 || g.clamped != 0 || t < g.clampEnd

/-- The urgent request that a slot starting at tool time `t` serves: the first one, once the group has seen it (R105). -/
def Group.urgentAt (x : Group) (t : Nat) : Option Nat :=
  match x.urgent with
  | (i, seen) :: _ => if seen ≤ t then some i else none
  | [] => none

/-- The group chooses the slot that starts at tool time `t` (R102, R103, R104, R106); the choice does not consult the SETTLING of
R112. DEDUCED (notes/assumptions/25): the slots of a restart belong to its references alone (R123). -/
def chooseSlot (g : Nat) (t : Nat) (s : State) : State :=
  let x := s.group g
  let x := { x with settling := x.settleAt t }
  let due := s.dueFrom g x.next
  let reference : Group := { x with slot := .reference x.refIndex }
  let y : Group :=
    if x.refsLeft > 0 then reference
    else match x.urgentAt t with
    | some i =>
      { x with slot := .channel i true, urgent := x.urgent.drop 1, next := if due = some i then (i + 1) % 8 else x.next }
    | none =>
      if x.refDue && x.settle = 0 then reference
      else
        match due with
        | some i => { x with slot := .channel i false, next := (i + 1) % 8 }
        | none => reference
  { s with ain.groups := s.ain.groups.put g y }

/-- The latency with which a group sees an urgent request, 48 ns to 68 ns (R20): which, is the crossing's own. -/
def requestLatency (g t : Nat) : Nat := 48 + Config.unstated 80 [g, t] % 21

/-- A prompt loop's urgent request for a channel at tool time `t` (R105, R106): one request per channel and fast tick, at most 2
served out of turn; a further one is counted as excess. -/
def requestUrgent (t c : Nat) (s : State) : State :=
  let g := c / 8
  let i := c % 8
  let x := s.group g
  if x.mode != .running || !s.inRound c || x.asked.contains i then s
  else
    let s := updGroup g (fun x => { x with asked := x.asked ++ [i] }) s
    if x.asked.length ≥ 2 then updChannel c (fun ch => { ch with excess := ch.excess + 1 }) s
    else updGroup g (fun x => { x with urgent := x.urgent ++ [(i, t + requestLatency g t)] }) s

/-- The group serves this fast tick's request for a channel out of turn (R106). -/
def Group.servesUrgent (x : Group) (i : Nat) : Bool := (x.asked.take 2).contains i

/-! ### Samples -/

/-- Even parity over the low bits of a number (R114). -/
def evenParity (n bits : Nat) : Nat := ((bitsOf bits n).filter id).length % 2

/-- The 26-bit sample word (R114). -/
def sampleWord (reference urgent settling ovr : Bool) (position : Nat) (code : BitVec 18) : BitVec 26 :=
  let b := fun (x : Bool) => if x then 1 else 0
  let w := code.toNat + position * 2 ^ 18 + b ovr * 2 ^ 21 + b settling * 2 ^ 22 + b urgent * 2 ^ 23 + b reference * 2 ^ 24
  BitVec.ofNat 26 (w + evenParity w 25 * 2 ^ 25)

def trimOffBound : F32 := fRat 25 10000
def trimGainLo : F32 := fRat 9995 10000
def trimGainHi : F32 := fRat 10005 10000

/-- A value held within bounds: one that would pass a bound stops at it. -/
def clampTo (lo hi v : F32) : F32 := if fLt v lo then lo else if fLt hi v then hi else v

/-- The result of a reference conversion and its error against the group record (R120). -/
def State.refResult (s : State) (x : Group) (g k : Nat) (code : BitVec 18) : F32 × F32 :=
  let r := fFma x.trimGain (fMul (fOfInt code.toInt) (rangeLsb 1)) x.trimOff
  (r, fSub (s.calF 1 g 0 (4 + 4 * k)) r)

/-- The tolerance of a group in volts: its fraction of the 5 V span (R120). -/
def State.refTolerance (s : State) (g : Nat) : F32 := fMul (s.calF 1 g 0 20) (fOfNat 5)

/-- A trim after a reference result within tolerance (R120). -/
def State.trimAfter (s : State) (x : Group) (g k : Nat) (d : F32) : Group :=
  let off := if k = 0 then clampTo (fNeg trimOffBound) trimOffBound (fAdd x.trimOff (fDiv d (fOfNat 64))) else x.trimOff
  let e := s.calF 1 g 0 (4 + 4 * k)
  let gain := if k = 1 || k = 2 then clampTo trimGainLo trimGainHi (fAdd x.trimGain (fDiv d (fMul (fOfNat 64) e)))
    else x.trimGain
  { x with
    trimOff := off, trimGain := gain,
    offBound := if k != 0 then x.offBound else if fAbs off == trimOffBound then x.offBound + 1 else 0,
    gainBound := if k = 0 || k = 3 then x.gainBound else if gain == trimGainLo || gain == trimGainHi then x.gainBound + 1 else 0 }

/-- A reference conversion without SETTLING (R119, R120, R123, R124): its result is judged, the trims move, and the
next reference is due. -/
def takeReference (g : Nat) (k : Nat) (code : BitVec 18) (tDie : F32) (s : State) : State :=
  let x := s.group g
  let rd := s.refResult x g k code
  let r := rd.1
  let d := rd.2
  let bad := fLt (s.refTolerance g) (fAbs d)
  let x : Group := { x with tDie, lastRef := listUpd k (fun _ => r) x.lastRef, refDev := listUpd k (fun _ => !bad) x.refDev }
  let far := k = 3 && fLt (fMul (fOfNat 4) (s.refTolerance g)) (fAbs d) && x.refDev.getD 1 true && x.refDev.getD 2 true
  let x : Group := if bad then { x with refDue := true }
    else { s.trimAfter x g k d with refDue := false, refIndex := (k + 1) % 4, refsLeft := x.refsLeft - 1 }
  let s := { s with ain.groups := s.ain.groups.put g x }
  let s := if bad then selfTestFails 4 g (countFault (resource 2 g) s) else s
  let s := if far then retireDue (resource 2 g) 5 s else s
  if x.offBound ≥ 16 || x.gainBound ≥ 16 then retireDue (resource 2 g) 6 s else s

/-- Whether a group converts: running, not retired, its bank supplied (R101, R124). -/
def State.groupRuns (s : State) (g : Nat) : Bool :=
  (s.group g).mode = .running && !s.isRetired (resource 2 g) && !s.ain.bankDown.contains (g / 3)

/-- A channel's sample joins its tick and its counts (R113, R114, R117). -/
def takeSample (c : Nat) (urgent settling ovr : Bool) (code : BitVec 18) (sub : Nat) (s : State) : State :=
  let v := convertCode s c code
  updChannel c (fun ch =>
    { ch with lastWord := sampleWord false urgent settling ovr (c % 8) code, samples := ch.samples + 1,
              ovr := ch.ovr + (if ovr then 1 else 0), settling := ch.settling + (if settling then 1 else 0),
              urgent := ch.urgent + (if urgent then 1 else 0),
              inTick := ch.inTick ++ [{ value := v, sub, settling, ovr, urgent }] }) s

/-- The code of a conversion (R110): an input outside its range reads as the highest or the lowest code. -/
def readCode (r : Conversion) (range : Nat) : BitVec 18 :=
  let unipolar := range = 2 || range = 4
  match r.range with
  | .within => r.code
  | .above => if unipolar then 0x3FFFF else 0x1FFFF
  | .below => if unipolar then 0 else 0x20000

/-- The slot count moves on; at its wrap a reference becomes pending (R103). -/
def countSlot (g : Nat) (s : State) : State :=
  updGroup g (fun x => { x with count := (x.count + 1) % 256, refDue := x.refDue || x.count = 255 }) s

/-- A slot ends (R102, R103, R110 to R115): its word is delivered or discarded, and the next slot is chosen. Answers
the channel whose sample was taken. -/
def endSlot (g : Nat) (r : Conversion) (s : State) : State × Option Nat :=
  if !s.groupRuns g then (s, none)
  else
    let x := s.group g
    let stamp := s.toolNs + r.sub
    let clampedHere := match x.slot with | .channel i _ => x.clamped.getLsbD i | .reference _ => false
    let ovr := r.range != .within || clampedHere
    let (s, taken) : State × Option Nat :=
      if !r.parityOk then
        let s := match x.slot with
          | .channel i _ => updChannel (8 * g + i) (fun ch => { ch with parity := ch.parity + 1 }) s
          | .reference _ => s
        (countFault (resource 2 g) s, none)
      else match x.slot with
        | .channel i urgent =>
          let c := 8 * g + i
          (takeSample c urgent x.settling ovr (readCode r (s.channelCfg c).range) r.sub s, some c)
        | .reference k =>
          if x.settling then (updGroup g (fun x => { x with tDie := r.tDie, refDue := true }) s, none)
          else (takeReference g k (readCode r 1) r.tDie s, none)
    let s := updGroup g (fun x => { x with settle := if ovr then 2 else x.settle - 1 }) s
    (chooseSlot g stamp (countSlot g s), taken)

/-- SLOT_COUNT_WRAP (R103). -/
def slotWrapEffect (g : Nat) (s : State) : State :=
  if s.groupRuns g then updGroup g (fun x => { x with count := 0, refDue := true }) s else s

/-- CLAMP_DETECT (R112). -/
def clampDetectEffect (c : Nat) (s : State) : State :=
  updGroup (c / 8) (fun x => { x with clamped := x.clamped ||| BitVec.ofNat 8 (2 ^ (c % 8)) }) s

/-- CLAMP_RELEASE (R112): with the last clamp of the group, SETTLING ends 10 µs later. -/
def clampReleaseEffect (c sub : Nat) (s : State) : State :=
  updGroup (c / 8) (fun x =>
    let m := x.clamped &&& ~~~(BitVec.ofNat 8 (2 ^ (c % 8)))
    { x with clamped := m, clampEnd := if m = 0 then s.toolNs + sub + 10000 else x.clampEnd }) s

/-- The converters of a group restart (R123, R125): SETTLING and requests are gone, all four references are converted
`n` times, and the round resumes with the channel that was due: the one whose slot the restart cut off
(notes/assumptions/25). -/
def restartGroup (n g : Nat) (s : State) : State :=
  chooseSlot g s.toolNs (updGroup g (fun x =>
    { x with mode := .running, refsLeft := 4 * n, refIndex := 0, refDue := false, settle := 0, urgent := [], asked := [],
             next := match x.slot with | .channel i false => i | _ => x.next }) s)

/-- The long-running command a converter group serves. -/
def groupOps : List Op := [.releaseGroup]
def ofGroup (g : Nat) (p : List Byte) : Bool := rd p 0 1 == g

/-- GROUP_WATCHDOG (R123): one transient event, and the group restarts; what it served ends RESTARTED (R70). -/
def groupWatchdogEffect (g : Nat) (s : State) : State :=
  if !s.groupRuns g then s
  else
    let s := updGroup g (fun x => { x with watchdogs := x.watchdogs + 1 }) s
    let s := note 2 .groupFault [g] s
    restartGroup 2 g (restartOn groupOps (ofGroup g) (domainReset 2 6 g 0x0601 (countFault (resource 2 g) s)))

/-- BANK_SUPPLY_FAIL (R101): the bank and its groups stop at once and retire at rank 2. -/
def bankSupplyFailEffect (b : Nat) (s : State) : State :=
  if s.ain.bankDown.contains b then s
  else
    let s := { s with ain.bankDown := b :: s.ain.bankDown }
    let s := retireDue (resource 1 b) 7 s
    forN 3 (fun i s => retireDue (resource 2 (3 * b + i)) 8 s) s

/-- The point value of a channel at the boundary from the samples of its tick (R117), and STALE where an enabled
channel has none. -/
def channelPoint (c : Nat) (s : State) : State :=
  let ch := s.channel c
  let clean := ch.inTick.filter fun x => !x.settling
  match ch.inTick.getLast? with
  | none =>
    if s.pointRetired c then s
    else if s.inRound c then stalePoint c s
    else
      let e := s.ownEntry c
      if e.valid || e.stale then updPoint c (fun e => { e with valid := false, stale := false }) s else s
  | some last =>
    if s.pointRetired c then s
    else
      match clean.getLast? with
      | none => ownerWrite 2 c last.value { sub := sub16 last.sub, ovr := last.ovr, settling := true } s
      | some lastClean =>
        if (s.channelCfg c).last then
          ownerWrite 2 c lastClean.value { sub := sub16 lastClean.sub, ovr := lastClean.ovr } s
        else
          let sum := match clean.map (·.value) with | [] => 0 | v :: r => r.foldl fAdd v
          ownerWrite 2 c (fDiv sum (fOfNat clean.length))
            { sub := sub16 lastClean.sub, ovr := clean.any (·.ovr) } s

/-- The channel points of a tick (R117). -/
def channelPoints (s : State) : State := forN 96 channelPoint s

/-- A new tick of the converters: samples start afresh, enables and user trims in use follow the settings (R122,
R127). -/
def newTickAnalogue (s : State) : State :=
  { s with
    ain.channels := ⟨s.ain.channels.cells.map fun x => (x.1, { x.2 with inTick := [] })⟩,
    ain.enabled := ⟨s.cfg.channels.cells.map fun x => (x.1, x.2.enabled)⟩,
    ain.trims := s.cfg.trims }

/-- The calibration check of an enabled channel (R122): one whose record fails is retired. -/
def checkCalibration (rank c : Nat) (s : State) : State :=
  if (s.channelCfg c).enabled && !s.calGood 0 c (s.channelCfg c).range then
    retireDue (resource 3 c) 4 (note rank .calibrationBad [0, c, (s.channelCfg c).range] s)
  else s

/-- The calibration checks of a start (R122). -/
def checkCalibrations (s : State) : State :=
  let s := forN 96 (checkCalibration 9) s
  forN 12 (fun g s =>
    if s.calGood 1 g 0 then s else retireDue (resource 2 g) 4 (note 9 .calibrationBad [1, g, 0] s)) s

/-! ### Commands of class 0x04 (R127) -/

/-- Whether a channel is a measured input of a loop that meets `p`. -/
def State.loopInput (s : State) (p : Wiring → Bool) (c : Nat) : Bool :=
  s.cfg.loops.cells.any fun l => p l.2.wiring && (l.2.wiring.inPoint.take l.2.wiring.ny).contains c

def checkGetChannelStatus (q : Issued) (_ : State) : Bad := firstBad [lenBad q 1, (q.u8 0 ≥ 96, .badArg)]
def runGetChannelStatus (q : Issued) (s : State) : Reply :=
  let c := q.u8 0
  let k := s.channelCfg c
  let ch := s.channel c
  say (le 1 k.range ++ leBool k.enabled ++ leBool k.last ++ leBool (s.pointRetired c) ++ le 4 ch.lastWord.toNat ++
    le 8 ch.samples ++ le 4 ch.ovr ++ le 4 ch.settling ++ le 4 ch.urgent ++ le 4 ch.excess ++ le 4 ch.parity) s

def checkGetGroupStatus (q : Issued) (_ : State) : Bad := firstBad [lenBad q 1, (q.u8 0 ≥ 12, .badArg)]
def runGetGroupStatus (q : Issued) (s : State) : Reply :=
  let g := q.u8 0
  let x := s.group g
  let mask := ((List.range 8).map fun i => if (s.channelCfg (8 * g + i)).enabled then 2 ^ i else 0).sum
  let mode := match x.mode with | .running => 0 | .inReset => 1 | .retired => 2
  let (n, w) := s.threshold (resource 2 g)
  say (le 1 mode ++ le 1 mask ++ leF x.trimGain ++ leF x.trimOff ++ leF x.tDie ++ x.lastRef.flatMap leF ++
    le 1 (s.inWindow (resource 2 g)) ++ le 1 n ++ le 2 w ++ le 4 x.watchdogs) s

/-- The first channel of a 0x04.10 that R107 forbids. -/
def promptOffends (q : Issued) (s : State) (c : Nat) : Bool :=
  s.loopInput (·.prompt) c && (q.u8 2 == 0 || q.u8 3 == 2 || q.u8 3 == 4)

def checkSetChannelConfig (q : Issued) (s : State) : Bad :=
  Bad.or (firstBad [lenBad q 5, (q.u8 0 + q.u8 1 > 96, .badArg), (q.u8 2 > 1, .badArg), (q.u8 3 > 4, .badArg),
      (q.u8 4 > 1, .badArg)])
    (firstFailing (rangeOf (q.u8 0) (q.u8 1)) (promptOffends q s) .badArg (fun i => le 1 (q.u8 0 + i)))
def runSetChannelConfig (q : Issued) (s : State) : Reply :=
  let cfg : ChannelCfg := { enabled := q.u8 2 == 1, range := q.u8 3, last := q.u8 4 == 1 }
  done (forAll (rangeOf (q.u8 0) (q.u8 1)) (fun c s =>
    let old := s.channelCfg c
    let s := { s with cfg.channels := s.cfg.channels.put c cfg, cfg.any := true }
    if cfg.enabled && (!old.enabled || old.range != cfg.range) then checkCalibration 8 c s else s) s)

def checkGetChannelConfig (q : Issued) (_ : State) : Bad :=
  firstBad [lenBad q 2, (q.u8 0 + q.u8 1 > 96, .badArg)]
def runGetChannelConfig (q : Issued) (s : State) : Reply :=
  say ((rangeOf (q.u8 0) (q.u8 1)).flatMap fun c =>
    let k := s.channelCfg c
    leBool k.enabled ++ le 1 k.range ++ leBool k.last ++ [0]) s

def checkSetEnable (q : Issued) (s : State) : Bad :=
  firstBad [lenBad q 2, (q.u8 0 ≥ 96, .badArg), (q.u8 1 > 1, .badArg),
    (q.u8 1 == 0 && s.loopInput (fun _ => true) (q.u8 0), .badArg)]
def runSetEnable (q : Issued) (s : State) : Reply :=
  let c := q.u8 0
  let old := s.channelCfg c
  let s := { s with cfg.channels := s.cfg.channels.put c { old with enabled := q.u8 1 == 1 }, cfg.any := true }
  done (if !old.enabled then checkCalibration 8 c s else s)

def checkReadCalibration (q : Issued) (_ : State) : Bad :=
  firstBad [lenBad q 3, (q.u8 0 > 1, .badArg), (q.u8 1 ≥ (if q.u8 0 = 0 then 96 else 12), .badArg),
    (q.u8 0 == 0 && q.u8 2 > 4, .badArg)]
def runReadCalibration (q : Issued) (s : State) : Reply :=
  say (s.calRecord (q.u8 0) (q.u8 1) (if q.u8 0 = 0 then q.u8 2 else 0)) s

/-- The binary32 nearest to 5 % of the span of a range (R127). -/
def userOffBound (range : Nat) : F32 := fRat ((rangeSpan range).1 * 5) ((rangeSpan range).2 * 100)

def checkSetUserTrim (q : Issued) (_ : State) : Bad :=
  firstBad [lenBad q 10, (q.u8 0 ≥ 96, .badArg), (q.u8 1 > 4, .badArg),
    (!(fLe (fRat 9 10) (q.f 2) && fLe (q.f 2) (fRat 11 10)), .badArg),
    (!fLe (fAbs (q.f 6)) (userOffBound (q.u8 1)), .badArg)]
def runSetUserTrim (q : Issued) (s : State) : Reply :=
  done { s with cfg.trims := s.cfg.trims.put (8 * q.u8 0 + q.u8 1) { gain := q.f 2, off := q.f 6 }, cfg.any := true }

/-- The checks of a threshold: 1 to 15 events within 100 ms to 60 s. -/
def thresholdBad (events ms : Nat) : Bool := events < 1 || events > 15 || ms < 100 || ms > 60000

/-- Thresholds of several resources are set (R455). -/
def setThresholds (l : List Nat) (events ms : Nat) (s : State) : State :=
  { s with cfg.thresholds := forAll l (fun r t => t.put r (events, ms)) s.cfg.thresholds, cfg.any := true }

def checkSetFaultThreshold (q : Issued) (_ : State) : Bad :=
  firstBad [lenBad q 4, (q.u8 0 ≥ 12 && q.u8 0 != 0xFF, .badArg), (thresholdBad (q.u8 1) (q.u16 2), .badArg)]
def runSetFaultThreshold (q : Issued) (s : State) : Reply :=
  let l := if q.u8 0 = 0xFF then List.range 12 else [q.u8 0]
  done (setThresholds (l.map (resource 2)) (q.u8 1) (q.u16 2) s)

/-- 0x04.31 (R125): RETIRED at once while the bank supply is down; otherwise the checks run on. -/
def checkReleaseGroup (q : Issued) (s : State) : Bad :=
  firstBad [lenBad q 1, (q.u8 0 ≥ 12, .badArg), (s.ain.bankDown.contains (q.u8 0 / 3), .retired)]
def runReleaseGroup (q : Issued) (s : State) : Reply :=
  acceptedReply (domainReset 8 6 (q.u8 0) 0x0604 (updGroup (q.u8 0) (fun x => { x with mode := .inReset }) s))

/-- The records that 0x04.31 checks (R125): the group's and those of its enabled channels. -/
def releaseRecords (g : Nat) (s : State) : Bool :=
  s.calGood 1 g 0 && (List.range 8).all fun i =>
    !(s.channelCfg (8 * g + i)).enabled || s.calGood 0 (8 * g + i) (s.channelCfg (8 * g + i)).range

/-- The reference conversions of 0x04.31 (R125), 8 of each of the four in turn: each is judged and moves the trims as R120
says. Answers whether all lay within tolerance. -/
def releaseReferences (g : Nat) : List (Nat × BitVec 18 × F32) → State → Bool × State
  | [], s => (true, s)
  | (k, code, tDie) :: l, s =>
    let good := !fLt (s.refTolerance g) (fAbs (s.refResult (s.group g) g k code).2)
    let r := releaseReferences g l (takeReference g k code tDie s)
    (good && r.1, r.2)

/-- The end of 0x04.31: the group resumes and its counter is cleared, or it stays retired. DESIGN CHOICE (notes/assumptions/25): a
group that was not retired returns to running where a check fails. -/
def releaseGroupDone (g : Nat) (results : List (BitVec 18 × F32)) (s : State) : Status × State :=
  let r := releaseReferences g (results.zipIdx.map fun x => (x.2 % 4, x.1)) s
  if !s.ain.bankDown.contains (g / 3) && releaseRecords g s && results.length = 32 && r.1 then
    let s := releaseResource 8 (resource 2 g) r.2
    let s := forN 8 (fun i s => if s.isRetired (resource 3 (8 * g + i)) then releaseResource 8 (resource 3 (8 * g + i)) s else s) s
    let s := if s.isRetired (resource 1 (g / 3)) then releaseResource 8 (resource 1 (g / 3)) s else s
    (.done, restartGroup 0 g s)
  else (.retired, updGroup g (fun x => { x with mode := if s.isRetired (resource 2 g) then .retired else .running }) r.2)

def checkClearCounters (q : Issued) (_ : State) : Bad :=
  firstBad [lenBad q 1, (q.u8 0 ≥ 12 && q.u8 0 != 0xFF, .badArg)]
def runClearCounters (q : Issued) (s : State) : Reply :=
  let l := if q.u8 0 = 0xFF then List.range 96 else rangeOf (8 * q.u8 0) 8
  done (forAll l (updChannel · fun ch =>
    { ch with samples := 0, ovr := 0, settling := 0, urgent := 0, excess := 0, parity := 0 }) s)

end Sys2Proof.Machine
end

