-- ==== Sys2Proof/Machine/Law.lean ====
section
/-! DEFINITION. The law of a loop as computed (R146 to R150, R154, R166, R181, R183): one update, in the order of
R148, on lists of binary32 values. -/

namespace Sys2Proof.Machine

/-- What one update works on. -/
structure LawIn where
  y     : List F32                          -- measured inputs
  use_  : List Bool                         -- usable inputs (R153)
  r     : List F32                          -- set-points
  q     : List F32                          -- repetitive terms
  xh    : List F32
  z     : List F32
  fb    : Option (List F32) := none         -- fallback outputs of HOLD and RAMP (R181)
  closed : Bool := true                     -- step 7 runs (not in fallback)
  off   : List (Option F32) := []           -- u_off of the outputs forced off (R154)
  track : List (Option F32) := []           -- forced values of tracked outputs (R154)
  bump  : List (Option F32) := []           -- bumpless values of the outputs with an integrator (R166, R183)
  start : Bool := false                     -- a start, on which u_a takes the bumpless value (R166)

/-- What one update gives. -/
structure LawOut where
  u  : List F32
  us : List F32
  ua : List F32
  z  : List F32
  xh : List F32
  deriving DecidableEq, Repr

/-- Elements of a coefficient block (R156). -/
def cA (b : List F32) (i j : Nat) : F32 := b.getD (8 * i + j) 0
def cB (b : List F32) (i o : Nat) : F32 := b.getD (64 + 4 * i + o) 0
def cL (b : List F32) (i m : Nat) : F32 := b.getD (96 + 4 * i + m) 0
def cC (b : List F32) (m j : Nat) : F32 := b.getD (128 + 8 * m + j) 0
def cK (b : List F32) (o j : Nat) : F32 := b.getD (160 + 8 * o + j) 0
def cF (b : List F32) (o r : Nat) : F32 := b.getD (192 + 4 * o + r) 0

/-- Elements of a parameter set (R159). -/
def pMin (p : List F32) (o : Nat) : F32 := p.getD o 0
def pMax (p : List F32) (o : Nat) : F32 := p.getD (4 + o) 0
def pKi (p : List F32) (o : Nat) : F32 := p.getD (8 + o) 0
def pKaw (p : List F32) (o : Nat) : F32 := p.getD (12 + o) 0

/-- A sum of products by fused multiply-adds over the indices below `n`, from `acc` on. -/
def fmaSum (n : Nat) (f g : Nat → F32) (acc : F32) : F32 := forN n (fun j acc => fFma (f j) (g j) acc) acc

def at0 (l : List F32) (i : Nat) : F32 := l.getD i 0

/-- Steps 1 and 2: the innovation of each input (R148). -/
def innovations (w : Wiring) (b : List F32) (x : LawIn) : List F32 :=
  (List.range w.ny).map fun i =>
    let yh := fmaSum w.nx (cC b i) (at0 x.xh) 0
    if x.use_.getD i false then fSub (at0 x.y i) yh else 0

/-- Step 3: the corrected estimate (R148). -/
def corrected (w : Wiring) (b : List F32) (x : LawIn) : List F32 :=
  let e := innovations w b x
  (List.range w.nx).map fun j => fmaSum w.ny (cL b j) (at0 e) (at0 x.xh j)

/-- Step 4 of an output, with or without its integrator (R148, R166). -/
def outputSum (w : Wiring) (b : List F32) (x : LawIn) (withZ : Bool) (o : Nat) : F32 :=
  let xc := corrected w b x
  let acc := at0 x.q o
  let acc := if withZ && o < w.ni then fAdd acc (at0 x.z o) else acc
  fmaSum w.nx (fun j => fNeg (cK b o j)) (at0 xc) (fmaSum w.nr (cF b o) (at0 x.r) acc)

/-- Step 5: saturation by comparison, without rounding (R147, R148). -/
def saturate (p : List F32) (o : Nat) (u : F32) : F32 :=
  if fLt u (pMin p o) then pMin p o else if fLt (pMax p o) u then pMax p o else u

/-- The bumpless value of an output, if its integrator takes one (R166, R183). -/
def bumpOf (w : Wiring) (x : LawIn) (o : Nat) : Option F32 :=
  if o < w.ni && x.fb.isNone then (x.bump.getD o none) else none

/-- Output o before saturation: the fallback value, the bumpless value or the sum (R166, R181, R183). -/
def rawOutput (w : Wiring) (b : List F32) (x : LawIn) (o : Nat) : F32 :=
  match x.fb with
  | some l => at0 l o
  | none =>
    match bumpOf w x o with
    | some v => v
    | none => outputSum w b x true o

/-- Step 6: the applied value (R154, R166). -/
def appliedOutput (w : Wiring) (b p : List F32) (x : LawIn) (o : Nat) : F32 :=
  match x.off.getD o none with
  | some v => v
  | none =>
    match (if x.start then bumpOf w x o else none) with
    | some v => v
    | none =>
      match x.track.getD o none with
      | some v => v
      | none => saturate p o (rawOutput w b x o)

/-- The integrator before step 7: set by a bumpless start or return (R166, R183). -/
def integratorOf (w : Wiring) (b : List F32) (x : LawIn) (o : Nat) : F32 :=
  match bumpOf w x o with
  | some v => fSub v (outputSum w b x false o)
  | none => at0 x.z o

/-- Step 7 of an integrator (R148). -/
def integrate (w : Wiring) (b p : List F32) (x : LawIn) (o : Nat) : F32 :=
  let z := integratorOf w b x o
  if !x.closed || (x.off.getD o none).isSome then z
  else
    let z := if x.use_.getD o false then fFma (pKi p o) (fSub (at0 x.r o) (at0 x.y o)) z else z
    fFma (pKaw p o) (fSub (appliedOutput w b p x o) (rawOutput w b x o)) z

/-- One update (R148); none is a numeric fault (R150). -/
def lawUpdate (w : Wiring) (b p : List F32) (x : LawIn) : Option LawOut :=
  let xc := corrected w b x
  let u := (List.range w.nu).map (rawOutput w b x)
  let us := (List.range w.nu).map fun o => saturate p o (at0 u o)
  let ua := (List.range w.nu).map (appliedOutput w b p x)
  let z := (List.range w.ni).map (integrate w b p x)
  let xh := (List.range w.nx).map fun j =>
    fmaSum w.nu (cB b j) (at0 ua) (fmaSum w.nx (cA b j) (at0 xc) 0)
  if (u ++ z ++ xh).all fFinite then some { u, us, ua, z, xh } else none

/-- Fused multiply-adds of one update (R174). -/
def updateCost (w : Wiring) : Nat := w.nx * (w.nx + w.nu + 2 * w.ny) + w.nu * (w.nx + w.nr) + 2 * w.ni

end Sys2Proof.Machine
end

