-- ==== Sys2Proof/Machine/Ramps.lean ====
section
/-! DEFINITION. Ramp generators (chapter 8): the value of a tick, holds, configuration and the ramp commands of class
0x06. -/

namespace Sys2Proof.Machine

/-- The modes in which loops run (R165): IDLE, RUN, HOLD and HANDOVER, and LOCKOUT entered from one of those. -/
def State.loopModes (s : State) : Bool :=
  match s.effMode with
  | .idle | .run | .hold | .handover => true
  | _ => false

/-- Whether loops and ramps compute (R165, R192): in those modes, while the loop engine with sequencer serves. -/
def State.computing (s : State) : Bool := s.sys.engineUp && s.loopModes

/-- A running sequence (R73, R227): RUNNING or ABORTING. -/
def Sequence.running (q : Sequence) : Bool := q.run = .running || q.run = .aborting

/-- Any of the four holds is set (R73, R227). -/
def Sequence.held (q : Sequence) : Bool := q.safetyHold || q.allHold || q.cmdHold || q.pauseHold

def State.seq (s : State) (i : Nat) : Sequence := s.sqn.seqs.getD i {}
def State.seqBound (s : State) (i : Nat) : SeqCfg := s.sqn.bound.getD i {}
def updSeq (i : Nat) (f : Sequence → Sequence) (s : State) : State := { s with sqn.seqs := s.sqn.seqs.upd i {} f }

def State.rampCfg (s : State) (r : Nat) : RampCfg := s.cfg.ramps.getD r {}
def State.ramp (s : State) (r : Nat) : Ramp := s.rmp.ramps.getD r {}
def updRamp (r : Nat) (f : Ramp → Ramp) (s : State) : State := { s with rmp.ramps := s.rmp.ramps.upd r {} f }

/-- A SEQUENCER ramp is held while the sequence that owns it is held, whatever its state (R191, R227). -/
def State.rampHeld (s : State) (r : Nat) : Bool :=
  (s.rampCfg r).source = 0 &&
    s.sqn.bound.cells.any fun x =>
      x.2.bound.contains (0, r) && (s.seq x.1).held

/-- A ramp at its start (R186, R192): at a value, at its target, at rest, with the limits of its configuration. -/
def Ramp.at (c : RampCfg) (v : F32) : Ramp :=
  { value := v, target := v, atTarget := true, rate := c.rate, accel := c.accel, lastTick := v }

/-- sign(x) as a factor: −1, 0 or +1 (R189). -/
def fSgn (x : F32) : F32 := if fZero x then 0 else if fSign x then 0xBF800000 else 0x3F800000

/-- −1, 0 and +1 of a value, for comparing signs (R189). -/
def sgn (x : F32) : Int := if fZero x then 0 else if fSign x then -1 else 1

/-- One tick of a ramp (R189) and whether it stopped at an absolute limit. -/
def rampStep (c : RampCfg) (held : Bool) (x : Ramp) : Ramp × Bool :=
  let tgt := fMin (fMax x.target c.lo) c.hi
  let clipped := !fEq tgt x.target
  let d := fSub tgt x.value
  let (value, v) : F32 × F32 :=
    if held then
      let v := if fZero x.accel then 0 else fSub x.velocity (fMul (fSgn x.velocity) (fMin (fAbs x.velocity) x.accel))
      (fAdd x.value v, v)
    else if fZero x.accel then
      if fLe (fAbs d) x.rate then (tgt, 0)
      else
        let v := fMul (fSgn d) x.rate
        (fAdd x.value v, v)
    else
      let twice := fMul 0x40000000 x.accel
      let vd := fMul (fSgn d) (fMin x.rate (fSqrt (fMul twice (fAbs d))))
      let v1 := fAdd x.velocity (fMin (fMax (fSub vd x.velocity) (fNeg x.accel)) x.accel)
      if sgn v1 = sgn d && fLe (fAbs d) (fAbs v1) && fLe (fAbs v1) twice then (tgt, 0)
      else (fAdd x.value v1, v1)
  let out := fLt value c.lo || fLt c.hi value
  let (value, v) := if out then (fMin (fMax value c.lo) c.hi, 0) else (value, v)
  let atTarget := fEq value tgt && fZero v
  ({ x with value, velocity := v, atTarget, clipped, limited := !atTarget || clipped, held, lastTick := x.value }, out)

/-- A point is usable as an input (R153, first case). -/
def Entry.usable (e : Entry) : Bool := e.forced || (e.valid && !e.stale && !e.settling && !e.retired)

/-- The ramp's output point takes its value with LIMITED, and HELD while the ramp is held (R188, R190, R191). -/
def writeRampPoint (r : Nat) (s : State) : State :=
  match (s.rampCfg r).out with
  | none => s
  | some p =>
    let x := s.ramp r
    let s := ownerWrite 5 p x.value { limited := x.limited } s
    if x.held then holdPoint p s else s

/-- A POINT ramp takes the value of its target point, while that is usable, as the target of the new tick (R187). -/
def takeTarget (r : Nat) (s : State) : State :=
  let c := s.rampCfg r
  if c.source = 2 && c.target < 8192 && (s.entry c.target).usable then
    updRamp r (fun x => { x with target := s.value c.target, noted := x.noted && x.target = s.value c.target }) s
  else s

/-- The value of the new tick of one ramp (R188), with the records of R189 and R190. -/
def tickRamp (r : Nat) (s : State) : State :=
  let c := s.rampCfg r
  let (y, stopped) := rampStep c (s.rampHeld r) (s.ramp r)
  let s := if y.clipped && !(s.ramp r).noted then note 5 .rampClipped [r, y.target.toNat] s else s
  let s := if stopped then note 5 .rampLimitStop [r, y.value.toNat] s else s
  writeRampPoint r (updRamp r (fun _ => { y with noted := y.clipped }) s)

/-- Ramps whose state can change: configured by 0x06.44, given a state since the entry to IDLE, or bound to a sequence; every other
stands at its default (R186). -/
def State.rampIds (s : State) : List Nat :=
  (List.range 1024).filter fun r =>
    s.cfg.ramps.has r || s.rmp.ramps.has r || s.sqn.bound.cells.any fun x => x.2.bound.contains (0, r)

/-- The values of the new tick of every ramp (R188): every target is taken as it stands after the resolution of the tick before, ahead
of the ramps' own writes. -/
def moveRamps (s : State) : State := forAll s.rampIds tickRamp (forAll s.rampIds takeTarget s)
def tickRamps (s : State) : State := if s.computing then moveRamps s else s

/-- Entry to IDLE from CONFIGURE: each ramp starts at its initial value (R192); one never configured at its default, which is the
same of R186. -/
def startRamps (s : State) : State :=
  { s with rmp.ramps := ⟨s.cfg.ramps.cells.map fun x => (x.1, Ramp.at x.2 x.2.init)⟩ }

/-- The first tick after a reset of the loop engine with sequencer (R192): every ramp stands at its output point's value, which
it writes again; it moves from the next tick on. -/
def restartRamps (s : State) : State :=
  let l := s.rampIds
  forAll l writeRampPoint
    { s with rmp.ramps := ⟨l.map fun r =>
        let c := s.rampCfg r
        (r, Ramp.at c (match c.out with | some p => s.value p | none => c.init))⟩ }

/-- A new target with the limits that go with it. -/
def setRampTargetTo (r : Nat) (v : F32) (s : State) : State := updRamp r (fun x => { x with target := v, noted := false }) s

/-! ### Commands (R199) -/

/-- A point that can be a ramp's output: of 320 to 1023, F32, owned by the ramp unit (R188). -/
def State.rampOutFits (s : State) (p : Nat) : Bool :=
  320 ≤ p && p ≤ 1023 && (s.ownerSet p).owner = 2 && (s.ownerSet p).format = 0

def checkSetRampConfig (q : Issued) (s : State) : Bad :=
  let r := q.u16 0
  let out := q.u16 5
  let f := fun (o : Nat) => q.f o
  firstBad [lenBad q 27, (r ≥ 1024, .badArg), (q.u8 2 > 2, .badArg),
    ([7, 11, 15, 19, 23].any (fun o => !fFinite (f o)), .badArg),
    (!fLe (f 11) (f 15), .badArg), (!(fLe (f 11) (f 7) && fLe (f 7) (f 15)), .badArg),
    (!fLt 0 (f 19), .badArg), (fLt (f 23) 0, .badArg),
    (q.u8 2 == 2 && (q.u16 3 ≥ 8192 || (s.ownerSet (q.u16 3)).format != 0), .badArg),
    (out != 0xFFFF && !s.rampOutFits out, .badArg),
    (out != 0xFFFF && s.cfg.ramps.cells.any (fun x => x.1 != r && x.2.out == some out), .badArg),
    (out != 0xFFFF && s.cfg.seqs.cells.any (fun x => x.2.bound.contains (1, out)), .badArg)]
def runSetRampConfig (q : Issued) (s : State) : Reply :=
  let c : RampCfg :=
    { source := q.u8 2, target := q.u16 3, out := if q.u16 5 = 0xFFFF then none else some (q.u16 5), init := q.f 7,
      lo := q.f 11, hi := q.f 15, rate := q.f 19, accel := q.f 23, period := some s.time.periodUs }
  done { s with cfg.ramps := s.cfg.ramps.put (q.u16 0) c, cfg.any := true }

/-- The 32 bytes of a ramp's state (R186). -/
def rampBytes (c : RampCfg) (x : Ramp) : List Byte :=
  let b := fun (y : Bool) (n : Nat) => if y then n else 0
  leF x.value ++ leF x.velocity ++ leF x.target ++
    le 1 (b x.limited 1 + b x.atTarget 2 + b x.clipped 4 + b x.held 8) ++ le 1 c.source ++ [0, 0] ++ leF x.rate ++
    leF x.accel ++ leF c.lo ++ leF c.hi

def checkGetRamp (q : Issued) (_ : State) : Bad := firstBad [lenBad q 2, (q.u16 0 ≥ 1024, .badArg)]
def runGetRamp (q : Issued) (s : State) : Reply :=
  let c := s.rampCfg (q.u16 0)
  say (le 8 s.time.tick ++ rampBytes c (s.ramp (q.u16 0)) ++ le 2 c.target ++ le 2 (c.out.getD 0xFFFF)) s

def checkSetRampTarget (q : Issued) (s : State) : Bad :=
  firstBad [lenBad q 6, (q.u16 0 ≥ 1024, .badArg), (!fFinite (q.f 2), .badArg),
    ((s.rampCfg (q.u16 0)).source != 1, .notOwner), (s.pts.rampSet.contains (q.u16 0, true), .busy)]
def runSetRampTarget (q : Issued) (s : State) : Reply :=
  done { setRampTargetTo (q.u16 0) (q.f 2) s with pts.rampSet := (q.u16 0, true) :: s.pts.rampSet }

def checkSetRampLimits (q : Issued) (s : State) : Bad :=
  firstBad [lenBad q 10, (q.u16 0 ≥ 1024, .badArg), (!fFinite (q.f 2) || !fFinite (q.f 6), .badArg),
    (!fLt 0 (q.f 2) || fLt (q.f 6) 0, .badArg), ((s.rampCfg (q.u16 0)).source == 0, .notOwner),
    (s.pts.rampSet.contains (q.u16 0, false), .busy)]
def runSetRampLimits (q : Issued) (s : State) : Reply :=
  done { updRamp (q.u16 0) (fun x => { x with rate := q.f 2, accel := q.f 6 }) s with
    pts.rampSet := (q.u16 0, false) :: s.pts.rampSet }

end Sys2Proof.Machine
end

