-- ==== Sys2Proof/Machine/Rep.lean ====
section
/-! DEFINITION. Repetitive controllers (chapter 8, R193 to R198): the repetitive term, learning, memory snapshots and
the commands that set them. -/

namespace Sys2Proof.Machine

def State.rep (s : State) (c : Nat) : Rep := s.rmp.reps.getD c {}
def State.repCfg (s : State) (c : Nat) : RepCfg := s.cfg.reps.getD c {}
def updRep (c : Nat) (f : Rep → Rep) (s : State) : State := { s with rmp.reps := s.rmp.reps.upd c {} f }

/-- Cells of a period: ceil(period_fx ÷ 65,536) (R193). -/
def RepCfg.cells (c : RepCfg) : Nat := (c.period + 65535) / 65536

def Rep.mem (x : Rep) (slot : Nat) : Tab F32 := if slot = 0 then x.mem0 else x.mem1
def Rep.cell (x : Rep) (slot i : Nat) : F32 := (x.mem slot).getD i 0
def Rep.setCell (x : Rep) (slot i : Nat) (v : F32) : Rep :=
  if slot = 0 then { x with mem0 := x.mem0.put i v } else { x with mem1 := x.mem1.put i v }

/-- The repetitive term of a slot (R195). -/
def Rep.term (x : Rep) (c : RepCfg) (slot : Nat) : F32 :=
  if x.mode = 0 || c.period = 0 then 0
  else
    let pos := (x.phase + c.lead * 65536) % c.period
    let i := pos / 65536
    let w := fOfScaled (pos % 65536 : Nat) (-16) false
    let a := x.cell slot i
    fFma w (fSub (x.cell slot ((i + 1) % c.cells)) a) a

/-- The slot that serves an output, if one does (R193). -/
def RepCfg.slotOf (c : RepCfg) (o : Nat) : Option Nat := c.outSel.findIdx? (· == o)

/-- The phase before the read of an update: reset by a rising edge of the sync point (R196). -/
def Rep.synced (x : Rep) (level : Bool) : Rep :=
  { x with phase := if level && !x.lastSync then 0 else x.phase, lastSync := level }

/-- One learning step of a slot (R195): the new cell and its index. -/
def Rep.learnCell (x : Rep) (c : RepCfg) (slot : Nat) (err : F32) : Nat × F32 :=
  let n := c.cells
  let j := ((x.phase + 0x8000) / 65536) % n
  let m := fFma (c.gamma.getD slot 0) err (x.cell slot j)
  let m := fFma (c.q1.getD slot 0) (fAdd (x.cell slot ((j + n - 1) % n)) (x.cell slot ((j + 1) % n)))
    (fMul (c.q0.getD slot 0) m)
  let lim := c.limit.getD slot 0
  (j, fMin (fMax m (fNeg lim)) lim)

/-- The number of the first freezing condition of R197 that holds, or 0. -/
def freezeCause (l : List Bool) : Nat := (l.findIdx? id).elim 0 (· + 1)

/-- Learning is cleared in a slot by a freezing condition, with a record (R197). -/
def freezeLearning (c slot cause : Nat) (s : State) : State :=
  let x := s.rep c
  let s := if x.learning.getD slot true then note 6 .learning [c, slot, 0, cause] s else s
  updRep c (fun x =>
    { x with learning := listUpd slot (fun _ => false) x.learning, cause := listUpd slot (fun _ => cause) x.cause,
             calm := listUpd slot (fun _ => 0) x.calm, bad := listUpd slot (fun _ => true) x.bad }) s

/-- LEARNING_RESUMED (R197): calm_ticks ticks without a freezing condition. -/
def resumeLearning (c slot : Nat) (s : State) : State :=
  let x := s.rep c
  if !x.learning.getD slot true && x.calm.getD slot 0 ≥ (s.repCfg c).calm then
    note 6 .learning [c, slot, 1, 0] (updRep c (fun x => { x with learning := listUpd slot (fun _ => true) x.learning }) s)
  else s

/-- The calm count of a slot at the end of its tick (R197). -/
def countCalm (c slot : Nat) (s : State) : State :=
  let s := updRep c (fun x =>
    { x with calm := listUpd slot (fun n => if x.bad.getD slot false then 0 else n + 1) x.calm,
             bad := listUpd slot (fun _ => false) x.bad }) s
  resumeLearning c slot s

/-- Cells of repetitive memory that one mirror carries, 21,504 B of 8 B each (R394); what is beyond goes with the next
(notes/assumptions/28). -/
def mirrorCells : Nat := 2688

/-- A cell of a controller's memory is written and goes to the peer (R195, R394). -/
def writeCell (c slot j : Nat) (v : F32) (s : State) : State :=
  let s := updRep c (·.setCell slot j v) s
  { s with rmp.cells := s.rmp.cells ++ [{ rep := c, slot, index := j, value := v }] }

/-- Learning of the slots after step 8 and the advance of the phase (R195). `errs` are the errors r − y of the pairs; there are none
where the update is discarded (R150): it learns nothing. -/
def repAdvance (c : Nat) (errs : Option (List F32)) (s : State) : State :=
  let cfg := s.repCfg c
  let s := forN 2 (fun slot s =>
    let x := s.rep c
    if errs.isSome && x.mode = 2 && x.learning.getD slot true && cfg.outSel.getD slot 0xFF != 0xFF && cfg.period != 0 then
      let (j, v) := x.learnCell cfg slot ((errs.getD []).getD (cfg.eSel.getD slot 0) 0)
      writeCell c slot j v (updRep c (fun x => { x with updates := listUpd slot (· + 1) x.updates }) s)
    else s) s
  updRep c (fun x => { x with phase := if cfg.period = 0 then 0 else (x.phase + 0x10000) % cfg.period }) s

/-! ### Commands (R199) -/

def repOf (q : Issued) (o : Nat) : RepCfg :=
  { period := q.u32 o, lead := q.u16 (o + 4), calm := q.u16 (o + 6), outSel := q.list (o + 8) 1 2,
    eSel := q.list (o + 10) 1 2, gamma := q.fs (o + 12) 2, q0 := q.fs (o + 20) 2, q1 := q.fs (o + 28) 2,
    limit := q.fs (o + 36) 2, sync := q.u16 (o + 44), loop := q.u16 (o + 46) }

/-- The lowest offset of a list of (offending, offset) pairs, as the answer of a configuration command (R160). -/
def badOffset (l : List (Bool × Nat)) : Bad :=
  ((l.filter (·.1)).map (·.2)).min?.map fun o => (.badArg, le 2 o)

/-- The checks of R193 with the offset of the first field that fails. -/
def repOffends (q : Issued) (rep : Nat) (s : State) : List (Bool × Nat) :=
  let c := repOf q 1
  let w := (s.cfg.loops.getD c.loop {}).wiring
  let sel := c.outSel
  let used := fun (i : Nat) => sel.getD i 0xFF != 0xFF
  let wf := fun (x : F32) => fFinite x
  [(c.period < 0x20000 || c.period > 0x10000000, 0), (c.lead ≥ c.cells, 4), (c.calm < 1, 6),
   (used 0 && sel.getD 0 0 ≥ w.nu, 8), (used 1 && sel.getD 1 0 ≥ w.nu, 9), (!used 0 && !used 1, 8),
   (used 0 && sel.getD 0 0 == sel.getD 1 0, 9),
   (decide (c.eSel.getD 0 0 ≥ min w.ny w.nr), 10), (decide (c.eSel.getD 1 0 ≥ min w.ny w.nr), 11)] ++
  ((List.range 2).map fun i => (!wf (c.gamma.getD i 0), 12 + 4 * i)) ++
  ((List.range 2).map fun i => (!wf (c.q0.getD i 0) || !fNonNeg (c.q0.getD i 0), 20 + 4 * i)) ++
  ((List.range 2).map fun i => (!wf (c.q1.getD i 0) || !fNonNeg (c.q1.getD i 0) ||
      !fLe (fAdd (c.q0.getD i 0) (fMul 0x40000000 (c.q1.getD i 0))) 0x3F800000, 28 + 4 * i)) ++
  ((List.range 2).map fun i => (!(wf (c.limit.getD i 0) && fLt 0 (c.limit.getD i 0)), 36 + 4 * i)) ++
  [(c.sync != 0xFFFF && (c.sync ≥ 8192 || (s.ownerSet c.sync).format != 3), 44),
   (c.loop ≥ 1024 || !w.repetitive || w.repIndex != rep, 46),
   ((List.range 12).any fun i => q.u8 (1 + 48 + i) != 0, 48),
   (crc32c (q.bytes 1 60) != q.u32 61, 60)]

def checkSetRepConfig (q : Issued) (s : State) : Bad :=
  Bad.or (firstBad [lenBad q 65, (q.u8 0 ≥ 128, .badArg)]) (badOffset (repOffends q (q.u8 0) s))
def runSetRepConfig (q : Issued) (s : State) : Reply :=
  done { s with cfg.reps := s.cfg.reps.put (q.u8 0) (repOf q 1), cfg.any := true }

/-- The 64 bytes of a repetitive controller's configuration (R193). -/
def repBytes (c : RepCfg) : List Byte :=
  let two := fun (l : List F32) => ((l ++ [0, 0]).take 2).flatMap leF
  let sel := fun (l : List Nat) (d : Nat) => ((l ++ [d, d]).take 2).flatMap (le 1)
  let b := le 4 c.period ++ le 2 c.lead ++ le 2 c.calm ++ sel c.outSel 0xFF ++ sel c.eSel 0 ++ two c.gamma ++ two c.q0 ++
    two c.q1 ++ two c.limit ++ le 2 c.sync ++ le 2 c.loop ++ List.replicate 12 0
  b ++ le 4 (crc32c b)

def checkGetRepStatus (q : Issued) (_ : State) : Bad := firstBad [lenBad q 1, (q.u8 0 ≥ 128, .badArg)]
def runGetRepStatus (q : Issued) (s : State) : Reply :=
  let c := s.repCfg (q.u8 0)
  let x := s.rep (q.u8 0)
  let maxAbs := fun (slot : Nat) => ((x.mem slot).cells.map fun y => fAbs y.2).foldl fMax 0
  say (repBytes c ++ le 1 x.mode ++ x.learning.flatMap leBool ++ x.cause.flatMap (le 1) ++ x.calm.flatMap (fun n => le 2 (sat16 n)) ++
    le 4 x.phase ++ x.updates.flatMap (le 8) ++ leF (maxAbs 0) ++ leF (maxAbs 1)) s

/-- A change planned for the update of tick a + 2 that answers its request there. -/
def planFor (q : Issued) (loop : Nat) (kind : PlanKind) (s : State) : State :=
  { s with lop.plans := s.lop.plans ++ [{ tick := q.tick + 2, loop, kind, mailbox := some q.ref }] }

def checkSetRepState (q : Issued) (s : State) : Bad :=
  firstBad [lenBad q 2, (q.u8 0 ≥ 128, .badArg), (q.u8 1 > 2, .badArg), (!s.cfg.reps.has (q.u8 0), .badArg)]
def runSetRepState (q : Issued) (s : State) : Reply :=
  laterReply (planFor q (s.repCfg (q.u8 0)).loop (.repState (q.u8 0) (q.u8 1)) s)

/-- The cells of a memory, in order (R194). -/
def memCells (m : Tab F32) (n : Nat) : List Byte := (m.range 0 n 0).flatMap leF

def checkSnapshotRepMemory (q : Issued) (s : State) : Bad :=
  firstBad [lenBad q 1, (q.u8 0 ≥ 128, .badArg), (!s.cfg.reps.has (q.u8 0), .badArg),
    ((freeOf 4 s.rmp.snaps.has).isNone, .busy)]
def runSnapshotRepMemory (q : Issued) (s : State) : Reply :=
  let i := (freeOf 4 s.rmp.snaps.has).getD 0
  let c := s.repCfg (q.u8 0)
  let x := s.rep (q.u8 0)
  say (le 1 i ++ le 8 s.time.tick ++ le 4 c.period ++ le 2 c.cells ++
      le 4 (crc32c (memCells x.mem0 c.cells ++ memCells x.mem1 c.cells)))
    { s with rmp.snaps := s.rmp.snaps.put i
                { rep := q.u8 0, tick := s.time.tick, period := c.period, mem0 := x.mem0, mem1 := x.mem1,
                  used := s.sys.opNs } }

/-- Cells of a read or write lie within the period (R194). -/
def cellsBad (first count n : Nat) : Bool := count < 1 || count > 1000 || first + count > n

def checkReadRepMemory (q : Issued) (s : State) : Bad :=
  match s.rmp.snaps.find (q.u8 0) with
  | none => some (.badArg, [])
  | some b => firstBad [lenBad q 6, (q.u8 1 > 1, .badArg), (cellsBad (q.u16 2) (q.u16 4) ((b.period + 65535) / 65536), .badArg)]
def runReadRepMemory (q : Issued) (s : State) : Reply :=
  match s.rmp.snaps.find (q.u8 0) with
  | none => done s
  | some b =>
    say (((if q.u8 1 = 0 then b.mem0 else b.mem1).range (q.u16 2) (q.u16 4) 0).flatMap leF)
      { s with rmp.snaps := s.rmp.snaps.put (q.u8 0) { b with used := s.sys.opNs } }

def checkWriteRepMemory (q : Issued) (s : State) : Bad :=
  firstBad [(q.len < 6, .badArg), lenBad q (6 + 4 * q.u16 4), (q.u8 0 ≥ 128, .badArg), (q.u8 1 > 1, .badArg),
    (cellsBad (q.u16 2) (q.u16 4) (s.repCfg (q.u8 0)).cells, .badArg)]
def runWriteRepMemory (q : Issued) (s : State) : Reply :=
  let l := q.fs 6 (q.u16 4)
  done (updRep (q.u8 0) (fun x =>
    if q.u8 1 = 0 then { x with stage0 := x.stage0.putList (q.u16 2) l }
    else { x with stage1 := x.stage1.putList (q.u16 2) l }) s)

/-- A staged cell is finite and within m_limit (R198). -/
def stagedFits (c : RepCfg) (slot : Nat) (m : Tab F32) : Bool :=
  m.cells.all fun x => fFinite x.2 && fLe (fAbs x.2) (c.limit.getD slot 0)

def checkCommitRepMemory (q : Issued) (s : State) : Bad :=
  let c := s.repCfg (q.u8 0)
  let x := s.rep (q.u8 0)
  firstBad [lenBad q 9, (q.u8 0 ≥ 128, .badArg), (q.u32 1 != c.period, .badArg),
    (crc32c ((x.stage0.cells ++ x.stage1.cells).flatMap fun y => leF y.2) != q.u32 5, .badArg),
    (!stagedFits c 0 x.stage0 || !stagedFits c 1 x.stage1, .badArg), (x.mode == 2, .busy)]
/-- 0x06.53 (R198): the cells checked are those that replace the memory; what 0x06.52 writes from here on is staged anew. -/
def runCommitRepMemory (q : Issued) (s : State) : Reply :=
  let c := q.u8 0
  let x := s.rep c
  laterReply (planFor q (s.repCfg c).loop (.repCommit c x.stage0.cells x.stage1.cells)
    (updRep c (fun x => { x with stage0 := {}, stage1 := {} }) s))

def checkClearRepMemory (q : Issued) (s : State) : Bad :=
  firstBad [lenBad q 1, (q.u8 0 ≥ 128, .badArg), ((s.rep (q.u8 0)).mode == 2, .busy)]
def runClearRepMemory (q : Issued) (s : State) : Reply :=
  laterReply (planFor q (s.repCfg (q.u8 0)).loop (.repClear (q.u8 0)) s)

def checkFreeRepSnapshot (q : Issued) (s : State) : Bad :=
  firstBad [lenBad q 1, (!s.rmp.snaps.has (q.u8 0), .badArg)]
def runFreeRepSnapshot (q : Issued) (s : State) : Reply :=
  done { s with rmp.snaps := s.rmp.snaps.del (q.u8 0) }

/-- A planned change of a repetitive controller takes effect (R196, R198, R199). -/
def repPlan (k : PlanKind) (s : State) : State :=
  match k with
  | .repState c m => updRep c (fun x => { x with phase := if x.mode = 0 && m != 0 then 0 else x.phase, mode := m }) s
  | .repClear c =>
    let gone := fun (slot : Nat) => ((s.rep c).mem slot).cells.map fun y => ({ rep := c, slot, index := y.1, value := 0 } : MirrorCell)
    updRep c (fun x => { x with mem0 := {}, mem1 := {} }) { s with rmp.cells := s.rmp.cells ++ gone 0 ++ gone 1 }
  | .repCommit c cells0 cells1 =>
    forAll cells1 (fun y s => writeCell c 1 y.1 y.2 s) (forAll cells0 (fun y s => writeCell c 0 y.1 y.2 s) s)
  | _ => s

end Sys2Proof.Machine
end

