-- ==== Sys2Proof/Machine/Loops.lean ====
section
/-! DEFINITION. The loop engine (chapters 7 and 8): updates of period and prompt loops, supervision and fallback, swaps,
start and stop, and the loop commands of class 0x06. -/

namespace Sys2Proof.Machine

def State.loopCfg (s : State) (l : Nat) : LoopCfg := s.cfg.loops.getD l {}
def State.wiring (s : State) (l : Nat) : Wiring := (s.loopCfg l).wiring
def State.loop (s : State) (l : Nat) : Loop := s.lop.loops.getD l {}
def updLoop (l : Nat) (f : Loop → Loop) (s : State) : State := { s with lop.loops := s.lop.loops.upd l {} f }
def updLoopCfg (l : Nat) (f : LoopCfg → LoopCfg) (s : State) : State :=
  { s with cfg.loops := s.cfg.loops.upd l {} f, cfg.any := true }

def LoopCfg.bank (c : LoopCfg) (i : Nat) : Bank := if i = 0 then c.bank0 else c.bank1
def LoopCfg.setBank (c : LoopCfg) (i : Nat) (b : Bank) : LoopCfg := if i = 0 then { c with bank0 := b } else { c with bank1 := b }

def loopResource (l : Nat) : Nat := resource 8 l

/-- Loops with wiring, in index order. -/
def State.wired (s : State) : List Nat := (s.cfg.loops.cells.filter fun x => x.2.wiring.nx > 0).map (·.1)

def RunState.code : RunState → Nat
  | .off => 0 | .closed => 1 | .hold => 2 | .ramp => 3 | .openLoop => 4
def RunState.ofCode : Nat → RunState
  | 2 => .hold | 3 => .ramp | 4 => .openLoop | 1 => .closed | _ => .off

/-- A fallback mode (R181). -/
def RunState.fallback (r : RunState) : Bool := r = .hold || r = .ramp || r = .openLoop

/-- Four bits from a test of an index. -/
def mask4 (f : Nat → Bool) : BitVec 4 :=
  BitVec.ofNat 4 ((List.range 4).map fun i => if f i then 2 ^ i else 0).sum

/-! ### Inputs, set-points and stages -/

/-- The value of a set-point source for the current tick (R152): a ramp, or a point. -/
def State.setPoint (s : State) (src : Nat) : F32 := if src ≥ 0x8000 then s.value (src % 8192) else (s.ramp src).value

/-- Whether a set-point carries LIMITED (R190, R197). -/
def State.setPointLimited (s : State) (src : Nat) : Bool :=
  if src ≥ 0x8000 then (s.entry (src % 8192)).limited else (s.ramp src).limited

/-- The stage a point commands (R80, R200). -/
def stageOfPoint (p : Nat) : Option StageId :=
  if h : 144 ≤ p ∧ p < 192 then some (.currentLoop ⟨p - 144, by omega⟩)
  else if h : 192 ≤ p ∧ p < 208 then some (.fastOutput ⟨p - 192, by omega⟩)
  else if h : 208 ≤ p ∧ p < 272 then some (.digital ⟨p - 208, by omega⟩)
  else none

/-- A stage forced off by the safety island (R154, R203). -/
def State.stageOff (s : State) (x : StageId) : Bool :=
  match x with
  | .currentLoop i => (s.stg.cl.getD i {}).safetyOff
  | .fastOutput j => (s.stg.fao.getD j {}).safetyOff
  | .digital d => (s.stg.dio.getD d {}).safetyOff

def State.pointOff (s : State) (p : Nat) : Bool := (stageOfPoint p).any s.stageOff

/-! ### Supervision (R177 to R184) -/

/-- The counts of one input for its tick (R178, R179). -/
def superviseInput (l i : Nat) (missing : Bool) (s : State) : State :=
  let p := (s.wiring l).inPoint.getD i 0
  let v := s.value p
  let forced := (s.entry p).forced
  let x := s.loop l
  let m := if forced || !missing then 0 else x.missing.getD i 0 + 1
  let f := if forced then 0
    else if missing then x.freeze.getD i 0
    else if x.lastY.getD i none = some v then x.freeze.getD i 0 + 1 else 0
  let lost := m ≥ x.sup.lossTicks.getD i 3
  let frozen := f ≥ x.sup.freezeTicks.getD i 1000
  let s := if lost && !x.lost.getLsbD i then note 6 .inputLost [l, i] s else s
  let s := if frozen && !x.frozen.getLsbD i then note 6 .inputFrozen [l, i] s else s
  let s := if x.lost.getLsbD i && !lost then note 6 .inputEnd [l, i, 0] s else s
  let s := if x.frozen.getLsbD i && !frozen then note 6 .inputEnd [l, i, 1] s else s
  let bit : BitVec 4 := BitVec.ofNat 4 (2 ^ i)
  let set := fun (b : BitVec 4) (on : Bool) => if on then b ||| bit else b &&& ~~~bit
  updLoop l (fun x =>
    { x with missing := listUpd i (fun _ => m) x.missing, freeze := listUpd i (fun _ => f) x.freeze,
             lastY := listUpd i (fun _ => some v) x.lastY, lost := set x.lost lost, frozen := set x.frozen frozen }) s

/-- A loop enters a fallback mode (R180, R182, R184): fb_value takes the last applied outputs. -/
def enterFallbackMode (l mode : Nat) (byCommand : Bool) (s : State) : State :=
  let s := note 6 .fallbackEnter [l, mode] s
  updLoop l (fun x =>
    { x with run := RunState.ofCode mode, fbValue := if mode = 4 then x.fbValue else x.ua, openFor := 0, byCommand,
             entries := x.entries + 1, since := s.time.tick, fallSince := if x.run.fallback then x.fallSince else s.time.tick, first := if x.first = .start then x.first else .ordinary }) s

/-- A loop returns to CLOSED bumplessly (R183). -/
def returnToClosed (l : Nat) (s : State) : State :=
  let x := s.loop l
  let s := note 6 .returnClosed [l, s.time.tick - x.fallSince] s
  updLoop l (fun x => { x with run := .closed, first := .bumplessReturn, byCommand := false, since := s.time.tick }) s

/-- OPEN has lasted open_ticks (R182): the loop enters after_open. -/
def leaveOpen (l : Nat) (s : State) : State :=
  let s := note 6 .afterOpen [l] s
  updLoop l (fun x => { x with run := RunState.ofCode x.sup.afterOpen, fbValue := x.ua, since := s.time.tick }) s

/-- A required input is lost or frozen (R180). -/
def Loop.unhealthy (x : Loop) : Bool := (x.sup.required &&& ((x.lost ||| x.frozen).setWidth 8)) != 0

/-- The return under AUTO is due (R183, R184). -/
def Loop.returnDue (x : Loop) : Bool :=
  x.run.fallback && !x.byCommand && !x.sup.onCommand && x.returns ≥ x.sup.returnTicks

/-- The run state of a loop for its tick, from its counts (R180 to R184); a return precedes the end of OPEN (R185). -/
def superviseRun (l : Nat) (s : State) : State :=
  let s := updLoop l (fun x => { x with returns := if x.unhealthy then 0 else x.returns + 1 }) s
  let x := s.loop l
  if x.run = .closed then
    if x.unhealthy then enterFallbackMode l x.sup.fallback false s else s
  else if x.returnDue then returnToClosed l s
  else if x.run = .openLoop && x.openFor ≥ x.sup.openTicks then leaveOpen l s
  else s

/-- Supervision of a loop for its tick: each input, then the run state. -/
def supervise (l : Nat) (missing : Nat → Bool) (s : State) : State :=
  superviseRun l (forN (s.wiring l).ny (fun i s => superviseInput l i (missing i) s) s)

/-! ### One update -/

/-- fb_value of HOLD and RAMP for this update (R181): in RAMP it moves towards preset by at most fb_step. The stay in OPEN counts in
base ticks (R178, R182): a period loop's here, a prompt loop's at the end of its tick. -/
def stepFallback (prompt : Bool) (x : Loop) : Loop :=
  if x.run = .ramp then
    let move := fun (o : Nat) =>
      let v := at0 x.fbValue o
      let st := at0 x.sup.fbStep o
      fAdd v (fMin (fMax (fSub (at0 x.sup.preset o) v) (fNeg st)) st)
    { x with fbValue := (List.range 4).map move }
  else if x.run = .openLoop && !prompt then { x with openFor := x.openFor + 1 }
  else x

/-- The repetitive controller that serves a loop, if one is configured for it (R193). -/
def State.repOfLoop (s : State) (l : Nat) : Option Nat :=
  let w := s.wiring l
  if w.repetitive && s.cfg.reps.has w.repIndex && (s.repCfg w.repIndex).loop = l then some w.repIndex else none

/-- The repetitive terms of a loop's outputs, with the phase synchronised (R195, R196). -/
def repTerms (l : Nat) (s : State) : State × List F32 :=
  match s.repOfLoop l with
  | none => (s, [])
  | some c =>
    let cfg := s.repCfg c
    let level := cfg.sync < 8192 && s.value cfg.sync != 0
    let s := updRep c (·.synced level) s
    (s, (List.range (s.wiring l).nu).map fun o =>
      match cfg.slotOf o with
      | some slot => (s.rep c).term cfg slot
      | none => 0)

/-- Learning and phase of a loop's repetitive controller after its update (R195 to R197). An update that is discarded (R150) counts for
the conditions and the phase, and learns nothing (notes/assumptions/32). -/
def repAfter (l : Nat) (discarded : Bool) (use_ : List Bool) (r y : List F32) (s : State) : State :=
  match s.repOfLoop l with
  | none => s
  | some c =>
    let cfg := s.repCfg c
    let w := s.wiring l
    let x := s.loop l
    let unusable := (use_.any (!·)) || x.lost != 0 || x.frozen != 0
    let moved := x.lastSp != [] && x.lastSp != r
    let limited := (w.spSource.take w.nr).any s.setPointLimited
    let s := forN 2 (fun slot s =>
      let o := cfg.outSel.getD slot 0xFF
      if o = 0xFF then s
      else
        let p := w.outPoint.getD o 0
        let out := x.saturated.getLsbD o || (s.entry p).forced || s.pointOff p
        match freezeCause [x.run != .closed || unusable, out, moved, limited] with
        | 0 => s
        | k => freezeLearning c slot k s) s
    let s := if w.prompt then s else forN 2 (fun slot s => countCalm c slot s) s
    let errs := (List.range (min w.ny w.nr)).map fun j => fSub (at0 r j) (at0 y j)
    repAdvance c (if discarded then none else some errs) s

/-- One update of a loop (R146 to R150, R153, R154): answers the point writes it makes. -/
def updateLoop (l : Nat) (y : List F32) (usable : List Bool) (r : List F32) (s : State) : State × List (Nat × F32) :=
  let w := s.wiring l
  let bank := (s.loopCfg l).bank (s.loopCfg l).active
  let s := updLoop l (stepFallback w.prompt) s
  let (s, q) := repTerms l s
  let x := s.loop l
  let use_ := usable.zipIdx.map fun u => u.1 && !x.lost.getLsbD u.2 && !x.frozen.getLsbD u.2
  let outs := w.outPoint.take w.nu
  let bump : List (Option F32) := match x.first with
    | .ordinary => []
    | .start => outs.map fun p => some (s.value p)
    | .bumplessReturn => x.ua.map some
  let inp : LawIn :=
    { y, use_, r, q, xh := x.xh, z := x.z,
      fb := if x.run = .hold || x.run = .ramp then some x.fbValue else none,
      closed := x.run = .closed,
      off := outs.zipIdx.map fun p => if s.pointOff p.1 then some (at0 w.uOff p.2) else none,
      track := outs.map fun p => if w.trackForce && (s.entry p).forced then some (s.value p) else none,
      bump, start := x.first = .start }
  let marks := fun (x : Loop) => { x with unusable := mask4 (fun i => i < w.ny && !use_.getD i false) }
  match lawUpdate w bank.block bank.params inp with
  | none =>
    let s := repAfter l true use_ r y (updLoop l (fun x => { marks x with numeric := true }) s)
    let s := note 6 .numericFault [l] (updLoop l (fun x => { x with lastSp := r }) { s with lop.numeric := s.lop.numeric + 1 })
    (countLateFault (loopResource l) s, List.zip outs x.ua)
  | some o =>
    let s := updLoop l (fun x =>
      { marks x with u := o.u, us := o.us, ua := o.ua, z := o.z, xh := o.xh, numeric := false, first := .ordinary,
                     saturated := mask4 (fun i => at0 o.u i != at0 o.us i) }) s
    let s := repAfter l false use_ r y s
    let keep := fun (x : Loop) => y.zipIdx.map fun v => if use_.getD v.2 false then v.1 else at0 x.lastUsable v.2
    (updLoop l (fun x => { x with lastSp := r, lastUsable := keep x }) s, List.zip outs o.us)

/-! ### Start, stop, swap and plans (R165 to R172, R183, R184) -/

/-- A loop starts bumplessly from its start state, CLOSED with every count at zero (R166, R184). -/
def startLoop (l : Nat) (s : State) : State :=
  if (s.wiring l).nx = 0 || s.isRetired (loopResource l) then s
  else
    let c := s.loopCfg l
    updLoop l (fun x =>
      { x with run := .closed, first := .start, xh := c.start, z := [], numeric := false, missing := [0, 0, 0, 0],
               freeze := [0, 0, 0, 0], lastY := [none, none, none, none], lost := 0, frozen := 0, returns := 0,
               openFor := 0, byCommand := false, since := s.time.tick, lastSp := [], late := 0, lateNow := 0,
               fastDone := true }) s

/-- A loop stops (R167); a stop ends any fallback (R184). -/
def stopLoop (l : Nat) (s : State) : State :=
  updLoop l (fun x =>
    { x with run := .off, first := .ordinary, missing := [0, 0, 0, 0], freeze := [0, 0, 0, 0], lost := 0, frozen := 0,
             returns := 0, openFor := 0, byCommand := false, since := s.time.tick, late := 0, lateNow := 0 }) s

/-- A swap of a loop takes effect (R172): the inactive bank becomes active, which is a setting (R488). -/
def swapLoop (l : Nat) (s : State) : State :=
  let s := updLoopCfg l (fun c => { c with active := 1 - c.active }) s
  note 6 .swapped [l, (s.loopCfg l).active] (updLoop l (fun x => { x with swap := none }) s)

/-- A plan of a loop takes effect. -/
def applyPlan (p : Plan) (s : State) : State :=
  match p.kind with
  | .start => startLoop p.loop s
  | .stop => stopLoop p.loop s
  | .supervision v => updLoop p.loop (fun x => { x with sup := v }) s
  | .returnClosed => if (s.loop p.loop).run.fallback then returnToClosed p.loop s else s
  | .fallback m => if (s.loop p.loop).run = .off then s else enterFallbackMode p.loop m true s
  | k => repPlan k s

/-- A plan for a loop's supervision part, which 0x06.10 overtakes (R177). -/
def PlanKind.supervises : PlanKind → Bool
  | .supervision _ => true
  | _ => false

/-- A plan that only a computing loop can carry out. -/
def PlanKind.runs : PlanKind → Bool
  | .start | .returnClosed | .fallback _ => true
  | _ => false

/-- Whether a plan concerns a loop or its repetitive controller. -/
def Plan.ofLoop (p : Plan) : Bool :=
  match p.kind with
  | .trigger _ _ | .arm _ => false
  | _ => true

/-- The plans of prompt loops act from fast tick 0 of their tick, before its resolution answers them (R162, R166). -/
def promptPlans (s : State) : State :=
  let due := fun (p : Plan) => p.ofLoop && p.tick ≤ s.time.tick && (s.wiring p.loop).prompt
  let l := s.lop.plans
  let s := { s with lop.plans := l.map fun p => if due p then { p with kind := .answer } else p }
  let s := forAll (l.filter due) applyPlan s
  forAll s.wired (fun l s =>
    match (s.loop l).swap with
    | some (t, r) =>
      if (s.wiring l).prompt && t ≤ s.time.tick then
        { swapLoop l s with lop.plans := s.lop.plans ++ [{ tick := t, loop := l, kind := .swapDone, mailbox := r }] }
      else s
    | none => s) s

/-- The plans of a tick or before it take effect (R166, R177, R183, R184, R196, R198). -/
def tickPlans (t : Nat) (s : State) : State :=
  let due := fun (p : Plan) => p.ofLoop && p.tick ≤ t
  let l := s.lop.plans.filter due
  let s := { s with lop.plans := s.lop.plans.filter fun p => !due p }
  forAll l applyPlan s

/-- The plans carried out answer their requests; the swaps of prompt loops do so with the release (R172). -/
def answerPlans (l : List Plan) (s : State) : State :=
  forAll l (fun p s =>
    match p.mailbox with
    | some r => if p.kind = .swapDone then { s with lop.doneDue := s.lop.doneDue ++ [r] } else completeTagged r .done [] s
    | none => s) s

/-- The swaps due at the tick under resolution; each ends DONE with the release of its updates (R172). -/
def tickSwaps (s : State) : State :=
  forAll s.wired (fun l s =>
    match (s.loop l).swap with
    | some (t, r) =>
      if t ≤ s.time.tick then { swapLoop l s with lop.doneDue := s.lop.doneDue ++ r.toList } else s
    | none => s) s

/-- The swaps whose updates have been released end DONE (R172). -/
def answerSwaps (s : State) : State :=
  forAll s.lop.doneDue (fun r s => completeTagged r .done [] s) { s with lop.doneDue := [] }

/-! ### Period class (R152, R161) -/

/-- A loop that computes: started and not retired (R167, R169). -/
def State.loopRuns (s : State) (l : Nat) : Bool := (s.loop l).run != .off && !s.isRetired (loopResource l)

/-- The update of one period loop for the tick under resolution, with its supervision; its writes are made after all
loops have been computed (R152). -/
def periodLoop (l : Nat) (acc : State × List (Nat × F32)) : State × List (Nat × F32) :=
  let s := acc.1
  let w := s.wiring l
  if !s.loopRuns l then acc
  else if w.prompt then
    let x := s.loop l
    let s := updLoop l (fun x => { x with openFor := if x.run = .openLoop then x.openFor + 1 else x.openFor }) s
    let s := supervise l (fun i => !x.usedInTick.getLsbD i) s
    let s := match s.repOfLoop l with
      | some c => forN 2 (fun slot s => countCalm c slot s) s
      | none => s
    (updLoop l (fun x => { x with late := sat8 x.lateNow, lateNow := 0, usedInTick := 0 }) s, acc.2)
  else
    let ins := w.inPoint.take w.ny
    let usable := ins.map fun p => (s.entry p).usable
    let s := supervise l (fun i => !usable.getD i false) s
    let r := updateLoop l (ins.map s.value) usable ((w.spSource.take w.nr).map s.setPoint) s
    (r.1, acc.2 ++ r.2)

/-- Loops of the standby compute as those of the active unit (R170). -/
def State.loopsCompute (s : State) : Bool := s.computing || (s.effMode = .standby && s.sys.engineUp)

/-- The sub-tick time of a period release in ns (R161). -/
def releaseNs : Nat := 10000

/-- The updates of all period loops of the tick and their output writes, for one release (R161): the points as they stood are kept
until it is done. -/
def periodUpdates (s : State) : State :=
  let (s, writes) := forAll s.wired periodLoop (s, [])
  let s := { s with lop.unreleased := writes.map fun x => (x.1, s.ownEntry x.1) }
  let s := forAll writes (fun x s => blockWrite 6 1 x.1 x.2 { sub := sub16 releaseNs } s) s
  let ns := Config.completionNs s.time.tick
  { s with lop.lastNs := ns, lop.maxNs := max s.lop.maxNs ns }

/-- Rank 6 (R42, R161): plans and swaps of the tick, in every mode, and the updates where loops compute. -/
def loopOutputs (s : State) : State :=
  if !s.sys.engineUp then s
  else
    let s := answerSwaps { s with lop.unreleased := [] }
    let due := s.lop.plans.filter fun p => p.ofLoop && p.tick ≤ s.time.tick
    let s := tickSwaps (tickPlans s.time.tick s)
    answerPlans due (if s.loopsCompute then periodUpdates s else s)

/-- A release that is not done leaves every output point as it stood before the updates (R161). -/
def withdrawRelease (s : State) : State :=
  forAll s.lop.unreleased (fun x s => updPoint x.1 (fun _ => x.2) s) { s with lop.unreleased := [], lop.doneDue := [] }

/-! ### Prompt class (R162) -/

/-- The set-points of a prompt loop for the tick that begins (R162): points as they stand at the boundary, ramps at
their value of the tick before. -/
def latchSetPoints (s : State) : State :=
  forAll s.wired (fun l s =>
    let w := s.wiring l
    if w.prompt && s.loopRuns l then
      updLoop l (fun x => { x with sp := (w.spSource.take w.nr).map s.setPoint }) s
    else s) s

/-- The inputs of a prompt loop that wait for a sample: not forced (R89). -/
def State.awaited (s : State) (l : Nat) : List Nat :=
  ((s.wiring l).inPoint.take (s.wiring l).ny).filter fun p => !(s.entry p).forced

/-- The time from the start of a prompt loop's update to the command of an output, 131 ns to 350 ns (R163): which, is the engine's own. -/
def applyLatency (l p t : Nat) : Nat := 131 + Config.unstated 81 [l, p, t] % 220

/-- The entry of a point that a prompt loop writes, as it stood before the loop's first write of the tick (R86). -/
def keepBefore (p : Nat) (s : State) : State :=
  if s.pts.before.has p then s else { s with pts.before := s.pts.before.put p (s.ownEntry p) }

/-- A prompt loop writes an output at its time of application (R162), in the tick's `sub` nanosecond or later. -/
def promptWrite (l sub : Nat) (v : Nat × F32) (s : State) : State :=
  blockWrite 6 1 v.1 v.2 { sub := sub16 (sub + applyLatency l v.1 (s.toolNs + sub)) } (keepBefore v.1 s)

/-- The update of a prompt loop in its fast tick, begun at `sub` ns of the tick: inputs that have not arrived, and those whose point
or sample is not usable, are unusable (R153, R162). Its outputs are written at once (R86). -/
def promptUpdate (l sub : Nat) (s : State) : State :=
  let w := s.wiring l
  let x := s.loop l
  let ins := w.inPoint.take w.ny
  let arrived := fun (p : Nat) => x.arrived.find? fun a => a.1 == p
  let y := ins.map fun p => if (s.entry p).forced then s.value p else ((arrived p).map (·.2.1)).getD 0
  let usable := ins.map fun p => (s.entry p).forced ||
    (match arrived p with | some a => !a.2.2 && (s.entry p).usable && !s.pointRetired p | none => false)
  let late := ins.any fun p => !(s.entry p).forced && (arrived p).isNone
  let s := updLoop l (fun x =>
    { x with fastDone := true, lateNow := x.lateNow + (if late then 1 else 0),
             usedInTick := x.usedInTick ||| mask4 (fun i => usable.getD i false) }) s
  let (s, writes) := updateLoop l y usable x.sp s
  forAll writes (promptWrite l sub) s

/-- Prompt loops that run. -/
def State.promptRunning (s : State) : List Nat :=
  if s.computing then s.wired.filter fun l => (s.wiring l).prompt && s.loopRuns l else []

/-- FAST_TICK (R105, R162): each prompt loop issues its urgent requests; one whose inputs are all forced updates at
once. -/
def fastTickEffect (j : Nat) (s : State) : State :=
  let sub := j * s.periodNs / s.time.fastN
  let s := { s with lop.fast := j, ain.groups := ⟨s.ain.groups.cells.map fun g => (g.1, { g.2 with asked := [] })⟩ }
  let run := s.promptRunning
  let s := forAll run (fun l s => updLoop l (fun x => { x with arrived := [], fastDone := false }) s) s
  let s := forAll run (fun l s => forAll (s.awaited l) (requestUrgent (s.toolNs + sub)) s) s
  forAll run (fun l s => if (s.awaited l).isEmpty then promptUpdate l sub s else s) s

/-- A sample reaches the prompt loops that wait for its channel (R106, R162): the urgent one where the group serves the
request, otherwise the channel's next regular sample. The last input to arrive starts the update. -/
def promptSample (c : Nat) (s : State) : State :=
  match (s.channel c).inTick.getLast? with
  | none => s
  | some x =>
    if !x.urgent && (s.group (c / 8)).servesUrgent (c % 8) then s
    else
      forAll s.promptRunning (fun l s =>
        let lp := s.loop l
        if lp.fastDone || !(s.awaited l).contains c || (lp.arrived.any fun a => a.1 == c) then s
        else
          let s := updLoop l (fun y => { y with arrived := y.arrived ++ [(c, x.value, x.settling)] }) s
          if (s.awaited l).all fun p => (s.loop l).arrived.any fun a => a.1 == p then promptUpdate l x.sub s else s) s

/-- PROMPT_DEADLINE (R162): a loop that still waits updates with its missing inputs unusable. -/
def promptDeadlineEffect (l j : Nat) (s : State) : State :=
  if s.promptRunning.contains l && !(s.loop l).fastDone then
    promptUpdate l ((j + 1) * s.periodNs / s.time.fastN - 500) s
  else s

/-! ### Configuration (R151, R155, R158 to R160) -/

/-- The wiring in a request at an offset (R158). -/
def wiringOf (q : Issued) (o : Nat) : Wiring :=
  { nx := q.u8 o, ny := q.u8 (o + 1), nu := q.u8 (o + 2), nr := q.u8 (o + 3), ni := q.u8 (o + 4),
    prompt := q.u8 (o + 5) == 1, trackForce := (q.u8 (o + 6)).testBit 0, autoStart := (q.u8 (o + 6)).testBit 1,
    repetitive := (q.u8 (o + 6)).testBit 2, repIndex := q.u8 (o + 7), inPoint := q.list (o + 8) 2 4,
    spSource := q.list (o + 16) 2 4, outPoint := q.list (o + 24) 2 4, uOff := q.fs (o + 32) 4, swapGroup := q.u8 (o + 48) }

/-- The 64 bytes of a wiring (R158). -/
def wiringBytes (w : Wiring) : List Byte :=
  let b := fun (x : Bool) (n : Nat) => if x then n else 0
  let four := fun (l : List Nat) => ((l ++ [0, 0, 0, 0]).take 4).flatMap (le 2)
  let body := le 1 w.nx ++ le 1 w.ny ++ le 1 w.nu ++ le 1 w.nr ++ le 1 w.ni ++ leBool w.prompt ++
    le 1 (b w.trackForce 1 + b w.autoStart 2 + b w.repetitive 4) ++ le 1 w.repIndex ++ four w.inPoint ++
    four w.spSource ++ four w.outPoint ++ ((w.uOff ++ [0, 0, 0, 0]).take 4).flatMap leF ++ le 1 w.swapGroup ++
    List.replicate 11 0
  body ++ le 4 (crc32c body)

/-- A field port input or output point. -/
def isFieldIn (p : Nat) : Bool := 1024 ≤ p && p < 7168 && (p - 1024) % 128 < 64
def isFieldOut (p : Nat) : Bool := 1024 ≤ p && p < 7168 && (p - 1024) % 128 ≥ 64

/-- A point a measured input may name (R151, R155). -/
def State.inputFits (s : State) (prompt : Bool) (p : Nat) : Bool :=
  if prompt then
    p < 96 && (s.channelCfg p).enabled && (s.channelCfg p).range != 2 && (s.channelCfg p).range != 4
  else
    (s.ownerSet p).format = 0 && (p < 144 || (320 ≤ p && p < 1024) || isFieldIn p || (7168 ≤ p && p < 8192))

/-- A source a set-point may name (R151, R158). -/
def State.spFits (s : State) (src : Nat) : Bool :=
  if src ≥ 0x8000 then src - 0x8000 < 8192 && (s.ownerSet (src % 8192)).format = 0 else src < 1024

/-- A point an output may name (R151, R155). -/
def State.outputFits (s : State) (prompt : Bool) (l p : Nat) : Bool :=
  (s.ownerSet p).owner = 1 &&
    ((144 ≤ p && p < 192 && (s.cfg.cl.getD (p - 144) {}).mode == 0) || (192 ≤ p && p < 208) || (320 ≤ p && p < 1024) ||
      (!prompt && isFieldOut p)) &&
    !(s.cfg.loops.cells.any fun x => x.1 != l && (x.2.wiring.outPoint.take x.2.wiring.nu).contains p)

/-- The checks of a wiring with the offset of each field (R151, R155, R158). -/
def wiringOffends (q : Issued) (l : Nat) (s : State) : List (Bool × Nat) :=
  let w := wiringOf q 2
  let outs := w.outPoint.take w.nu
  let others := (s.cfg.loops.cells.filter fun x => x.1 != l).map (·.2.wiring)
  let prompts := (others.filter (·.prompt)).length
  [(w.nx < 1 || w.nx > 8, 0), (w.ny < 1 || w.ny > 4, 1), (w.nu < 1 || w.nu > 4, 2), (w.nr > 4, 3),
   (w.ni > min w.ny (min w.nu w.nr), 4), (q.u8 7 > 1 || (w.prompt && prompts ≥ 64), 5), (q.u8 8 > 7, 6),
   (if w.repetitive then w.repIndex > 127 || others.any (fun x => x.repetitive && x.repIndex == w.repIndex) else w.repIndex != 0, 7)] ++
  ((List.range 4).map fun i =>
    (let p := w.inPoint.getD i 0; if i < w.ny then !s.inputFits w.prompt p else p != 0, 8 + 2 * i)) ++
  ((List.range 4).map fun i =>
    (let p := w.spSource.getD i 0; if i < w.nr then !s.spFits p else p != 0, 16 + 2 * i)) ++
  ((List.range 4).map fun i =>
    (let p := w.outPoint.getD i 0
     if i < w.nu then !s.outputFits w.prompt l p || (outs.take i).contains p else p != 0, 24 + 2 * i)) ++
  ((List.range 4).map fun i => (i ≥ w.nu && at0 w.uOff i != 0, 32 + 4 * i)) ++
  [(w.swapGroup > 63 && w.swapGroup != 0xFF, 48), ((List.range 11).any fun i => q.u8 (51 + i) != 0, 49),
   (crc32c (q.bytes 2 60) != q.u32 62, 60)]

def checkGetLoopConfig (q : Issued) (_ : State) : Bad := firstBad [lenBad q 2, (q.u16 0 ≥ 1024, .badArg)]
def runGetLoopConfig (q : Issued) (s : State) : Reply :=
  let c := s.loopCfg (q.u16 0)
  say (wiringBytes c.wiring ++ ((c.start ++ List.replicate 8 0).take 8).flatMap leF) s

/-- The status word of a loop (R175). -/
def State.loopStatus (s : State) (l : Nat) : Nat :=
  let x := s.loop l
  let w := s.wiring l
  let out := fun (f : Nat → Bool) => mask4 fun o => o < w.nu && f (w.outPoint.getD o 8192)
  let b := fun (y : Bool) => if y then 1 else 0
  x.run.code * 2 ^ 28 + (s.loopCfg l).active * 2 ^ 27 + b x.swap.isSome * 2 ^ 26 + x.saturated.toNat * 2 ^ 22 +
    (out s.pointOff).toNat * 2 ^ 18 + x.unusable.toNat * 2 ^ 14 +
    (out fun p => (s.entry p).forced).toNat * 2 ^ 10 + b x.numeric * 2 ^ 9 +
    b (s.isRetired (loopResource l)) * 2 ^ 8 + sat8 x.late

def fours (n : Nat) (l : List F32) : List Byte := ((l ++ List.replicate n 0).take n).flatMap leF

def checkGetLoopStatus (q : Issued) (_ : State) : Bad := firstBad [lenBad q 2, (q.u16 0 ≥ 1024, .badArg)]
def runGetLoopStatus (q : Issued) (s : State) : Reply :=
  let x := s.loop (q.u16 0)
  say (le 8 s.time.tick ++ le 4 (s.loopStatus (q.u16 0)) ++ fours 4 x.u ++ fours 4 x.ua ++ fours 8 x.xh ++ fours 4 x.z) s

def checkGetEngineLoad (q : Issued) (_ : State) : Bad := firstBad [lenBad q 0]
def runGetEngineLoad (_ : Issued) (s : State) : Reply :=
  let run := s.wired.filter s.loopRuns
  let period := run.filter fun l => !(s.wiring l).prompt
  say (le 2 run.length ++ le 1 (run.length - period.length) ++ le 4 (period.map fun l => updateCost (s.wiring l)).sum ++
    le 4 s.lop.lastNs ++ le 4 s.lop.maxNs ++ le 4 s.lop.numeric) s

/-- More than 2 channels of one group asked in a fast tick (R155). -/
def State.promptCrowd (s : State) : Bool :=
  let chans := (s.cfg.loops.cells.filter fun x => x.2.wiring.prompt).flatMap fun x => x.2.wiring.inPoint.take x.2.wiring.ny
  (List.range 12).any fun g => (((List.range 8).map (8 * g + ·)).filter chans.contains).length > 2

/-- Supervision defaults of a loop with `ny` inputs (R177). -/
def defaultSupervision (ny : Nat) : Supervision := { required := BitVec.ofNat 8 (2 ^ ny - 1) }

def checkSetLoopWiring (q : Issued) (s : State) : Bad :=
  Bad.or (firstBad [lenBad q 66, (q.u16 0 ≥ 1024, .badArg)]) (badOffset (wiringOffends q (q.u16 0) s))
def runSetLoopWiring (q : Issued) (s : State) : Reply :=
  let w := wiringOf q 2
  let v := defaultSupervision w.ny
  let s := updLoopCfg (q.u16 0) (fun c => { c with wiring := w, sup := v }) s
  let s := updLoop (q.u16 0) (fun x => { x with sup := v }) s
  let s := { s with lop.plans := s.lop.plans.filter fun p => !(p.loop == q.u16 0 && p.kind.supervises) }
  done (if w.prompt && s.promptCrowd then note 8 .promptExcess [q.u16 0] s else s)

/-- Whether a matrix entry of the block lies within the loop's dimensions, by word (R156). -/
def inBlock (w : Wiring) (i : Nat) : Bool :=
  if i < 64 then i / 8 < w.nx && i % 8 < w.nx
  else if i < 96 then (i - 64) / 4 < w.nx && i % 4 < w.nu
  else if i < 128 then (i - 96) / 4 < w.nx && i % 4 < w.ny
  else if i < 160 then (i - 128) / 8 < w.ny && i % 8 < w.nx
  else if i < 192 then (i - 160) / 8 < w.nu && i % 8 < w.nx
  else (i - 192) / 4 < w.nu && i % 4 < w.nr

/-- Whether a word of the parameter set lies within the loop's dimensions (R159). -/
def inParams (w : Wiring) (i : Nat) : Bool := if i < 8 then i % 4 < w.nu else i % 4 < w.ni

/-- The checks of R160 with the offset of each entry. -/
def bankOffends (q : Issued) (w : Wiring) : List (Bool × Nat) :=
  let b := q.fs 2 208
  let p := q.fs 834 16
  ((List.range 208).map fun i => (!fFinite (at0 b i) || (!inBlock w i && at0 b i != 0), 4 * i)) ++
  ((List.range 16).map fun i => (!fFinite (at0 p i) || (!inParams w i && at0 p i != 0), 832 + 4 * i)) ++
  ((List.range w.nu).map fun o => (fLt (pMax p o) (pMin p o), 832 + 4 * o)) ++
  [(crc32c (q.bytes 2 896) != q.u32 898, 896)]

def checkWriteBank (q : Issued) (s : State) : Bad :=
  Bad.or (firstBad [lenBad q 902, (q.u16 0 ≥ 1024, .badArg)])
    (Bad.or (badOffset (bankOffends q (s.wiring (q.u16 0)))) (firstBad [((s.loop (q.u16 0)).swap.isSome, .busy)]))
def runWriteBank (q : Issued) (s : State) : Reply :=
  let i := 1 - (s.loopCfg (q.u16 0)).active
  say (le 1 i) (updLoopCfg (q.u16 0) (·.setBank i { block := q.fs 2 208, params := q.fs 834 16 }) s)

def checkReadBank (q : Issued) (_ : State) : Bad :=
  firstBad [lenBad q 3, (q.u16 0 ≥ 1024, .badArg), (q.u8 2 > 1, .badArg)]
def runReadBank (q : Issued) (s : State) : Reply :=
  let b := (s.loopCfg (q.u16 0)).bank (q.u8 2)
  let body := fours 208 b.block ++ fours 16 b.params
  say (body ++ le 4 (crc32c body)) s

/-- Loops of a swap group. -/
def State.groupLoops (s : State) (g : Nat) : List Nat := s.wired.filter fun l => (s.wiring l).swapGroup == g

def checkSetSwapGroup (q : Issued) (s : State) : Bad :=
  let l := q.list 3 2 (q.u16 1)
  firstBad [(q.len < 3, .badArg), lenBad q (3 + 2 * q.u16 1), (q.u8 0 > 63, .badArg), (l.any (· ≥ 1024), .badArg),
    ((l ++ s.groupLoops (q.u8 0)).any (fun x => (s.loop x).swap.isSome), .busy)]
def runSetSwapGroup (q : Issued) (s : State) : Reply :=
  let l := q.list 3 2 (q.u16 1)
  let set := fun (g : Nat) (x : Nat) (s : State) => updLoopCfg x (fun c => { c with wiring.swapGroup := g }) s
  done (forAll l (set (q.u8 0)) (forAll (s.groupLoops (q.u8 0)) (set 0xFF) s))

/-- The loops a SWAP or CANCEL_SWAP names. -/
def swapTargets (q : Issued) (s : State) : List Nat := if q.u8 0 = 0 then [q.u16 1] else s.groupLoops (q.u16 1)

def swapBad (q : Issued) : Bool := q.u8 0 > 1 || (if q.u8 0 = 0 then q.u16 1 ≥ 1024 else q.u16 1 > 63)

/-- The swaps of a request are withdrawn: it ends SUPERSEDED and has no further effect (R62, R172). -/
def supersedeSwap (r : Option (Nat × U16)) (s : State) : State :=
  match r with
  | none => s
  | some ref =>
    let s := { s with lop.loops :=
      ⟨s.lop.loops.cells.map fun x =>
        (x.1, if (x.2.swap.bind (·.2)) = some ref then { x.2 with swap := none } else x.2)⟩ }
    completeTagged ref .superseded [] s

/-- Pending swaps of some loops are superseded (R172). -/
def supersedeLoops (l : List Nat) (s : State) : State :=
  forAll l (fun x s =>
    match (s.loop x).swap with
    | some (_, r) => updLoop x (fun y => { y with swap := none }) (supersedeSwap r s)
    | none => s) s

def checkSwap (q : Issued) (s : State) : Bad :=
  let l := swapTargets q s
  firstBad [lenBad q 11, (swapBad q, .badArg), (q.u64 3 != 0 && q.u64 3 < q.tick + 2, .badArg), (l.isEmpty, .badArg),
    (l.any (fun x => (s.wiring x).nx == 0 || !((s.loopCfg x).bank (1 - (s.loopCfg x).active)).ok), .badArg)]
def runSwap (q : Issued) (s : State) : Reply :=
  let l := swapTargets q s
  let t := if q.u64 3 = 0 then q.tick + 2 else q.u64 3
  acceptedReply (forAll l (fun x s => updLoop x (fun y => { y with swap := some (t, some q.ref) }) s) (supersedeLoops l s))

def checkCancelSwap (q : Issued) (_ : State) : Bad := firstBad [lenBad q 3, (swapBad q, .badArg)]
def runCancelSwap (q : Issued) (s : State) : Reply := done (supersedeLoops (swapTargets q s) s)

def checkCopyActive (q : Issued) (s : State) : Bad :=
  firstBad [lenBad q 2, (q.u16 0 ≥ 1024, .badArg), ((s.loop (q.u16 0)).swap.isSome, .busy)]
def runCopyActive (q : Issued) (s : State) : Reply :=
  done (updLoopCfg (q.u16 0) (fun c => c.setBank (1 - c.active) (c.bank c.active)) s)

/-- Plans for several loops; the last answers the request. -/
def planLoops (q : Issued) (l : List Nat) (kind : PlanKind) (s : State) : State :=
  let n := l.length
  { s with lop.plans := s.lop.plans ++ l.zipIdx.map fun x =>
      { tick := q.tick + 2, loop := x.1, kind, mailbox := if x.2 + 1 = n then some q.ref else none } }

def loopsNamed (q : Issued) : List Nat := q.list 2 2 (q.u16 0)

def checkStartLoops (q : Issued) (s : State) : Bad :=
  firstBad [(q.len < 2, .badArg), lenBad q (2 + 2 * q.u16 0), (q.u16 0 < 1, .badArg),
    ((loopsNamed q).any (fun l => l ≥ 1024 || (s.wiring l).nx == 0), .badArg),
    ((loopsNamed q).any (fun l => s.isRetired (loopResource l)), .retired)]
def runStartLoops (q : Issued) (s : State) : Reply := laterReply (planLoops q (loopsNamed q) .start s)

def checkStopLoops (q : Issued) (s : State) : Bad :=
  firstBad [(q.len < 2, .badArg), lenBad q (2 + 2 * q.u16 0), (q.u16 0 < 1, .badArg),
    ((loopsNamed q).any (fun l => l ≥ 1024 || (s.wiring l).nx == 0), .badArg)]
def runStopLoops (q : Issued) (s : State) : Reply := laterReply (planLoops q (loopsNamed q) .stop s)

def checkSetStartState (q : Issued) (_ : State) : Bad :=
  firstBad [lenBad q 34, (q.u16 0 ≥ 1024, .badArg), ((q.fs 2 8).any (!fFinite ·), .badArg)]
def runSetStartState (q : Issued) (s : State) : Reply :=
  done (updLoopCfg (q.u16 0) (fun c => { c with start := q.fs 2 8 }) s)

def checkReleaseLoop (q : Issued) (s : State) : Bad :=
  firstBad [lenBad q 2, (q.u16 0 ≥ 1024, .badArg), (!s.isRetired (loopResource (q.u16 0)), .badArg)]
/-- 0x06.30 (R166, R169): the loop is released and, where loops compute, restarts bumplessly from tick a + 2; until then it computes
nothing. -/
def runReleaseLoop (q : Issued) (s : State) : Reply :=
  let s := releaseResource 8 (loopResource (q.u16 0)) (stopLoop (q.u16 0) s)
  done (if s.computing then
      { s with lop.plans := s.lop.plans ++ [{ tick := q.tick + 2, loop := q.u16 0, kind := .start }] }
    else s)

def checkSetLoopFaultThreshold (q : Issued) (_ : State) : Bad :=
  firstBad [lenBad q 5, (q.u16 0 ≥ 1024 && q.u16 0 != 0xFFFF, .badArg), (thresholdBad (q.u8 2) (q.u16 3), .badArg)]
def runSetLoopFaultThreshold (q : Issued) (s : State) : Reply :=
  let l := if q.u16 0 = 0xFFFF then List.range 1024 else [q.u16 0]
  done (setThresholds (l.map loopResource) (q.u8 2) (q.u16 3) s)

/-! ### Supervision commands (R177, R199) -/

def supervisionOf (q : Issued) (o : Nat) : Supervision :=
  { lossTicks := q.list o 2 4, freezeTicks := q.list (o + 8) 2 4, required := BitVec.ofNat 8 (q.u8 (o + 16)),
    fallback := q.u8 (o + 17), afterOpen := q.u8 (o + 18), onCommand := q.u8 (o + 19) == 1,
    returnTicks := q.u16 (o + 20), openTicks := q.u16 (o + 22), preset := q.fs (o + 24) 4, fbStep := q.fs (o + 40) 4 }

def supervisionOffends (q : Issued) (w : Wiring) : List (Bool × Nat) :=
  let v := supervisionOf q 2
  ((List.range 4).map fun i => (let n := v.lossTicks.getD i 0; (n < 1 || n > 10000), 2 * i)) ++
  ((List.range 4).map fun i => (decide (v.freezeTicks.getD i 0 < 2), 8 + 2 * i)) ++
  [(decide (v.required.toNat ≥ 2 ^ w.ny), 16), (v.fallback < 2 || v.fallback > 4, 17), (v.afterOpen < 2 || v.afterOpen > 3, 18),
   (decide (q.u8 21 > 1), 19), (decide (v.returnTicks < 1), 20),
   (decide (v.openTicks < 1), 22)] ++
  ((List.range 4).map fun i => (!fFinite (at0 v.preset i), 24 + 4 * i)) ++
  ((List.range 4).map fun i => (!fFinite (at0 v.fbStep i) || !fLt 0 (at0 v.fbStep i), 40 + 4 * i)) ++
  [(q.u32 58 != 0, 56), (crc32c (q.bytes 2 60) != q.u32 62, 60)]

def supervisionBytes (v : Supervision) : List Byte :=
  let four := fun (l : List Nat) => ((l ++ [0, 0, 0, 0]).take 4).flatMap (le 2)
  let b := four v.lossTicks ++ four v.freezeTicks ++ [v.required] ++ le 1 v.fallback ++ le 1 v.afterOpen ++
    leBool v.onCommand ++ le 2 v.returnTicks ++ le 2 v.openTicks ++ fours 4 v.preset ++ fours 4 v.fbStep ++ le 4 0
  b ++ le 4 (crc32c b)

def checkSetSupervision (q : Issued) (s : State) : Bad :=
  Bad.or (firstBad [lenBad q 66, (q.u16 0 ≥ 1024, .badArg)]) (badOffset (supervisionOffends q (s.wiring (q.u16 0))))
def runSetSupervision (q : Issued) (s : State) : Reply :=
  let v := supervisionOf q 2
  let s := updLoopCfg (q.u16 0) (fun c => { c with sup := v }) s
  done { s with lop.plans := s.lop.plans ++ [{ tick := q.tick + 2, loop := q.u16 0, kind := .supervision v }] }

def checkGetSupervision (q : Issued) (_ : State) : Bad := firstBad [lenBad q 2, (q.u16 0 ≥ 1024, .badArg)]
def runGetSupervision (q : Issued) (s : State) : Reply :=
  let x := s.loop (q.u16 0)
  let counts := fun (l : List Nat) => l.flatMap fun n => le 2 (sat16 n)
  say (supervisionBytes (s.loopCfg (q.u16 0)).sup ++ le 1 x.lost.toNat ++ le 1 x.frozen.toNat ++ counts x.missing ++
    counts x.freeze ++ le 2 (sat16 x.returns) ++ le 2 (sat16 x.openFor) ++ fours 4 x.fbValue ++ le 4 x.entries ++
    le 8 x.since) s

def checkReturnClosed (q : Issued) (s : State) : Bad :=
  let x := s.loop (q.u16 0)
  firstBad [lenBad q 2, (q.u16 0 ≥ 1024, .badArg), (!x.run.fallback, .badArg),
    (s.isRetired (loopResource (q.u16 0)), .retired), (!x.byCommand && x.returns < x.sup.returnTicks, .busy)]
def runReturnClosed (q : Issued) (s : State) : Reply := laterReply (planFor q (q.u16 0) .returnClosed s)

def checkEnterFallback (q : Issued) (s : State) : Bad :=
  firstBad [lenBad q 3, (q.u16 0 ≥ 1024, .badArg), (q.u8 2 < 2 || q.u8 2 > 4, .badArg),
    ((s.loop (q.u16 0)).run = .off, .badArg), (s.isRetired (loopResource (q.u16 0)), .retired)]
def runEnterFallback (q : Issued) (s : State) : Reply := laterReply (planFor q (q.u16 0) (.fallback (q.u8 2)) s)

/-! ### Domain reset, modes and settings -/

/-- Loops stop with the modes in which none runs (R165). What was planned for a running loop is not carried out: its request ends
TIMEOUT (R63). -/
def stopAllLoops (s : State) : State :=
  let s := { s with lop.plans := s.lop.plans.filter fun p => !p.kind.runs }
  forAll s.wired stopLoop s

/-- Entry to IDLE in the tick that ends, from whatever mode (R165): loops with auto_start that do not run start at the boundary. -/
def autoStartLoops (s : State) : State :=
  if s.sys.mode = .idle && s.sys.since = s.time.tick then
    forAll (s.wired.filter fun l => (s.wiring l).autoStart && (s.loop l).run = .off) startLoop s
  else s

/-- The supervision parts in use as the settings give them (R177, R488). -/
def loadSupervision (s : State) : State :=
  forAll s.wired (fun l s => updLoop l (fun x => { x with sup := (s.loopCfg l).sup }) s) s

/-- Loop state cleared by a reset of the domain (R23, R168): what was running restarts at the first update after it. -/
def resetLoops (s : State) : State :=
  { s with
    lop.plans := s.lop.plans.filter fun p => !p.ofLoop,
    lop.doneDue := [], lop.unreleased := [],
    lop.loops := ⟨s.lop.loops.cells.map fun x => (x.1, { run := x.2.run, sup := x.2.sup, entries := x.2.entries })⟩ }

/-- Loops that were running restart bumplessly (R168). -/
def restartLoops (s : State) : State :=
  forAll (s.wired.filter fun l => (s.loop l).run != .off) startLoop s

/-- INPUT_LOST, INPUT_FROZEN (R178, R179, R180): the declaration of an input whose count has reached its limit. -/
def declareInput (l i : Nat) (frozen : Bool) (s : State) : State :=
  let x := s.loop l
  let bit : BitVec 4 := BitVec.ofNat 4 (2 ^ i)
  if !s.loopRuns l || i ≥ (s.wiring l).ny then s
  else if frozen then
    if x.freeze.getD i 0 ≥ x.sup.freezeTicks.getD i 1000 && !x.frozen.getLsbD i then
      superviseRequired l (note 6 .inputFrozen [l, i] (updLoop l (fun x => { x with frozen := x.frozen ||| bit }) s))
    else s
  else if x.missing.getD i 0 ≥ x.sup.lossTicks.getD i 3 && !x.lost.getLsbD i then
    superviseRequired l (note 6 .inputLost [l, i] (updLoop l (fun x => { x with lost := x.lost ||| bit }) s))
  else s
where
  /-- A loop in CLOSED with a required input lost or frozen enters its fallback (R180). -/
  superviseRequired (l : Nat) (s : State) : State :=
    let x := s.loop l
    if x.run = .closed && x.unhealthy then enterFallbackMode l x.sup.fallback false s else s

/-- OPEN_TIMEOUT (R182). -/
def openTimeoutEffect (l : Nat) (s : State) : State :=
  let x := s.loop l
  if s.loopRuns l && x.run = .openLoop && x.openFor ≥ x.sup.openTicks && !x.returnDue then leaveOpen l s else s

/-- AUTO_RETURN (R183). -/
def autoReturnEffect (l : Nat) (s : State) : State :=
  if s.loopRuns l && (s.loop l).returnDue then returnToClosed l s else s

end Sys2Proof.Machine
end

