-- ==== Sys2Proof/Machine/Recorder.lean ====
section
/-! DEFINITION. The event recorder (chapter 13): the 64-byte record, acceptance at rank 9, batches, the two logs,
cursors and the commands of class 0x0B. -/

namespace Sys2Proof.Machine

/-! ### Codes and attributes (R319) -/

def kinds0 : List EventKind := [.moduleStart, .eventsLost, .suppressedSummary, .auditWarn, .auditFull, .auditCleared, .datagramDropped, .modeChange]
def kinds1 : List EventKind := [.bindingSet, .settingsChange, .domainReset, .strapUndefined, .coldHold, .timeState, .timeStep, .halConflict]
def kinds2 : List EventKind := [.halPeriodMismatch, .halMaster, .forceSet, .forceChanged, .forceRemoved, .writeDiscarded, .nonFinite, .ownerMove]
def kinds3 : List EventKind := [.groupFault, .calibrationBad, .pathChange, .portEvent, .nodeParams, .numericFault, .inputLost, .inputFrozen]
def kinds4 : List EventKind := [.inputEnd, .fallbackEnter, .afterOpen, .returnClosed, .rampClipped, .rampLimitStop, .learning, .promptExcess]
def kinds5 : List EventKind := [.swapped, .compliance, .openLoop, .foldback, .dsup, .stageFault, .seqLoad, .seqStart]
def kinds6 : List EventKind := [.seqStep, .seqHold, .seqResume, .seqJump, .seqAbort, .seqEnd, .overrun, .taskFaulted]
def kinds7 : List EventKind := [.trap, .orphan, .onlineChange, .retentiveUnmatched, .varForce, .retentiveCleared, .streamPath, .unreachable]
def kinds8 : List EventKind := [.spillStart, .spillStop, .spillBudget, .acqReset, .safetyFault, .resetRefused, .resetAccepted, .safetyStep]
def kinds9 : List EventKind := [.shroudWarn, .shroudState, .islandFirmware, .pairCheck, .pairRole, .giveUp, .mirrorIncomplete, .looped]
def kinds10 : List EventKind := [.selfTest, .updateStep, .deferral, .confirmed, .rejected, .migrationFailed, .scheduleEnded, .retirement]
def kinds11 : List EventKind := [.released, .eccCorrected, .eccUncorrectable, .pageRetired, .keyDamaged, .keySet, .haltCause, .nandBlock]
def kinds12 : List EventKind := [.thermal, .fabricCount]

/-- Every event kind, those whose code the manual gives first. -/
def allKinds : List EventKind := List.flatten [kinds0, kinds1, kinds2, kinds3, kinds4, kinds5, kinds6, kinds7, kinds8, kinds9, kinds10, kinds11, kinds12]

/-- The kind a code of the running firmware names, or none where it defines no such code. -/
def kindOfCode (code : Nat) : Option EventKind := allKinds.find? fun k => k.code == code

/-- The audit attribute (R319): always on classes 0xC and 0xE, on binding, force, owner-move, variable-force and
settings records; class 0 has it on AUDIT_CLEARED alone, and the rate limit governs dropped datagrams (R56); elsewhere the
firmware's list settles it. -/
def EventKind.audit (k : EventKind) : Bool :=
  match k with
  | .bindingSet | .settingsChange | .forceSet | .forceChanged | .forceRemoved | .ownerMove | .varForce
  | .auditCleared | .retentiveCleared => true
  | .datagramDropped => false
  | k => if k.cls = 12 || k.cls = 14 then true else if k.cls = 0 then false else Config.eventAudit k.number

/-- Codes never suppressed: class 0 and the audit attribute (R324). -/
def EventKind.free (k : EventKind) : Bool := k.cls = 0 || k.audit

/-- Burst and interval of a code's bucket, 4 and 10 s by default (R324). -/
def State.rate (s : State) (k : EventKind) : Nat × Nat := s.cfg.rates.getD k.number (4, 10000)

def State.bucket (s : State) (k : EventKind) : Bucket := s.rcd.buckets.getD k.number { tokens := (s.rate k).1 }

/-! ### The record (R318) -/

/-- The 20 params bytes: as the manual gives them for class 0 and the settings record, otherwise as the firmware's
event code list gives them. -/
def Record.params (r : Record) : List Byte :=
  let a := fun i => r.args.getD i 0
  let p : List Byte := match r.kind with
    | .moduleStart => le 4 (a 0) ++ le 1 (a 1) ++ [0] ++ le 2 (a 2) ++ le 8 (a 3)
    | .eventsLost => le 4 (a 0) ++ le 8 (a 1) ++ le 8 (a 2)
    | .suppressedSummary => r.args.flatMap (le 2)
    | .auditWarn | .auditFull => le 4 (a 0)
    | .auditCleared => r.args.map (BitVec.ofNat 8)
    | .settingsChange => le 1 (a 0) ++ le 1 (a 1) ++ le 1 (a 2) ++ [0] ++ le 4 (a 3)
    | k => Config.eventParams k.number r.args
  (p ++ List.replicate 20 0).take 20

def Record.flags (r : Record) : Nat :=
  (if r.unsync then 1 else 0) + (if r.audit then 2 else 0) + (if r.cont then 4 else 0) + (if r.lostAudit then 8 else 0)

/-- The first 60 bytes of a record. -/
def Record.body (r : Record) : List Byte :=
  le 2 r.kind.code ++ le 1 r.flags ++ le 1 r.mode ++ le 6 r.opMs ++ le 2 (sat16 r.suppressed) ++ le 4 r.cycles ++
    le 8 r.time ++ le 8 r.tick ++ le 8 r.seq ++ r.params

/-- The 64 bytes of a record. -/
def Record.bytes (r : Record) : List Byte := r.body ++ le 4 (crc32c r.body)

/-! ### Acceptance (R322 to R325) -/

/-- A record enters the pending queue of 256 with the next seq, or is lost and counted (R320, R325). -/
def enqueue (r : Record) (s : State) : State :=
  if s.rcd.queue.length ≥ 256 then
    { s with rcd.lostFirst := (if s.rcd.lostCount = 0 then r.tick else s.rcd.lostFirst),
             rcd.lostLast := r.tick, rcd.lostCount := s.rcd.lostCount + 1, rcd.lostTotal := s.rcd.lostTotal + 1 }
  else
    { s with rcd.queue := s.rcd.queue ++ [{ r with seq := s.rcd.seq, queued := s.sys.opNs }],
             rcd.seq := s.rcd.seq + 1 }

/-- An EVENTS_LOST record takes the first entry that is free after losses (R325). -/
def placeLost (s : State) : State :=
  if s.rcd.lostCount = 0 || s.rcd.queue.length ≥ 256 then s
  else
    let r := s.record .eventsLost [s.rcd.lostCount, s.rcd.lostFirst, s.rcd.lostLast]
    enqueue r { s with rcd.lostCount := 0 }

/-- An event is accepted by its code's bucket or suppressed (R324). -/
def acceptRecord (r : Record) (s : State) : State :=
  let s := placeLost s
  if r.kind.free then enqueue { r with audit := r.kind.audit } s
  else
    let b := s.bucket r.kind
    if b.tokens = 0 then
      let b' := { b with suppressed := b.suppressed + 1, since := if b.suppressed = 0 then s.sys.opNs else b.since }
      { s with rcd.buckets := s.rcd.buckets.put r.kind.number b' }
    else
      let full := b.tokens ≥ (s.rate r.kind).1
      let b' : Bucket := { tokens := b.tokens - 1, below := if full then s.sys.opNs else b.below, suppressed := 0, since := 0 }
      enqueue { r with suppressed := sat16 b.suppressed }
        { s with rcd.buckets := s.rcd.buckets.put r.kind.number b' }

/-- Events of a tick in the order of their ranks, each rank in its own order (R322). -/
def byRank (l : List (Nat × Record)) : List Record :=
  (List.range 10).flatMap fun r => (l.filter fun x => x.1 == r).map (·.2)

/-- Rank 9 (R42): the events of the tick are written in rank order. -/
def writeRecords (s : State) : State :=
  forAll (byRank s.rcd.waiting) acceptRecord { s with rcd.waiting := [] }

/-! ### Batches and logs (R323, R328, R329) -/

def auditCapacity : Nat := 65536
def generalCapacity : Nat := 196608

/-- The audit log is full, so that a command that would write an audit record is answered BUSY (R329). -/
def State.auditFull (s : State) : Bool := s.rcd.audit.length ≥ auditCapacity

/-- One record is committed: to the general log, over the oldest when full, and with the audit attribute to the audit
log unless that is full. -/
def commitOne (r : Record) (s : State) : State :=
  let lose := r.audit && s.auditFull
  let r := if lose then { r with audit := false, lostAudit := true } else r
  let general := s.rcd.general ++ [r]
  let general := if general.length > generalCapacity then general.drop 1 else general
  { s with rcd.general := general, rcd.committed := r.seq + 1,
           rcd.auditLost := s.rcd.auditLost + (if lose then 1 else 0),
           rcd.audit := if r.audit then s.rcd.audit ++ [r] else s.rcd.audit }

/-- A batch of up to `n` pending entries is committed, with AUDIT_WARN and AUDIT_FULL where it brings the audit log to
their counts (R329). -/
def commitBatch (n : Nat) (s : State) : State :=
  let before := s.rcd.audit.length
  let s' := forAll (s.rcd.queue.take n) commitOne { s with rcd.queue := s.rcd.queue.drop n }
  let after := s'.rcd.audit.length
  let s' := placeLost s'
  let s' := if before < 58983 && after ≥ 58983 then enqueue (s'.record .auditWarn [after]) s' else s'
  if before < auditCapacity && after ≥ auditCapacity then enqueue (s'.record .auditFull [after]) s' else s'

/-- A batch is due: 64 entries pending, or 200 ms since the oldest entered (R323), with the supervisor serving and the
log writable. -/
def State.batchDue (s : State) : Bool :=
  s.sys.supUp && !s.sys.slcReadOnly &&
    (s.rcd.queue.length ≥ 64 ||
      match s.rcd.queue with
      | [] => false
      | r :: _ => s.sys.opNs - r.queued ≥ 200000000)

/-- BATCH_COMMIT (R323). -/
def batchCommitEffect (s : State) : State := if s.batchDue then commitBatch 64 s else s

/-- TOKEN_REFILL (R324): one token every interval while the bucket is below its burst. -/
def tokenRefillEffect (code : Nat) (s : State) : State :=
  match kindOfCode code with
  | none => s
  | some k =>
    let b := s.bucket k
    let (burst, ms) := s.rate k
    if b.tokens < burst && s.sys.opNs - b.below ≥ ms * 1000000 then
      { s with rcd.buckets := s.rcd.buckets.put k.number { b with tokens := b.tokens + 1, below := b.below + ms * 1000000 } }
    else s

/-- SUPPRESSED_SUMMARY (R324): counts that no record has carried for 60 s, five codes to a record. -/
def suppressedSummaryEffect (s : State) : State :=
  let due := (allKinds.filter fun k =>
    (s.bucket k).suppressed > 0 && s.sys.opNs - (s.bucket k).since ≥ 60000000000).take 5
  if due.isEmpty then s
  else
    let args := due.flatMap fun k => [k.code, sat16 (s.bucket k).suppressed]
    note 9 .suppressedSummary args
      { s with rcd.buckets := forAll due (fun k t => t.put k.number { s.bucket k with suppressed := 0, since := 0 }) s.rcd.buckets }

/-! ### Keys (R330, R447) -/

/-- The commissioning key can be used: set, its record undamaged, its digest as the fuses hold it (R447). -/
def State.keyGood (s : State) : Bool :=
  s.sys.fuses.keySet &&
    match s.sys.keyRecord with
    | some (k, crc) => crc32c k == crc.toNat && unle (sha256 k) == s.sys.fuses.keyHash.toNat
    | none => false

def State.key (s : State) : List Byte := match s.sys.keyRecord with | some (k, _) => k | none => []

/-- A nonce is still usable 60 s after it was given (R76, R330). -/
def nonceFresh (given now : Nat) : Bool := now - given ≤ 60000000000

def nonceBytes (n : BitVec 256) : List Byte := le 32 n.toNat

/-! ### Commands of class 0x0B (R334) -/

def checkGetRecorderStatus (q : Issued) (_ : State) : Bad := firstBad [lenBad q 0]
def runGetRecorderStatus (_ : Issued) (s : State) : Reply :=
  say (le 8 s.rcd.seq ++ le 4 s.rcd.general.length ++
    le 8 ((s.rcd.general.head?.map (·.seq)).getD s.rcd.committed) ++ le 4 s.rcd.audit.length ++ le 4 s.rcd.auditLost ++
    le 2 s.rcd.queue.length ++ le 8 s.rcd.lostTotal ++ le 1 s.rcd.cursors.cells.length) s

def State.log (s : State) (audit : Bool) : List Record := if audit then s.rcd.audit else s.rcd.general

/-- Where a cursor starts (R334). -/
def cursorStart (s : State) (audit : Bool) (start value : Nat) : Nat :=
  match start with
  | 0 => ((s.log audit).head?.map (·.seq)).getD s.rcd.committed
  | 1 => s.rcd.committed
  | 2 => value
  | _ => (((s.log audit).find? fun r => r.tick ≥ value).map (·.seq)).getD s.rcd.committed

def checkOpenCursor (q : Issued) (s : State) : Bad :=
  firstBad [lenBad q 10, (q.u8 0 > 1, .badArg), (q.u8 1 > 3, .badArg), ((freeOf16 s).isNone, .busy)]
where
  /-- The lowest free cursor of 16. -/
  freeOf16 (s : State) : Option Nat := (List.range 16).find? fun i => !s.rcd.cursors.has i
def runOpenCursor (q : Issued) (s : State) : Reply :=
  let i := (checkOpenCursor.freeOf16 s).getD 0
  let pos := cursorStart s (q.u8 0 == 1) (q.u8 1) (q.u64 2)
  say (le 1 i ++ le 8 pos)
    { s with rcd.cursors := s.rcd.cursors.put i { mailbox := q.mailbox, audit := q.u8 0 == 1, pos, used := s.sys.opNs } }

/-- A cursor this mailbox has opened (R331). -/
def State.cursorOf (s : State) (q : Issued) : Option Cursor :=
  (s.rcd.cursors.find (q.u8 0)).filter fun c => c.mailbox == q.mailbox

def checkReadWindow (q : Issued) (s : State) : Bad :=
  match s.cursorOf q with
  | none => some (.badArg, [])
  | some c => firstBad [lenBad q 2, (q.u8 1 > 1, .badArg), (q.u8 1 == 1 && c.window.isNone, .badArg)]

/-- A new window fixed at the cursor, which moves past it (R332). -/
def fixWindow (s : State) (c : Cursor) : Cursor :=
  let log := s.log c.audit
  let oldest := (log.head?.map (·.seq)).getD c.pos
  let skipped := if c.audit then 0 else oldest - c.pos
  let w := (log.filter fun r => r.seq ≥ c.pos).take 64
  { c with window := some w, first := (w.head?.map (·.seq)).getD (max c.pos oldest), skipped,
           pos := (w.getLast?.map (fun r => r.seq + 1)).getD (max c.pos oldest) }

def runReadWindow (q : Issued) (s : State) : Reply :=
  match s.cursorOf q with
  | none => done s
  | some c =>
    let c := if q.u8 1 = 0 then fixWindow s c else c
    let w := c.window.getD []
    let part := if q.u8 1 = 0 then w.take 32 else w.drop 32
    say (le 8 c.first ++ le 1 w.length ++ le 1 part.length ++ le 4 c.skipped ++ part.flatMap Record.bytes)
      { s with rcd.cursors := s.rcd.cursors.put (q.u8 0) { c with used := s.sys.opNs } }

def checkCloseCursor (q : Issued) (s : State) : Bad :=
  firstBad [lenBad q 1, ((s.cursorOf q).isNone, .badArg)]
def runCloseCursor (q : Issued) (s : State) : Reply :=
  done { s with rcd.cursors := s.rcd.cursors.del (q.u8 0) }

def checkGetCodeInfo (q : Issued) (_ : State) : Bad := firstBad [lenBad q 2]
def runGetCodeInfo (q : Issued) (s : State) : Reply :=
  match kindOfCode (q.u16 0) with
  | none => say (List.replicate 10 0) s
  | some k =>
    let (b, i) := s.rate k
    say (leBool true ++ leBool k.audit ++ le 1 b ++ le 4 i ++ le 1 (s.bucket k).tokens ++
      le 2 (sat16 (s.bucket k).suppressed)) s

def checkSetRateLimit (q : Issued) (_ : State) : Bad :=
  firstBad [lenBad q 7, (match kindOfCode (q.u16 0) with | none => true | some k => k.free, .badArg),
    (q.u8 2 < 1, .badArg), (q.u32 3 < 10 || q.u32 3 > 3600000, .badArg)]
def runSetRateLimit (q : Issued) (s : State) : Reply :=
  match kindOfCode (q.u16 0) with
  | none => done s
  | some k =>
    done { s with cfg.rates := s.cfg.rates.put k.number (q.u8 2, q.u32 3), cfg.any := true,
                  rcd.buckets := s.rcd.buckets.put k.number { s.bucket k with tokens := q.u8 2 } }

/-- The seq of the newest committed audit record, and the digest of the log up to a seq (R330). -/
def State.lastAudit (s : State) : Nat := (s.rcd.audit.getLast?.map (·.seq)).getD 0
def State.auditDigest (s : State) (last : Nat) : List Byte :=
  sha256 ((s.rcd.audit.filter fun r => r.seq ≤ last).flatMap Record.bytes)

def checkGetClearChallenge (q : Issued) (_ : State) : Bad := firstBad [lenBad q 0]
def runGetClearChallenge (_ : Issued) (s : State) : Reply :=
  let (n, s) := takeFree s
  let nonce := Config.nonce n
  say (nonceBytes nonce ++ le 8 s.lastAudit ++ le 4 s.rcd.audit.length ++ s.auditDigest s.lastAudit)
    { s with rcd.challenge := some (nonce, s.sys.opNs) }

/-- The hmac of 0x0B.31 fits (R330). -/
def State.clearAllowed (s : State) (q : Issued) : Bool :=
  s.keyGood &&
    match s.rcd.challenge with
    | none => false
    | some (nonce, t) =>
      nonceFresh t s.sys.opNs &&
        hmacSha256 s.key (nonceBytes nonce ++ s.auditDigest (q.u64 32) ++ le 8 (q.u64 32) ++ le 1 q.mailbox)
          == q.bytes 0 32

def checkClearAudit (q : Issued) (s : State) : Bad :=
  firstBad [lenBad q 40, (!s.clearAllowed q, .refusedRight)]
/-- 0x0B.31 accepted: the nonce is used up and the audit area is cleared at completion. -/
def runClearAudit (_ : Issued) (s : State) : Reply := acceptedReply { s with rcd.challenge := none }

/-- The end of 0x0B.31 (R330): the audit area is erased, three AUDIT_CLEARED records are its first, and the audit
records written after last_seq follow. Answers the seq of the first. -/
def clearAuditDone (mailbox srcPort srcAddr last : Nat) (s : State) : Nat × State :=
  let s := commitBatch s.rcd.queue.length s
  let s := commitBatch s.rcd.queue.length s
  let digest := (s.auditDigest last).map (·.toNat)
  let kept := s.rcd.audit.filter fun r => r.seq > last
  let count := s.rcd.audit.length - kept.length
  let nums := fun (l : List Byte) => l.map (·.toNat)
  let r := fun (args : List Nat) (cont : Bool) =>
    { s.record .auditCleared args with audit := true, cont, queued := s.sys.opNs }
  let r1 := r (nums (le 1 mailbox ++ [0] ++ le 2 srcPort ++ le 4 srcAddr ++ le 4 count ++ le 8 last)) false
  let r2 := r (digest.take 20) true
  let r3 := r (digest.drop 20 ++ nums (le 4 s.rcd.auditLost)) true
  let first := s.rcd.seq
  let s := { s with rcd.audit := [], rcd.auditLost := 0, rcd.seq := first + 3 }
  let s := forAll [{ r1 with seq := first }, { r2 with seq := first + 1 }, { r3 with seq := first + 2 }] commitOne s
  (first, { s with rcd.audit := s.rcd.audit ++ kept })

end Sys2Proof.Machine
end

