-- ==== Sys2Proof/Machine/Acquisition.lean ====
section
/-! DEFINITION. Acquisition and the Stockpot stream (chapter 12): records and frames, acknowledgement and resend, ring,
spill and drain, triggers and marks, arm and fire across units, segmented capture, and the commands of class 0x0A. -/

namespace Sys2Proof.Machine

/-! ### Settings in use (R280, R281, R302) -/

/-- The acquisition mode in use; before any 0x0A.10, STREAM, or SEGMENTED with compatibility bit 0 (R280, R484). -/
def State.acqMode (s : State) : Nat := s.acq.stream.mode.getD (if s.sys.compat.getLsbD 0 then 1 else 0)

/-- The modes in which nothing is packed, sampled or captured (R280). -/
def State.acqDark (s : State) : Bool := s.sys.mode = .boot || s.sys.mode = .activate || s.sys.mode = .halt

/-- Records are packed: STREAM or BOTH, outside BOOT, ACTIVATE and HALT, with the domain serving (R280). -/
def State.packs (s : State) : Bool := (s.acqMode = 0 || s.acqMode = 2) && !s.acqDark && s.sys.acqUp

def State.triggerNow (s : State) (t : Nat) : TriggerCfg := s.acq.triggers.getD t {}
def State.trigger (s : State) (t : Nat) : Trigger := s.acq.trig.getD t {}
def updTrigger (t : Nat) (f : Trigger → Trigger) (s : State) : State := { s with acq.trig := s.acq.trig.upd t {} f }

/-- Channels of the round as MINMAX takes them. -/
def State.channelOn (s : State) (c : Nat) : Bool := s.ain.enabled.getD c true

/-! ### Record layouts (R284 to R288) -/

def b01 (x : Bool) (n : Nat) : Nat := if x then n else 0

/-- Bytes of a record, header included. -/
def StreamRecord.size : StreamRecord → Nat
  | .points _ _ l => 16 + 5 * l.length
  | .minmax _ _ g => 16 + 72 * g.length
  | .fast _ _ _ l => 16 + 5 * l.length
  | .mark _ _ => 56
  | .gap _ _ _ _ _ _ => 48
  | .config _ _ _ _ _ _ _ _ l => 28 + 2 * l.length

/-- The tick field of a record's header (R284). -/
def StreamRecord.tick : StreamRecord → Nat
  | .points t _ _ => t | .minmax t _ _ => t | .fast t _ _ _ => t | .mark t _ => t | .gap t _ _ _ _ _ => t
  | .config t _ _ _ _ _ _ _ _ => t

def StreamRecord.kind : StreamRecord → Nat
  | .points _ _ _ => 1 | .minmax _ _ _ => 2 | .fast _ _ _ _ => 3 | .mark _ _ => 4 | .gap _ _ _ _ _ _ => 5
  | .config _ _ _ _ _ _ _ _ _ => 6

def valueStatus (x : U32 × Byte) : List Byte := leF x.1 ++ [x.2]

/-- The body of a MARK record (R286). -/
def Mark.bytes (m : Mark) : List Byte :=
  le 1 m.trigger ++ le 1 m.source ++ le 1 m.edge ++ le 1 m.unit ++ le 8 m.mask.toNat ++ le 2 m.point ++ le 1 m.frac ++
    le 1 (sat8 m.extra) ++ le 8 m.stamp ++ le 4 m.interval ++ leF m.before ++ leF m.after ++ le 4 m.hostTag.toNat ++ le 4 0

def StreamRecord.body : StreamRecord → List Byte
  | .points _ first l => le 2 first ++ le 2 l.length ++ l.flatMap valueStatus
  | .minmax _ mask g => le 2 mask.toNat ++ le 2 0 ++ g.flatMap fun x => (x.1.flatMap fun v => leF v.1 ++ leF v.2) ++ x.2
  | .fast _ n count l => le 1 n ++ le 1 count ++ le 2 0 ++ l.flatMap valueStatus
  | .mark _ m => m.bytes
  | .gap _ a b c d r => le 8 a ++ le 8 b ++ le 8 c ++ le 8 d ++ le 1 r ++ [0, 0, 0]
  | .config _ t n k d st a b l =>
    le 2 t ++ le 1 n ++ le 1 k ++ le 2 d ++ le 2 (sat16 st) ++ le 4 a.toNat ++ le 4 b.toNat ++ l.flatMap (le 2)

def StreamRecord.bytes (r : StreamRecord) : List Byte := le 1 r.kind ++ [0] ++ le 2 r.size ++ le 8 r.tick ++ r.body

def recordsSize (l : List StreamRecord) : Nat := (l.map StreamRecord.size).sum

/-! ### Frames (R290) -/

/-- Bytes of a frame: its header and its records. -/
def Frame.size (f : Frame) : Nat := 36 + recordsSize f.records

/-- The largest tick of a frame's records. -/
def Frame.lastTick (f : Frame) : Nat := (f.records.map StreamRecord.tick).foldl max f.first

/-- The bytes of a frame as sent over a path by a unit. -/
def Frame.bytes (f : Frame) (unit path : Nat) : List Byte :=
  let records := f.records.flatMap StreamRecord.bytes
  let head := le 2 0x5C0F ++ [1] ++ le 1 unit ++ le 4 f.stream ++ le 8 f.seq ++ le 8 f.first ++ le 1 f.time ++ le 1 path ++
    le 1 f.flags ++ [0] ++ le 2 f.records.length ++ le 2 records.length
  head ++ le 4 (crc32c (head ++ records)) ++ records

/-- Bytes of records a frame holds: the smaller MTU of U0 and U1 less IP, UDP and frame headers (R143, R290). -/
def State.frameRoom (s : State) : Nat := min (s.uplinkNow 0).mtu (s.uplinkNow 1).mtu - 64

/-- Records packed into frames in order; a run of points is continued in the next frame, no other record spans frames
(R285, R289). A record longer than a whole frame stands in one of its own. -/
def packRecords (room : Nat) : Nat → List StreamRecord → List StreamRecord → Nat → List (List StreamRecord)
  | 0, _, cur, _ => [cur.reverse]
  | _ + 1, [], [], _ => []
  | _ + 1, [], cur, _ => [cur.reverse]
  | fuel + 1, r :: rest, cur, left =>
    if r.size ≤ left then packRecords room fuel rest (r :: cur) (left - r.size)
    else match r with
      | .points t first l =>
        let n := (left - 16) / 5
        if n = 0 then
          if cur.isEmpty then packRecords room fuel rest [r] 0
          else cur.reverse :: packRecords room fuel (r :: rest) [] room
        else packRecords room fuel (.points t (first + n) (l.drop n) :: rest) (.points t first (l.take n) :: cur) 0
      | r =>
        if cur.isEmpty then packRecords room fuel rest [r] 0
        else cur.reverse :: packRecords room fuel (r :: rest) [] room

def packAll (room : Nat) (l : List StreamRecord) : List (List StreamRecord) :=
  packRecords room (2 * l.length + recordsSize l / 50 + 4) l [] room

/-! ### The stream rate (R292) -/

/-- Runs of consecutive numbers that meet `p`, as first and count. -/
def runsOf (p : Nat → Bool) (l : List Nat) : List (Nat × Nat) :=
  (l.foldl (fun (acc : List (Nat × Nat)) i =>
    if p i then
      match acc with
      | (f, n) :: rest => if f + n = i then (f, n + 1) :: rest else (i, 1) :: acc
      | [] => [(i, 1)]
    else acc) []).reverse

def groupsOn (on : Nat → Bool) : List Nat :=
  (List.range 12).filter fun g => (List.range 8).any fun i => on (8 * g + i)

/-- Bytes of one tick's frames. -/
def framesBytes (room : Nat) (l : List StreamRecord) : Nat := ((packAll room l).map fun x => 36 + recordsSize x).sum

/-- Whether the stream rate of a setting exceeds 1,000 MB/s (R292). -/
def rateBad (t n d fastCount : Nat) (excluded : Tab Bool) (s : State) : Bool :=
  let pts := (runsOf (fun p => !excluded.has p) (List.range 8192)).map fun r =>
    StreamRecord.points 0 r.1 (List.replicate r.2 (0, 0))
  let g := groupsOn fun c => (s.channelCfg c).enabled
  let mm := if g.isEmpty then [] else [StreamRecord.minmax 0 0 (g.map fun _ => ([], []))]
  let fast := if fastCount = 0 then [] else [StreamRecord.fast 0 n fastCount (List.replicate (n * fastCount) (0, 0))]
  let room := min (s.uplinkSet 0).mtu (s.uplinkSet 1).mtu - 64
  decide (framesBytes room (pts ++ mm ++ fast) + (d - 1) * framesBytes room fast > 1000 * d * t)

/-! ### Sending (R291, R295, R296) -/

def State.hostAddr (s : State) (u : Nat) : U32 := if u = 0 then s.acq.stream.hostU0 else s.acq.stream.hostU1
def State.hostSet (s : State) : Bool := s.acq.stream.hostU0 != 0 || s.acq.stream.hostU1 != 0

/-- An uplink can carry the stream: its link is up and the host has an address on it. -/
def State.pathOk (s : State) (u : Nat) : Bool := s.uplinkUp u && s.hostAddr u != 0

/-- Bytes go out on an uplink from UDP port 50,649: to the host on U0 and U1, to the copy address on U2 and U3 (R291, R296). -/
def sendStream (u : Nat) (bytes : List Byte) (s : State) : State :=
  let c := s.acq.stream
  let dest := if u < 2 then (s.hostAddr u, c.hostPort) else (c.copyAddr, c.copyPort)
  sentOn u 1 (emit (.streamBytes u dest.1 dest.2 bytes) s)

/-- A frame is sent on the path with flags added. -/
def sendFrame (flags : Nat) (f : Frame) (s : State) : State :=
  if s.pathOk s.acq.path then
    sendStream s.acq.path (Frame.bytes { f with flags := f.flags + flags } s.cfg.unit s.acq.path) s
  else s

/-- A frame first packed: to the path while the host is reachable, with a copy to each STREAM uplink (R291, R296). -/
def sendFirst (f : Frame) (s : State) : State :=
  if !s.hostSet then s
  else
    let s := if s.acq.reachable then sendFrame 0 f s else s
    forN 2 (fun i s =>
      if (s.acq.stream.copy).getLsbD i && (s.uplinkNow (2 + i)).role = 1 && s.uplinkUp (2 + i) then
        sendStream (2 + i) (f.bytes s.cfg.unit (2 + i)) s
      else s) s

/-! ### Ring and spill (R297 to R300) -/

def ringSize (l : List Frame) : Nat := (l.map Frame.size).sum

/-- Bytes of the Stockpot ring (R21), less its pages lost (R451). -/
def State.ringRoom (s : State) : Nat := 24 * 2 ^ 30 - 4096 * s.sys.ringLost

/-- Bytes of the spill area (R22), less the blocks its reserve could not replace (R453). -/
def spillRoom : Nat := 160 * 2 ^ 30

def spillBudget : Nat := 5000000000000000

/-- Why spilling is stopped, as a reason of R287, for a block of `n` bytes; 0 while it may go on (R300). -/
def State.spillStop (s : State) (n : Nat) : Nat :=
  if s.sys.hot then 5
  else if s.acq.budget + n > spillBudget then 4
  else if s.acq.spillDead || ringSize s.acq.spill + n > spillRoom then 3
  else 0

/-- The oldest frames of a list that fill a block of 1 MiB. -/
def takeBlock : List Frame → Nat → List Frame
  | [], _ => []
  | f :: r, n => if n ≥ 2 ^ 20 then [] else f :: takeBlock r (n + f.size)

/-- Spilling ends, with its record (R298, R299). -/
def stopSpill (reason : Nat) (s : State) : State :=
  if !s.acq.spilling then s
  else
    let s := note 9 .spillStop [reason] { s with acq.spilling := false }
    if reason = 4 then note 9 .spillBudget [] s else s

/-- One block is moved from the ring to the spill area while less than 256 MiB of the ring is free (R298). -/
def spillBlock (s : State) : State :=
  if s.acq.reachable || !s.hostSet || s.acq.ring.isEmpty || ringSize s.acq.ring + 2 ^ 28 ≤ s.ringRoom then s
  else
    let b := takeBlock s.acq.ring 0
    let n := ringSize b
    match s.spillStop n with
    | 0 =>
      let s := if s.acq.spilling then s else note 9 .spillStart [] s
      { s with acq.spilling := true, acq.ring := s.acq.ring.drop b.length, acq.spill := s.acq.spill ++ b,
               acq.budget := s.acq.budget + n }
    | reason => stopSpill reason s

/-- The oldest frame of the ring is overwritten: it joins or opens a lost range (R300). -/
def loseOldest (reason : Nat) (s : State) : State :=
  match s.acq.ring with
  | [] => s
  | f :: rest =>
    let joined := match s.acq.lost.getLast? with
      | some (a, b, c, _, r) =>
        if b + 1 = f.seq then some (s.acq.lost.dropLast ++ [(a, f.seq, c, f.lastTick, r)]) else none
      | none => none
    match joined with
    | some l => { s with acq.ring := rest, acq.lost := l }
    | none =>
      { s with acq.ring := rest, acq.lostNew := true,
               acq.lost := s.acq.lost ++ [(f.seq, f.seq, f.first, f.lastTick, reason)] }

/-- Room is made in the ring for `n` bytes; `fuel` bounds the frames overwritten. -/
def makeRoom (n reason : Nat) : Nat → State → State
  | 0, s => s
  | fuel + 1, s => if ringSize s.acq.ring + n ≤ s.ringRoom then s else makeRoom n reason fuel (loseOldest reason s)

/-- A frame enters the ring (R297) and is sent. -/
def pushFrame (f : Frame) (s : State) : State :=
  let s := forN 256 (fun _ s => spillBlock s) s
  let reason := if s.acq.reachable || !s.hostSet then 1 else match s.spillStop (ringSize (takeBlock s.acq.ring 0)) with
    | 0 => 1
    | r => r
  let s := makeRoom f.size reason s.acq.ring.length s
  sendFirst f { s with acq.ring := s.acq.ring ++ [f] }

/-! ### Packing (R289, R300) -/

/-- The GAP record of the newest lost range, for the next live frame (R300). -/
def lostGap (tick : Nat) (s : State) : List StreamRecord :=
  if s.acq.lostNew then
    match s.acq.lost.getLast? with
    | some (a, b, c, d, r) => [.gap tick a b c d r]
    | none => []
  else []

/-- The records of one tick go into frames, each sent and kept (R289, R290). -/
def packTick (w : TickRecords) (s : State) : State :=
  let gap := lostGap w.tick s
  let records := gap ++ w.head ++ w.marks.map (.mark w.tick) ++ w.rest
  let gaps := (records.filter fun r => r.kind == 5).length
  let s := { s with acq.lostNew := false, acq.gaps := s.acq.gaps + gaps }
  forAll (packAll s.frameRoom records) (fun l s =>
    let f : Frame := { stream := s.acq.streamId, seq := s.acq.nextSeq, first := (l.head?.map StreamRecord.tick).getD w.tick,
                       time := s.time.state.code, flags := 0, records := l }
    pushFrame f { s with acq.nextSeq := s.acq.nextSeq + 1 }) s

/-- RECORD_PACKING (R289): at boundary k + 2 the records of tick k, the last but one tick that has ended. -/
def recordPackingEffect (s : State) : State :=
  let n := s.acq.waiting.length - 1
  if s.acqDark then s
  else forAll (s.acq.waiting.take n) packTick { s with acq.waiting := s.acq.waiting.drop n }

/-! ### Acknowledgement, drain, paths and probes (R293 to R295, R300, R301) -/

/-- The replaced frame of a lost range: the first lost seq and one GAP record (R300). -/
def replacedFrame (r : Nat × Nat × Nat × Nat × Nat) (s : State) : Frame :=
  { stream := s.acq.streamId, seq := r.1, first := r.2.2.1, time := s.time.state.code, flags := 16,
    records := [.gap r.2.2.1 r.1 r.2.1 r.2.2.1 r.2.2.2.1 r.2.2.2.2] }

/-- The backlog in ascending seq: spilled frames, earlier streams first, and replaced frames of the lost ranges. -/
def State.backlog (s : State) : List (Nat × Frame) :=
  let old := s.acq.spill.filter fun f => f.stream != s.acq.streamId
  let spilled := (s.acq.spill.filter fun f => f.stream == s.acq.streamId).map fun f => (4, f)
  let lost := s.acq.lost.map fun r => (0, replacedFrame r s)
  old.map (fun f => (4, f)) ++
    sortBy (fun a b => decide (a.2.seq < b.2.seq)) (spilled ++ lost ++ s.acq.ring.map fun f => (0, f))

/-- The backlog is sent on the path, with a flag: 1 resent, 2 drained (R290, R295, R297). -/
def sendBacklog (flag : Nat) (s : State) : State :=
  let l := s.backlog
  let s := forAll l (fun x s => sendFrame (flag + x.1) x.2 s) s
  if flag = 1 then { s with acq.resent := s.acq.resent + l.length } else s

/-- Loss of the path (R295): the stream moves to the other uplink, or the host is unreachable. -/
def losePath (byAck : Bool) (s : State) : State :=
  let s := if byAck then
      if s.acq.path = 0 then { s with acq.ackLost0 := true } else { s with acq.ackLost1 := true }
    else s
  let other := 1 - s.acq.path
  let otherLost := if other = 0 then s.acq.ackLost0 else s.acq.ackLost1
  if s.pathOk other && !otherLost then
    sendBacklog 1 (note 9 .streamPath [other] { s with acq.path := other, acq.lastAck := s.sys.opNs })
  else note 9 .unreachable [1] { s with acq.reachable := false }

/-- PATH_TIMEOUT (R295), also judged when a link goes down. -/
def pathTimeoutEffect (s : State) : State :=
  if s.acqDark && s.sys.mode != .halt || !s.acq.reachable || !s.hostSet then s
  else if !s.pathOk s.acq.path then losePath false s
  else if s.sys.opNs - s.acq.lastAck ≥ s.acq.stream.ackMs * 1000000 then losePath true s
  else s

/-- The seq of a probe, which the manual does not state. -/
def probeSeq (s : State) : Nat := Config.unstated 40 [s.acq.nextSeq, s.acq.ackSeq] % 2 ^ 64

/-- PROBE_SEND (R295): a probe frame, alternately on U0 and U1. -/
def probeSendEffect (s : State) : State :=
  if s.acq.reachable || !s.hostSet || (s.acqDark && s.sys.mode != .halt) then s
  else
    let u := if s.acq.probeU1 then 1 else 0
    let first := (s.backlog.head?.map (·.2.first)).getD s.time.tick
    let f : Frame := { stream := s.acq.streamId, seq := probeSeq s, first, time := s.time.state.code, flags := 8, records := [] }
    let s := { s with acq.probeU1 := !s.acq.probeU1 }
    if s.pathOk u then sendStream u (f.bytes s.cfg.unit u) s else s

/-- An acknowledgement that passes its checks (R293). -/
def ackGood (b : List Byte) : Bool :=
  let n := rd b 16 1
  rd b 0 2 = 0x5C0A && rd b 2 1 = 1 && rd b 3 1 = 1 && n ≤ 32 && b.length = 24 + 12 * n && rd b 17 3 = 0 &&
    crc32c (b.take (20 + 12 * n)) = rd b (20 + 12 * n) 4

/-- The frame of a seq that the module holds, with the spill flag. -/
def State.heldFrame (s : State) (stream seq : Nat) : Option (Nat × Frame) :=
  match s.acq.ring.find? fun f => f.stream == stream && f.seq == seq with
  | some f => some (0, f)
  | none => (s.acq.spill.find? fun f => f.stream == stream && f.seq == seq).map fun f => (4, f)

/-- One frame named by a nack is sent again, or replaced (R294, R300); ranges already replaced are not sent twice. -/
def resendOne (stream seq : Nat) (acc : State × List Nat) : State × List Nat :=
  let s := acc.1
  match s.heldFrame stream seq with
  | some (fl, f) => (sendFrame (1 + fl) f { s with acq.resent := s.acq.resent + 1 }, acc.2)
  | none =>
    if stream = s.acq.streamId && seq ≥ s.acq.nextSeq then acc
    else
      let r := (s.acq.lost.find? fun r => stream == s.acq.streamId && r.1 ≤ seq && seq ≤ r.2.1).getD (seq, seq, 0, 0, 1)
      if acc.2.contains r.1 then acc
      else (sendFrame 1 { replacedFrame r s with stream } { s with acq.resent := s.acq.resent + 1 }, r.1 :: acc.2)

/-- An acknowledgement has come on an uplink; `mine` tells that it is addressed to the stream of the module (R294). -/
def ackArrives (u : Nat) (src : U32) (b : List Byte) (mine : Bool) (s : State) : State :=
  let stream := rd b 4 4
  let known := stream = s.acq.streamId || s.acq.spill.any fun f => f.stream == stream
  if !mine || (s.acqDark && s.sys.mode != .halt) then s
  else if !ackGood b || src != s.hostAddr u || src = 0 || !known then { s with acq.acksDropped := s.acq.acksDropped + 1 }
  else
    let a := rd b 8 8
    let free := fun (l : List Frame) => l.filter fun f => f.stream != stream || a ≤ f.seq
    let s := { s with acq.ring := free s.acq.ring, acq.spill := free s.acq.spill, acq.ackLost0 := false, acq.ackLost1 := false }
    let s := if stream = s.acq.streamId then
        { s with acq.ackSeq := max s.acq.ackSeq (min a s.acq.nextSeq), acq.lost := s.acq.lost.filter fun r => a ≤ r.2.1 }
      else s
    let s := if !s.acq.reachable then
        let s := stopSpill 0 { s with acq.reachable := true, acq.path := u, acq.lastAck := s.sys.opNs }
        sendBacklog 2 (note 9 .streamPath [u] (note 9 .unreachable [0] s))
      else if u = s.acq.path then { s with acq.lastAck := s.sys.opNs }
      else s
    let nacks := (List.range (rd b 16 1)).flatMap fun i =>
      (List.range (rd b (28 + 12 * i) 2)).map (rd b (20 + 12 * i) 8 + ·)
    (forAll nacks (resendOne stream) (s, [])).1

/-- ACKNOWLEDGEMENT (R293 to R295, R301): a datagram to the module's address on the uplink and port 50,649 (R291); a retired uplink or
one without link brings none (R144). -/
def acknowledgementEffect (u : Nat) (src dst : U32) (port : U16) (b : List Byte) (s : State) : State :=
  if !s.uplinkUp u then s
  else ackArrives u src b (dst = (s.uplinkNow u).addr && port.toNat = 50649) (heardOn u 1 s)

/-! ### Extremes and fast values (R282, R283) -/

/-- The extremes of a channel with one more sample (R282). -/
def MinMax.add (x : MinMax) (p : Sample) : MinMax :=
  let fresh := !x.some || (!p.settling && !x.clean)
  if p.settling && x.clean then { x with settled := true }
  else
    { lo := if fresh || fLt p.value x.lo then p.value else x.lo, hi := if fresh || fLt x.hi p.value then p.value else x.hi,
      some := true, clean := !p.settling, ovr := p.ovr || (!fresh && x.ovr), settled := x.settled || p.settling,
      urgent := p.urgent || (!fresh && x.urgent) }

/-- The flags of a MINMAX channel (R285). -/
def minmaxFlags (c : Nat) (x : MinMax) (s : State) : Byte :=
  if !s.channelOn c then 0
  else BitVec.ofNat 8 (b01 x.ovr 1 + b01 x.settled 2 + b01 (!x.some) 4 +
    b01 (s.isRetired (resource 3 c) || s.isRetired (resource 2 (c / 8))) 8 + b01 x.urgent 16 + b01 (x.some && !x.clean) 32)

/-- The MINMAX record of the interval that ends with the tick. -/
def minmaxRecord (s : State) : List StreamRecord :=
  let groups := groupsOn s.channelOn
  if groups.isEmpty then []
  else
    let one := fun (g : Nat) =>
      let l := (List.range 8).map fun i => (8 * g + i, s.acq.minmax.getD (8 * g + i) {})
      (l.map fun x => if s.channelOn x.1 then (x.2.lo, x.2.hi) else (0, 0), l.map fun x => minmaxFlags x.1 x.2 s)
    [.minmax s.time.tick (BitVec.ofNat 16 (groups.map (2 ^ ·)).sum) (groups.map one)]

/-- The POINTS records of the interval that ends with the tick: a run to a record (R281, R285). -/
def pointsRecords (s : State) : List StreamRecord :=
  (runsOf (fun p => !s.acq.excluded.has p) (List.range 8192)).map fun r =>
    .points s.time.tick r.1 ((List.range r.2).map fun i => ((s.entry (r.1 + i)).value, (s.entry (r.1 + i)).status))

/-- The prompt loop and input that a fast INPUT entry names. -/
def State.fastInput (s : State) (p : Nat) : Option (Nat × Nat) :=
  s.wired.findSome? fun l =>
    if (s.wiring l).prompt then
      (firstIdx (fun x => x == p) ((s.wiring l).inPoint.take (s.wiring l).ny)).map fun i => (l, i)
    else none

/-- The value of a fast entry for the fast tick that ends (R283). -/
def fastValue (s : State) (e : Nat) : U32 × Byte :=
  let p := e % 8192
  if e < 0x8000 then (s.value p, (s.entry p).status)
  else
    match s.fastInput p with
    | none => (s.value p, { s.entry p with valid := false }.status)
    | some (l, i) =>
      let x := s.loop l
      let used := s.loopRuns l && !x.unusable.getLsbD i
      (at0 x.lastUsable i, { s.entry p with valid := used }.status)

/-- FAST values of the fast ticks that have ended, up to `n` (R283). -/
def fillFast (n : Nat) (s : State) : State :=
  let k := s.acq.fastSet.length
  forN n (fun _ s =>
    if s.acq.fastVals.length ≥ n * k then s
    else { s with acq.fastVals := s.acq.fastVals ++ s.acq.fastSet.map (fastValue s) }) s

/-- The start of fast tick `j` ends the fast ticks before it. -/
def acqFastTick (j : Nat) (s : State) : State := if s.packs then fillFast j s else s

/-! ### Triggers (R302 to R306) -/

/-- One evaluation of a trigger (R303): its state after the value, and the edge on which it fires (1 rising, 2 falling). -/
def Trigger.eval (c : TriggerCfg) (x : Trigger) (stamp : Nat) (v : F32) : Trigger × Nat :=
  let rise := c.edge != 2 && x.up && fLt c.level v
  let fall := c.edge != 1 && x.down && fLt v c.level
  let up := if rise then false else x.up || fLe v (fSub c.level c.hyst)
  let down := if fall then false else x.down || fLe (fAdd c.level c.hyst) v
  ({ x with up := up && c.edge != 2, down := down && c.edge != 1, last := some (stamp, v) },
    if rise then 1 else if fall then 2 else 0)

/-- The whole part of a value that is not negative. -/
def fFloor (x : F32) : Nat :=
  if !fFinite x || fSign x then 0
  else if fPow x ≥ 0 then fMant x <<< (fPow x).toNat else fMant x >>> (-fPow x).toNat

def State.skew (s : State) (c : Nat) : U16 := s.sys.factory.skew.getD c 0

/-- Placement of a SAMPLE mark between its bracketing samples (R305): frac and the placed stamp. -/
def placeMark (skew : U16) (rising : Bool) (level : F32) (t1 : Nat) (v1 : F32) (t2 : Nat) (v2 : F32) : Nat × Nat :=
  let ratio := if rising then fDiv (fSub level v1) (fSub v2 v1) else fDiv (fSub v1 level) (fSub v1 v2)
  let frac := min (fFloor (fMul (fOfNat 256) ratio)) 255
  let stamp : Int := t1 + (frac * (t2 - t1) / 256 : Nat) - skew.toInt
  (frac, (stamp % 2 ^ 64).toNat)

/-- A trigger has its mark of the tick already (R304). -/
def State.marked (s : State) (t : Nat) : Bool := s.acq.locals.any fun m => m.mask.getLsbD t

/-- A further firing of a trigger in the tick (R304). -/
def extraFiring (t : Nat) (s : State) : State :=
  updTrigger t (fun x => { x with extra := x.extra + 1 })
    { s with acq.locals := s.acq.locals.map fun m => if m.trigger = t then { m with extra := m.extra + 1 } else m }

/-- Triggers of one point evaluated on one value (R302 to R304): those that fire for the first time in the tick give one
mark, placed by the lowest of them. `place` gives frac, stamp and interval from edge, level, stamp and value before. -/
def evalTriggers (ts : List Nat) (point stamp : Nat) (v : F32)
    (place : Bool → F32 → Nat → F32 → Nat × Nat × Nat) (s : State) : State :=
  let (s, fired) : State × List (Nat × Nat × Nat × F32) := forAll ts (fun t (acc : State × List (Nat × Nat × Nat × F32)) =>
    let x := acc.1.trigger t
    let r := Trigger.eval (acc.1.triggerNow t) x stamp v
    let s := updTrigger t (fun _ => r.1) acc.1
    if r.2 = 0 then (s, acc.2)
    else if s.marked t then (extraFiring t s, acc.2)
    else (s, acc.2 ++ [(t, r.2, x.last.getD (stamp, v))])) (s, [])
  match fired with
  | [] => s
  | (t, edge, t1, v1) :: _ =>
    let (frac, placed, interval) := place (edge = 1) (s.triggerNow t).level t1 v1
    let m : Mark := { trigger := t, source := 0, edge, unit := s.cfg.unit, mask := BitVec.ofNat 64 (fired.map fun f => 2 ^ f.1).sum,
                      point, frac, stamp := placed, interval, before := v1, after := v }
    let s := { s with acq.locals := s.acq.locals ++ [m] }
    forAll fired (fun f s => updTrigger f.1 (fun x =>
      { x with marks := x.marks + 1, lastTick := s.time.tick, lastStamp := placed }) s) s

/-- Enabled triggers in a mode on a point, ascending (R304). -/
def State.triggersOn (s : State) (perTick : Bool) (p : Nat) : List Nat :=
  (s.acq.triggers.cells.filter fun x => x.2.enabled && x.2.perTick == perTick && x.2.point == p).map (·.1)

/-- A sample of a channel reaches acquisition (R282, R302). -/
def acqSample (c : Nat) (s : State) : State :=
  match (s.channel c).inTick.getLast? with
  | none => s
  | some x =>
    if !s.sys.acqUp || s.acqDark then s
    else
      let s := { s with acq.minmax := s.acq.minmax.upd c {} (·.add x) }
      if x.settling then s
      else
        let t2 := s.toolNs + x.sub
        evalTriggers (s.triggersOn false c) c t2 x.value (fun rising level t1 v1 =>
          let r := placeMark (s.skew c) rising level t1 v1 t2 x.value
          (r.1, r.2, t2 - t1)) s

/-- The value of a point as a POINT trigger compares it: another format as its number (R78, R302). -/
def State.pointNumber (s : State) (p : Nat) : F32 :=
  match (s.ownerNow p).format.toNat with
  | 0 => s.value p
  | 1 => fOfInt (s.value p).toInt
  | _ => fOfNat (s.value p).toNat

/-- POINT triggers of the tick that has been resolved (R302, R304, R306). -/
def pointTriggers (s : State) : State :=
  let pts := ((s.acq.triggers.cells.filter fun x => x.2.enabled && x.2.perTick).map (·.2.point)).eraseDups
  forAll (sortBy (fun a b => decide (a < b)) pts) (fun p s =>
    if !(s.entry p).usable then s
    else
      let stamp := s.toolNs + 16 * (s.entry p).sub.toNat
      evalTriggers (s.triggersOn true p) p stamp (s.pointNumber p) (fun _ _ _ _ => (0, stamp, 0)) s) s

/-! ### Segmented capture (R311 to R314) -/

def State.captures (s : State) : Bool :=
  (s.acqMode = 1 || s.acqMode = 2) && s.sys.acqUp && !s.acqDark && s.acq.armed && s.cfg.segCfg.isSome

def State.segment (s : State) (i : Nat) : Segment := s.acq.segs.getD i {}
def updSegment (i : Nat) (f : Segment → Segment) (s : State) : State := { s with acq.segs := s.acq.segs.upd i {} f }

/-- Value and quality of a source of a capture (R311). -/
def captureSource (s : State) (src : Nat) : U32 × Nat :=
  if src ≥ 0x8000 then
    let c := src % 0x8000
    let ch := s.channel c
    let v := match ch.inTick.getLast? with
      | some x => x.value
      | none => convertCode s c (ch.lastWord.setWidth 18)
    if ch.samples = 0 then (0, 3)
    else (v, if s.pointRetired c then 3 else if ch.lastWord.getLsbD 22 then 2 else if ch.lastWord.getLsbD 21 then 1 else 0)
  else
    let e := s.entry (src % 8192)
    (e.value, if !e.valid || e.retired then 3 else if e.settling || e.stale then 2 else if e.ovr then 1 else 0)

/-- The 16 words of a capture (R311). -/
def captureWords (cfg : SegCfg) (s : State) : List U32 :=
  let l := cfg.sources.map (captureSource s)
  let v : List U32 := l.map fun x => x.1
  ((v ++ List.replicate 15 0).take 15) ++ [BitVec.ofNat 32 (l.zipIdx.map fun x => x.1.2 * 4 ^ x.2).sum]

/-- The trigger capture of a stamp: the first capture at or after it (R312). -/
def triggerCapture (cfg : SegCfg) (stamp : Nat) : Nat :=
  let c := cfg.interval * 1000
  (stamp + c - 1) / c * c

/-- The segment in progress has its last capture: the next one is armed, or the capture stops (R312). -/
def endSegment (cfg : SegCfg) (complete : Bool) (s : State) : State :=
  let i := s.acq.segCurrent
  let s := updSegment i (fun x => { x with complete }) s
  { s with acq.segLeft := none, acq.segCurrent := i + 1, acq.segArmed := decide (i + 1 < cfg.segments) }

/-- Captures held since arming are kept for the pre-trigger part and for marks known a tick late. -/
def ringKeep (cfg : SegCfg) (s : State) : Nat := cfg.length + 3 * s.time.periodUs / max 1 cfg.interval + 1

/-- A capture is taken: into the segment in progress, or among the pre-trigger captures (R312). -/
def addCapture (cfg : SegCfg) (t : Nat) (words : List U32) (s : State) : State :=
  match s.acq.segLeft with
  | some n =>
    let s := updSegment s.acq.segCurrent (fun x => { x with captures := x.captures ++ [words] }) s
    if n ≤ 1 then { endSegment cfg true s with acq.preRing := [], acq.segFrom := t + 1 }
    else { s with acq.segLeft := some (n - 1) }
  | none =>
    if s.acq.segArmed then { s with acq.preRing := ((t, words) :: s.acq.preRing).take (ringKeep cfg s) } else s

/-- A segment starts on a mark whose trigger capture has been taken (R312, R313). -/
def startSegment (cfg : SegCfg) (tick : Nat) (m : Mark) (tc : Nat) (s : State) : State :=
  let held := s.acq.preRing.reverse
  let pre := held.filter fun x => x.1 < tc
  let pre := pre.drop (pre.length - cfg.pre)
  let post := held.filter fun x => tc ≤ x.1
  let want := cfg.length - cfg.pre
  let now := post.take want
  let first := (pre.head?.map (·.1)).getD tc
  let g : Segment :=
    { short := decide (pre.length < cfg.pre), halyard := m.source = 1, mask := m.mask, unit := m.unit, stamp := m.stamp, tick, first,
      pre := pre.length, captures := (pre ++ now).map (·.2), busy := s.acq.missedBusy, rearm := s.acq.missedRearm,
      sources := cfg.sources.length, interval := cfg.interval * 1000, capture := s.acq.captureId }
  let s := { s with acq.segs := s.acq.segs.put s.acq.segCurrent g, acq.missedBusy := 0, acq.missedRearm := 0, acq.preRing := [] }
  if now.length = want then
    let later := post.drop want
    { endSegment cfg true s with
      acq.preRing := later.reverse, acq.segFrom := (now.getLast?.map (·.1)).getD tc + 1 }
  else { s with acq.segLeft := some (want - now.length) }

/-- What becomes of a mark that asks for a segment: none while its trigger capture is still to come (R312, R313). -/
def placeSegment (cfg : SegCfg) (tick : Nat) (m : Mark) (now : Nat) (s : State) : Option State :=
  let tc := triggerCapture cfg m.stamp
  let last := if s.acq.segLeft.isSome then s.acq.segCurrent else s.acq.segCurrent - 1
  let g := s.segment last
  let gtc := triggerCapture cfg g.stamp
  let started := s.acq.segs.has last
  let endT := g.first + (g.pre + (cfg.length - cfg.pre)) * g.interval
  if started && tc = gtc then some (updSegment last (fun x => { x with mask := x.mask ||| m.mask }) s)
  else if started && gtc < tc && tc < endT then some { s with acq.missedBusy := s.acq.missedBusy + 1 }
  else if !s.acq.segArmed then some { s with acq.missedFull := s.acq.missedFull + 1 }
  else if tc < s.acq.segFrom then some { s with acq.missedRearm := s.acq.missedRearm + 1 }
  else if now < tc || s.acq.preRing.all (fun x => x.1 < tc) then none
  else some (startSegment cfg tick m tc s)

/-- The marks that wait for their trigger capture are looked at in order. -/
def placeSegments (now : Nat) (s : State) : State :=
  match s.cfg.segCfg with
  | none => s
  | some cfg =>
    forAll s.acq.segPending (fun x s =>
      match placeSegment cfg x.1 x.2 now s with
      | some s => s
      | none => { s with acq.segPending := s.acq.segPending ++ [x] }) { s with acq.segPending := [] }

/-- A mark asks for a segment: a LOCAL one by a trigger with the segment flag, a HALYARD one while some enabled trigger
has it (R312, R313). -/
def segmentMark (tick : Nat) (m : Mark) (s : State) : State :=
  let seg := s.acq.triggers.cells.filter fun x => x.2.enabled && x.2.segment
  let asks := if m.source = 1 then !seg.isEmpty else seg.any fun x => m.mask.getLsbD x.1
  if s.captures && asks then { s with acq.segPending := s.acq.segPending ++ [(tick, m)] } else s

/-- SEGMENT_CAPTURE (R311): the next capture of the tick. -/
def segmentCaptureEffect (s : State) : State :=
  match s.cfg.segCfg with
  | none => s
  | some cfg =>
    if !s.captures || s.acq.segCount * cfg.interval ≥ s.time.periodUs then s
    else
      let t := s.toolNs + s.acq.segCount * cfg.interval * 1000
      let s := addCapture cfg t (captureWords cfg s) { s with acq.segCount := s.acq.segCount + 1, acq.lastCapture := t }
      placeSegments t s

/-! ### Arm and fire (R308, R309) -/

/-- A unit on Halyard: any time role but STANDALONE. -/
def State.onHalyard (s : State) : Bool := s.cfg.timeRole != 0

/-- HAL_ARM_DRIVE (R308): the unit that drives HAL_TICK changes the line in the tick that follows its command. -/
def halArmDriveEffect (s : State) : State :=
  match s.acq.armAt with
  | some (t, level) =>
    if s.time.driving && t ≤ s.time.tick then
      emit (.halArm level)
        { s with acq.armAt := none, acq.halArmOut := level, time.halArm := level, acq.armNext := some level }
    else s
  | none => s

/-- HAL_ARM_EDGE (R49, R308): the armed state changes at the next boundary. -/
def halArmEdgeEffect (high : Bool) (s : State) : State :=
  let s := { s with time.halArm := high }
  if s.onHalyard then { s with acq.armNext := some high } else s

/-- HAL_FIRE_DRIVE (R309): unit u pulls HAL_FIRE_N at T/4 + u·T/32 of the tick after its firing, once, to 3T/4. -/
def halFireDriveEffect (s : State) : State :=
  if s.acq.fireDue && s.onHalyard then
    emit (.halFire (s.periodNs / 4 + s.cfg.unit * s.periodNs / 32) (3 * s.periodNs / 4)) { s with acq.fireDue := false }
  else s

/-- The unit number an edge of HAL_FIRE_N names (R309), from its offset in the tick. -/
def firingUnit (t sub : Nat) : Nat := min (((sub + t / 64 - t / 4) * 32) / t) 15

/-- HAL_FIRE_EDGE (R49, R309): the first edge in the window of the tick gives a HALYARD mark of the tick before. -/
def halFireEdgeEffect (sub : Nat) (s : State) : State :=
  if !(s.acq.armed && s.onHalyard) then s
  else if sub < s.periodNs / 4 || sub > 3 * s.periodNs / 4 + 100 then { s with acq.edgesIgnored := s.acq.edgesIgnored + 1 }
  else if s.acq.fireSeen then s
  else
    let m : Mark := { source := 1, unit := firingUnit s.periodNs sub, stamp := s.toolNs + sub }
    segmentMark (s.time.tick - 1) m { s with acq.fireSeen := true, acq.halMark := some m }

/-! ### The tick (R281, R289, R304) -/

/-- CRC-32C of the record set's bitmap, point 0 in bit 0 of byte 0 (R288). -/
def recordSetCrc (excluded : Tab Bool) : Nat :=
  crc32c ((List.range 1024).map fun i =>
    BitVec.ofNat 8 ((List.range 8).map fun j => if excluded.has (8 * i + j) then 0 else 2 ^ j).sum)

/-- The bytes of a trigger entry (R302). -/
def triggerBytes (c : TriggerCfg) : List Byte :=
  leBool c.enabled ++ le 2 c.point ++ leBool c.perTick ++ le 1 c.edge ++ le 1 (b01 c.fireHal 1 + b01 c.segment 2) ++
    leF c.level ++ leF c.hyst

def triggersCrc (t : Tab TriggerCfg) : Nat := crc32c ((List.range 64).flatMap fun i => triggerBytes (t.getD i {}))

/-- The CONFIG record of the tick (R288). -/
def configRecord (s : State) : StreamRecord :=
  .config s.time.tick s.time.periodUs s.time.fastN s.acq.fastSet.length s.acq.stream.divisor s.acq.timeSteps
    (BitVec.ofNat 32 (recordSetCrc s.acq.excluded)) (BitVec.ofNat 32 (triggersCrc s.acq.triggers)) s.acq.fastSet

/-- The HALYARD mark of the tick before joins its records, after the LOCAL and before the HOST marks (R289). -/
def joinHalMark (s : State) : State :=
  match s.acq.halMark, s.acq.waiting.getLast? with
  | some m, some w =>
    let w := { w with marks := w.marks.filter (·.source == 0) ++ [m] ++ w.marks.filter (·.source == 2) }
    { s with acq.halMark := none, acq.waiting := s.acq.waiting.dropLast ++ [w] }
  | _, _ => { s with acq.halMark := none }

/-- The records of the tick that has been resolved (R289). -/
def tickRecords (s : State) : TickRecords :=
  let ends := (s.time.tick + 1) % s.acq.stream.divisor = 0
  let fast : List StreamRecord :=
    if s.acq.fastSet.isEmpty then [] else [.fast s.time.tick s.time.fastN s.acq.fastSet.length s.acq.fastVals]
  { tick := s.time.tick, head := s.acq.gapDue.toList ++ (if s.acq.configDue then [configRecord s] else []),
    marks := s.acq.locals ++ s.acq.hosts, rest := (if ends then pointsRecords s ++ minmaxRecord s else []) ++ fast }

/-- The end of a tick, after its resolution and before the next begins. -/
def acqEndTick (s : State) : State :=
  let s := joinHalMark s
  if !s.sys.acqUp || s.acqDark then { s with acq.locals := [], acq.hosts := [], acq.fastVals := [], acq.fireDue := false }
  else
    let s := pointTriggers s
    let s := { s with acq.locals := sortBy (fun a b => decide (a.trigger < b.trigger)) s.acq.locals }
    let s := { s with acq.fireDue := s.acq.armed && s.onHalyard && s.acq.locals.any fun m =>
      (List.range 64).any fun t => m.mask.getLsbD t && (s.triggerNow t).fireHal }
    let s := placeSegments s.acq.lastCapture (forAll s.acq.locals (segmentMark s.time.tick) s)
    let ends := (s.time.tick + 1) % s.acq.stream.divisor = 0
    let s := if s.packs then
        let s := fillFast s.time.fastN s
        { s with acq.waiting := s.acq.waiting ++ [tickRecords s], acq.configDue := false, acq.gapDue := none }
      else s
    { s with acq.locals := [], acq.hosts := [], acq.fastVals := [], acq.minmax := if ends then {} else s.acq.minmax }

/-- A trigger entry comes into use: disarmed whenever enabled or changed (R303). -/
def useTrigger (t : Nat) (v : TriggerCfg) (s : State) : State :=
  let same := s.triggerNow t = v
  let s := { s with acq.triggers := s.acq.triggers.put t v, acq.configDue := s.acq.configDue || !same }
  if same then s else updTrigger t (fun x => { x with up := false, down := false, last := none }) s

/-- The domain serves again (R444): the lost ticks are replaced by one GAP record with reason 2 (R304). -/
def acqServes (s : State) : State :=
  let box := s.acq.resetBox
  let s := { s with sys.acqUp := true, acq.back := none, acq.resetBox := none,
                    acq.gapDue := some (.gap s.time.tick 0 0 s.acq.lostFrom (s.time.tick - 1) 2) }
  match box with
  | some m => completeRequest m .done [] s
  | none => s

/-- The start of a tick: what comes into effect with it (R302, R308, R280). -/
def acqNewTick (s : State) : State :=
  let now := s.time.tick
  let s := if s.acq.back.any (· ≤ now) then acqServes s else s
  let s := match s.acq.armNext with
    | some on => { s with acq.armed := on, acq.armNext := none }
    | none => s
  let s := match (s.acq.streamPlans.filter fun (x : Nat × StreamCfg) => x.1 ≤ now).getLast? with
    | some (_, c) =>
      { s with acq.stream := c, acq.configDue := s.acq.configDue || c.divisor != s.acq.stream.divisor,
               acq.streamPlans := s.acq.streamPlans.filter fun x => now < x.1 }
    | none => s
  let due := s.lop.plans.filter fun p => !p.ofLoop && p.tick ≤ now
  let s := { s with lop.plans := s.lop.plans.filter (fun p => p.ofLoop || now < p.tick), acq.segCount := 0, acq.fireSeen := false }
  forAll due (fun p s =>
    let s := match p.kind with
      | .trigger t v => useTrigger t v s
      | .arm on => if s.onHalyard then s else { s with acq.armed := on }
      | _ => s
    match p.mailbox with
    | some r => completeTagged r .done [] s
    | none => s) s

/-- The commands the acquisition domain serves (R70, notes/assumptions/13). -/
def acqServesOp (o : Op) : Bool := o.desc.issued && o.desc.cls = 0x0A

/-- ACQUISITION_RESET (R23, R70, R304, R444): staging and trigger state are cleared; the domain serves again 2 ms
later. -/
def acqReset (rank cause : Nat) (s : State) : State :=
  let from' := match s.acq.waiting with | w :: _ => w.tick | [] => s.time.tick
  let s := restartWhere acqServesOp (domainReset rank 4 0 cause (note rank .acqReset [cause] s))
  let s := match s.cfg.segCfg with
    | some cfg => if s.acq.segLeft.isSome then endSegment cfg false s else s
    | none => s
  { s with sys.acqUp := false,
           acq.lostFrom := (if s.acq.back.isSome then s.acq.lostFrom else from'),
           acq.back := some (s.time.tick + s.ticksOfMs 2), acq.waiting := [], acq.locals := [], acq.hosts := [],
           acq.halMark := none, acq.minmax := {}, acq.fastVals := [], acq.fireDue := false, acq.preRing := [], acq.segPending := [],
           acq.trig := ⟨s.acq.trig.cells.map fun x => (x.1, { x.2 with up := false, down := false, last := none })⟩ }

/-- A step of tool time (R32, R288): the next record is a CONFIG record with the count of steps. -/
def acqTimeStep (s : State) : State := { s with acq.timeSteps := s.acq.timeSteps + 1, acq.configDue := true }

/-- The stream of a start (R290, R301): a new stream id, an empty ring; spilled frames of earlier streams stay. -/
def startStream (s : State) : State :=
  { s with acq := { stream := s.cfg.stream, excluded := s.cfg.excluded, fastSet := s.cfg.fastSet, triggers := s.cfg.triggers,
                    streamId := s.sys.startCount, spill := s.acq.spill, spillDead := s.acq.spillDead,
                    budget := s.acq.budget, lastAck := s.sys.opNs } }

/-! ### Commands of class 0x0A (R317) -/

def checkGetStreamStatus (q : Issued) (_ : State) : Bad := firstBad [lenBad q 0]
def runGetStreamStatus (_ : Issued) (s : State) : Reply :=
  say (le 4 s.acq.streamId ++ le 8 s.acq.nextSeq ++ le 8 s.acq.ackSeq ++ le 1 s.acq.path ++ leBool s.acq.reachable ++
    le 8 (ringSize s.acq.ring) ++ le 8 (ringSize s.acq.spill) ++ le 8 (spillBudget - s.acq.budget) ++ leBool s.acq.spilling ++
    le 4 s.acq.gaps ++ le 8 s.acq.resent ++ le 4 s.acq.acksDropped) s

def checkGetTriggerStatus (q : Issued) (_ : State) : Bad := firstBad [lenBad q 1, (q.u8 0 > 63, .badArg)]
def runGetTriggerStatus (q : Issued) (s : State) : Reply :=
  let x := s.trigger (q.u8 0)
  say (triggerBytes (s.cfg.triggers.getD (q.u8 0) {}) ++ leBool (x.up || x.down) ++ le 8 x.marks ++ le 8 x.extra ++
    le 8 x.lastTick ++ le 8 x.lastStamp) s

def checkGetSegmentStatus (q : Issued) (_ : State) : Bad := firstBad [lenBad q 0]
def runGetSegmentStatus (_ : Issued) (s : State) : Reply :=
  let filled := (s.acq.segs.cells.filter fun x => x.2.complete).length
  say (leBool s.acq.armed ++ le 2 s.acq.segCurrent ++ le 2 filled ++ le 4 s.acq.missedFull ++ le 4 s.acq.captureId) s

/-- The stream configuration of a 0x0A.10. -/
def streamOf (q : Issued) : StreamCfg :=
  { mode := some (q.u8 0), divisor := q.u16 1, hostU0 := BitVec.ofNat 32 (q.u32 3), hostU1 := BitVec.ofNat 32 (q.u32 7),
    hostPort := q.u16 11, ackMs := q.u16 13, copy := BitVec.ofNat 8 (q.u8 15), copyAddr := BitVec.ofNat 32 (q.u32 16),
    copyPort := q.u16 20 }

def checkSetStreamConfig (q : Issued) (s : State) : Bad :=
  firstBad [lenBad q 22, (q.u8 0 > 3, .badArg), (q.u16 1 < 1 || q.u16 1 > 1000, .badArg),
    (q.u16 13 < 100 || q.u16 13 > 10000, .badArg), (q.u8 15 > 3, .badArg),
    (rateBad s.cfg.periodUs s.cfg.fastN (q.u16 1) s.cfg.fastSet.length s.cfg.excluded s, .badArg)]
def runSetStreamConfig (q : Issued) (s : State) : Reply :=
  done { s with cfg.stream := streamOf q, cfg.any := true, acq.streamPlans := s.acq.streamPlans ++ [(q.tick + 2, streamOf q)] }

/-- The record set after a 0x0A.11. -/
def recordSetAfter (q : Issued) (s : State) : Tab Bool :=
  forAll (rangeOf (q.u16 0) (q.u16 2)) (fun p t => if q.u8 4 = 1 then t.del p else t.put p true) s.cfg.excluded

def checkSetRecordSet (q : Issued) (s : State) : Bad :=
  firstBad [lenBad q 5, (q.u16 2 < 1 || q.u16 0 + q.u16 2 > 8192, .badArg), (q.u8 4 > 1, .badArg),
    (rateBad s.cfg.periodUs s.cfg.fastN s.cfg.stream.divisor s.cfg.fastSet.length (recordSetAfter q s) s, .badArg)]
def runSetRecordSet (q : Issued) (s : State) : Reply :=
  let t := recordSetAfter q s
  done { s with cfg.excluded := t, cfg.any := true, acq.excluded := t, acq.configDue := true }

def fastEntries (q : Issued) : List Nat := q.list 1 2 (q.u8 0)

/-- A fast entry names an input or an output of a prompt loop (R283). -/
def State.fastFits (s : State) (e : Nat) : Bool :=
  let p := e % 8192
  e = p + (if e < 0x8000 then 0 else 0x8000) &&
    s.cfg.loops.cells.any fun x => x.2.wiring.prompt &&
      (if e < 0x8000 then (x.2.wiring.outPoint.take x.2.wiring.nu).contains p
       else (x.2.wiring.inPoint.take x.2.wiring.ny).contains p)

def checkSetFastSet (q : Issued) (s : State) : Bad :=
  firstBad [(q.len < 1 || q.u8 0 > 64, .badArg), lenBad q (1 + 2 * q.u8 0), ((fastEntries q).any (!s.fastFits ·), .badArg),
    (rateBad s.cfg.periodUs s.cfg.fastN s.cfg.stream.divisor (q.u8 0) s.cfg.excluded s, .badArg)]
def runSetFastSet (q : Issued) (s : State) : Reply :=
  done { s with cfg.fastSet := fastEntries q, cfg.any := true, acq.fastSet := fastEntries q, acq.fastVals := [],
                acq.configDue := true }

def checkGetStreamConfig (q : Issued) (_ : State) : Bad := firstBad [lenBad q 0]
def runGetStreamConfig (_ : Issued) (s : State) : Reply :=
  let c := s.cfg.stream
  let mode := c.mode.getD (if s.sys.compat.getLsbD 0 then 1 else 0)
  say (le 1 mode ++ le 2 c.divisor ++ le 4 c.hostU0.toNat ++ le 4 c.hostU1.toNat ++ le 2 c.hostPort ++ le 2 c.ackMs ++
    [c.copy] ++ le 4 c.copyAddr.toNat ++ le 2 c.copyPort ++ le 4 (recordSetCrc s.cfg.excluded) ++
    le 1 s.cfg.fastSet.length ++ s.cfg.fastSet.flatMap (le 2)) s

/-- The trigger entry of a 0x0A.20. -/
def triggerOf (q : Issued) : TriggerCfg :=
  { enabled := q.u8 1 == 1, point := q.u16 2, perTick := q.u8 4 == 1, edge := q.u8 5, fireHal := (q.u8 6).testBit 0,
    segment := (q.u8 6).testBit 1, level := q.f 7, hyst := q.f 11 }

def checkSetTrigger (q : Issued) (_ : State) : Bad :=
  firstBad [lenBad q 15, (q.u8 0 > 63, .badArg), (q.u8 1 > 1, .badArg), (q.u8 4 > 1, .badArg),
    (q.u16 2 > (if q.u8 4 = 0 then 95 else 8191), .badArg), (q.u8 5 < 1 || q.u8 5 > 3, .badArg), (q.u8 6 > 3, .badArg),
    (!fFinite (q.f 7) || !fFinite (q.f 11) || !fNonNeg (q.f 11), .badArg)]

/-- A trigger entry is set, in use from tick a + 2 (R302). -/
def planTrigger (q : Issued) (t : Nat) (v : TriggerCfg) (s : State) : State :=
  { s with cfg.triggers := s.cfg.triggers.put t v, cfg.any := true,
           lop.plans := s.lop.plans ++ [{ tick := q.tick + 2, loop := 0, kind := .trigger t v }] }
def runSetTrigger (q : Issued) (s : State) : Reply := done (planTrigger q (q.u8 0) (triggerOf q) s)

def checkGetTrigger (q : Issued) (_ : State) : Bad := firstBad [lenBad q 1, (q.u8 0 > 63, .badArg)]
def runGetTrigger (q : Issued) (s : State) : Reply := say (triggerBytes (s.cfg.triggers.getD (q.u8 0) {})) s

def checkEnableTriggers (q : Issued) (_ : State) : Bad := firstBad [lenBad q 9, (q.u8 8 > 1, .badArg)]
def runEnableTriggers (q : Issued) (s : State) : Reply :=
  done (forN 64 (fun t s =>
    if (q.u64 0).testBit t then
      planTrigger q t { s.cfg.triggers.getD t {} with enabled := q.u8 8 == 1 } s
    else s) s)

def checkHostMark (q : Issued) (_ : State) : Bad := firstBad [lenBad q 4]
/-- 0x0A.23 (R307): a HOST mark where the stream is packed. -/
def runHostMark (q : Issued) (s : State) : Reply :=
  let m : Mark := { source := 2, unit := s.cfg.unit, stamp := q.tick * s.periodNs, hostTag := BitVec.ofNat 32 (q.u32 0) }
  say (le 8 q.tick) (if s.packs then { s with acq.hosts := s.acq.hosts ++ [m] } else s)

def checkSetArm (q : Issued) (s : State) : Bad :=
  firstBad [(s.cfg.timeRole == 3, .refusedMode), lenBad q 1, (q.u8 0 > 1, .badArg)]
/-- 0x0A.24 (R308): answered after the boundary of tick a + 2. -/
def runSetArm (q : Issued) (s : State) : Reply :=
  let on := q.u8 0 == 1
  let s := if s.time.driving then { s with acq.armAt := some (q.tick + 1, on) } else s
  laterReply { s with lop.plans := s.lop.plans ++ [{ tick := q.tick + 2, loop := 0, kind := .arm on, mailbox := some q.ref }] }

/-- The capture configuration of a 0x0A.30. -/
def segOf (q : Issued) : SegCfg :=
  { segments := q.u16 0, length := q.u32 2, pre := q.u32 6, interval := q.u16 10, sources := q.list 13 2 (q.u8 12) }

def checkSetSegmentConfig (q : Issued) (s : State) : Bad :=
  let c := segOf q
  firstBad [(q.len < 13, .badArg), lenBad q (13 + 2 * q.u8 12), (c.segments < 1 || c.segments > 1024, .badArg),
    (c.length < 16 || c.length > 65536, .badArg), (c.pre ≥ c.length, .badArg),
    (c.interval < 1 || s.time.periodUs % c.interval != 0, .badArg), (q.u8 12 > 15, .badArg),
    (c.sources.any (fun x => if x ≥ 0x8000 then x - 0x8000 ≥ 96 else x ≥ 8192), .badArg)]

/-- All segments are cleared and segment 0 is armed (R312, R314). -/
def clearSegments (s : State) : State :=
  { s with acq.segs := {}, acq.segCurrent := 0, acq.segArmed := true, acq.segLeft := none, acq.preRing := [], acq.segPending := [],
           acq.missedBusy := 0, acq.missedRearm := 0, acq.missedFull := 0, acq.captureId := s.acq.captureId + 1,
           acq.segFrom := s.acq.lastCapture + 1 }

def runSetSegmentConfig (q : Issued) (s : State) : Reply :=
  done (clearSegments { s with cfg.segCfg := some (segOf q), cfg.any := true })

/-- The 64-byte header of a segment (R314). -/
def segmentHeader (i : Nat) (g : Segment) : List Byte :=
  let b := le 2 i ++ le 1 (b01 g.short 1 + b01 g.complete 2 + b01 g.halyard 4) ++ le 1 g.sources ++ le 8 g.mask.toNat ++
    le 1 g.unit ++ [0, 0, 0] ++ le 8 g.stamp ++ le 8 g.tick ++ le 8 g.first ++ le 4 g.pre ++ le 4 g.captures.length ++
    le 2 (sat16 g.busy) ++ le 2 (sat16 g.rearm) ++ le 4 g.interval ++ le 4 g.capture
  b ++ le 4 (crc32c b)

def checkReadSegmentHeader (q : Issued) (s : State) : Bad :=
  firstBad [lenBad q 2, (!s.acq.segs.has (q.u16 0), .badArg)]
def runReadSegmentHeader (q : Issued) (s : State) : Reply := say (segmentHeader (q.u16 0) (s.segment (q.u16 0))) s

def checkReadSegmentData (q : Issued) (s : State) : Bad :=
  let g := s.segment (q.u16 0)
  let filling := s.acq.segLeft.isSome && s.acq.segCurrent = q.u16 0
  firstBad [lenBad q 8, (q.u16 6 < 1 || q.u16 6 > 63, .badArg), (!s.acq.segs.has (q.u16 0), .badArg),
    (q.u32 2 + q.u16 6 > g.captures.length + (if filling then s.acq.segLeft.getD 0 else 0), .badArg), (filling, .busy)]
def runReadSegmentData (q : Issued) (s : State) : Reply :=
  say ((((s.segment (q.u16 0)).captures.drop (q.u32 2)).take (q.u16 6)).flatMap fun w => w.flatMap leF) s

def checkClearSegments (q : Issued) (_ : State) : Bad := firstBad [lenBad q 0]
def runClearSegments (_ : Issued) (s : State) : Reply := done (clearSegments s)

def checkReadSkewTable (q : Issued) (_ : State) : Bad := firstBad [lenBad q 0]
def runReadSkewTable (_ : Issued) (s : State) : Reply :=
  let b := (List.range 96).flatMap fun c => le 2 (s.skew c).toNat
  say (b ++ le 4 (crc32c b)) s

end Sys2Proof.Machine
end

