-- ==== Sys2Proof/Machine/Stages.lean ====
section
/-! DEFINITION. Output stages and digital channels (chapter 9): drive states, the commands applied at a release,
read-back and its comparison, faults of the stages, and the commands of class 0x07. -/

namespace Sys2Proof.Machine

def State.cl (s : State) (i : Nat) : ClStage := s.stg.cl.getD i {}
def State.fao (s : State) (j : Nat) : FaoStage := s.stg.fao.getD j {}
def State.dio (s : State) (d : Nat) : DioStage := s.stg.dio.getD d {}
def State.clCfg (s : State) (i : Nat) : ClCfg := s.cfg.cl.getD i {}
def State.faoCfg (s : State) (j : Nat) : FaoCfg := s.cfg.fao.getD j {}
def State.dioCfg (s : State) (d : Nat) : DioCfg := s.cfg.dio.getD d {}

def updCl (i : Nat) (f : ClStage → ClStage) (s : State) : State := { s with stg.cl := s.stg.cl.upd i {} f }
def updFao (j : Nat) (f : FaoStage → FaoStage) (s : State) : State := { s with stg.fao := s.stg.fao.upd j {} f }
def updDio (d : Nat) (f : DioStage → DioStage) (s : State) : State := { s with stg.dio := s.stg.dio.upd d {} f }

def clResource (i : Nat) : Nat := resource 4 i
def faoResource (j : Nat) : Nat := resource 5 j
def dioResource (d : Nat) : Nat := resource 6 d

/-! ### Drive states (R200 to R204) -/

/-- Every stage takes its hardware default (R204): with no settings, in BOOT, ACTIVATE and HALT, and in a whole-module
reset. -/
def State.hardwareDefault (s : State) : Bool :=
  s.sys.mode = .boot || s.sys.mode = .activate || s.sys.mode = .halt || !s.cfg.any || s.sys.inReset || !s.sys.powered

/-- Whether the stage of a point is commanded (R201): in the modes in which loops run, and in the modes in which a
standby loads the mirrored commands (R395), while the point has an owner (notes/assumptions/20). -/
def State.commanded (s : State) (p : Nat) : Bool :=
  (s.loopModes || s.effMode = .standby || s.effMode = .sync) && (s.ownerNow p).owner != 0

/-- The value of the configured idle state of a stage's output point where that state is VALUE (R204, R207, R216). -/
def State.idleValue (s : State) (p : Nat) : Option F32 :=
  if 144 ≤ p && p < 192 then
    let c := s.clCfg (p - 144)
    if c.mode = 0 && c.idleKind = 1 then some c.idleMa else none
  else if 192 ≤ p && p < 208 then
    let c := s.faoCfg (p - 192)
    if c.idleValue then some c.idleV else none
  else none

/-- The modes in which no loop runs and output points hold the configured idle states (R165). -/
def Mode.idles (m : Mode) : Bool :=
  m = .boot || m = .activate || m = .service || m = .configure || m = .halt

/-- While no loop runs, in BOOT, ACTIVATE, SERVICE, CONFIGURE and HALT, the output points of loops hold the value of the configured idle
state; their status stays (R165; notes/assumptions/22). -/
def holdIdle (s : State) : State :=
  if s.effMode.idles then
    forAll (s.cfg.points.cells.filter fun c => c.2.owner == 1) (fun c s =>
      match s.idleValue c.1 with
      | some v => if (s.ownEntry c.1).value = v then s else updPoint c.1 (fun e => { e with value := v }) s
      | none => s) s
  else s

/-- The health grade in a claim (R387). -/
def claimGrade (c : Byte) : Nat := c.toNat / 32

/-- The drive state that the claims give (R201, R397): a unit that is not a pair member, or that is in SOLO, does not
compare. -/
def State.claimDrive (s : State) : Drive :=
  if !s.cfg.pair.paired || s.par.solo then .driving
  else if s.par.claimLost || (claimGrade s.par.own = 0 && claimGrade s.par.peer = 0) then .held
  else if s.par.own.toNat > s.par.peer.toNat then .driving else .aside

/-- The drive state of a stage: OFF where it is forced off, retired, at its hardware default or without a command, or
where its unit gave up in SOLO (R392); otherwise as the claims give. -/
def State.driveOf (s : State) (forced retired command : Bool) : Drive :=
  if forced || retired || s.hardwareDefault || !command || (s.par.role = .givenUp && s.par.solo) then .off
  else s.claimDrive

def Drive.code : Drive → Nat
  | .driving => 0 | .aside => 1 | .held => 2 | .off => 3

/-- The line switch in a drive state; HELD leaves it as it stood. -/
def Drive.line (d : Drive) (old : Bool) : Bool :=
  match d with
  | .driving => true | .held => old | .aside | .off => false

/-- Operating time of a change of drive state: the change itself, or the last one where the state stays. -/
def changedAt (old new : Drive) (was now : Nat) : Nat := if old = new then was else now

/-! ### Current-loop commands (R205 to R210) -/

/-- A current-loop channel uses the high alarm level (R209, R484): its setting, else NE 43 low, else its strap. -/
def State.alarmHigh (s : State) (i : Nat) : Bool :=
  if s.cfg.cl.has i then (s.clCfg i).high
  else if s.sys.compat.getLsbD 2 then false
  else s.sys.straps.almsel.getD (i / 8) .openLand = .tied

/-- A command of a current-loop channel: current, ALARM in force, clamped. -/
structure ClCommand where
  ma : F32
  alarm : Bool
  clipped : Bool
  deriving DecidableEq, Repr

/-- The command formed from a value (R207). -/
def clForm (i : Nat) (v : F32) (alarm : Bool) (s : State) : ClCommand :=
  if alarm then { ma := if s.alarmHigh i then fRat 215 10 else fRat 35 10, alarm := true, clipped := false }
  else
    let lo := if (s.clCfg i).ne43 then fRat 38 10 else 0
    let hi := if (s.clCfg i).ne43 then fRat 205 10 else fOfNat 24
    let c := clampTo lo hi v
    { ma := c, alarm := false, clipped := c != v }

/-- ALARM for a command point that is not valid (R208). -/
def State.invalidAlarm (s : State) (i : Nat) : Bool :=
  let e := s.entry (144 + i)
  (s.clCfg i).onInvalid && s.loopModes && !e.valid && !e.retired && !e.held

/-- The command of a current-loop channel, none where it is idle at OFF, an input or at its hardware default (R204,
R205, R208). -/
def State.clCommand (s : State) (i : Nat) : Option ClCommand :=
  let c := s.clCfg i
  if c.mode != 0 || s.hardwareDefault then none
  else if s.commanded (144 + i) then
    some (clForm i (s.value (144 + i)) ((s.cl i).alarmSet || s.invalidAlarm i) s)
  else match c.idleKind with
    | 1 => some (clForm i c.idleMa false s)
    | 2 => some (clForm i 0 true s)
    | _ => none

/-- The supply an input gives its loop (R204, R205): 24 V where it is powered, none where it is passive, at its hardware default,
forced off or retired. -/
def State.loopSupply (s : State) (i : Nat) : F32 :=
  if (s.clCfg i).mode = 1 && !s.hardwareDefault && !(s.cl i).safetyOff && !s.isRetired (clResource i) then fOfNat 24 else 0

/-- The current limit of a mode without foldback (R205, R207). -/
def baseLimit (mode : Nat) : F32 := if mode = 1 then fOfNat 30 else fOfNat 24

/-- The drive state of a current-loop channel follows claims, force-off and retirement at once, and so does the supply of an input;
`now` is the operating time of a change. -/
def clDrive (now i : Nat) (s : State) : State :=
  let d := s.driveOf (s.cl i).safetyOff (s.isRetired (clResource i)) (s.clCommand i).isSome
  updCl i (fun x =>
    { x with drive := d, lineClosed := d.line x.lineClosed, changed := changedAt x.drive d x.changed now,
             supply := if (s.clCfg i).mode = 0 then x.supply else s.loopSupply i }) s

/-- A current-loop channel takes its command (R204, R207); HELD ignores it. -/
def clApply (now i : Nat) (s : State) : State :=
  let c := s.clCommand i
  let s := clDrive now i s
  if (s.cl i).drive = .held then s
  else
    match c with
    | some c =>
      updCl i (fun x =>
        { x with applied := c.ma, alarm := c.alarm, clipped := c.clipped,
                 alarms := x.alarms + (if c.alarm && !x.alarm then 1 else 0) }) s
    | none => updCl i (fun x => { x with applied := 0, alarm := false, clipped := false }) s

/-! ### Fast output commands (R216) -/

/-- The nearest integer to a finite value times 13,107.2, ties to even (R216). -/
def scaleCode (v : F32) : Int :=
  if !fFinite v then 0
  else
    let num := fMant v * 65536 * (if fPow v ≥ 0 then 2 ^ (fPow v).toNat else 1)
    let den := 5 * (if fPow v ≥ 0 then 1 else 2 ^ (-fPow v).toNat)
    let q := num / den
    let r := num % den
    let n : Nat := if 2 * r > den || (2 * r = den && q % 2 = 1) then q + 1 else q
    if fSign v then -(n : Int) else n

/-- The code of a voltage (R216) and whether it was clamped. -/
def State.faoCode (s : State) (j : Nat) (v : F32) : Int × Bool :=
  let k := s.sys.factory.outputs.getD j (fOfNat 1, 0)
  let c := scaleCode (fFma k.1 v k.2)
  if c > 131071 then (131071, true) else if c < -131072 then (-131072, true) else (c, false)

def State.faoCommand (s : State) (j : Nat) : Option (Int × Bool) :=
  let c := s.faoCfg j
  if s.hardwareDefault then none
  else if s.commanded (192 + j) then some (s.faoCode j (s.value (192 + j)))
  else if c.idleValue then some (s.faoCode j c.idleV) else none

def faoDrive (now j : Nat) (s : State) : State :=
  let d := s.driveOf (s.fao j).safetyOff (s.isRetired (faoResource j)) (s.faoCommand j).isSome
  updFao j (fun x =>
    { x with drive := d, lineClosed := d.line x.lineClosed, changed := changedAt x.drive d x.changed now }) s

def faoApply (now j : Nat) (s : State) : State :=
  let c := s.faoCommand j
  let s := faoDrive now j s
  if (s.fao j).drive = .held then s
  else updFao j (fun x => { x with code := (c.getD (0, false)).1, clipped := (c.getD (0, false)).2 }) s

/-! ### Digital outputs (R218 to R220, R469) -/

/-- The commanded state of a digital output; none where it is an input, idle at OFF or at its hardware default. -/
def State.dioCommand (s : State) (d : Nat) : Option Bool :=
  let c := s.dioCfg d
  if !c.output || s.hardwareDefault then none
  else if s.commanded (208 + d) then some (s.value (208 + d) != 0)
  else if c.idleOn then some true else none

def dioDrive (d : Nat) (s : State) : State :=
  let low := s.stg.dsupLow.contains (d / 8)
  let x := s.driveOf ((s.dio d).safetyOff || low) (s.isRetired (dioResource d)) (s.dioCommand d).isSome
  updDio d (fun y =>
    let off := x = .off && (s.dioCfg d).output
    let back := y.drive = .off && (s.dioCfg d).output
    { y with drive := x, lineClosed := x.line y.lineClosed,
             level := if off then false else if back then y.command && !y.overload else y.level }) s

/-- A digital output takes its command, in OFF for the time when it is driven again (R203), and HELD none (R200); one switched off by
an overload waits for its retry (R220). -/
def dioApply (d : Nat) (s : State) : State :=
  let c := s.dioCommand d
  let s := dioDrive d s
  if !(s.dioCfg d).output || (s.dio d).drive = .held then s
  else
    let on := c.getD false
    updDio d (fun y =>
      { y with command := on, level := on && !y.overload && y.drive != .off, overload := on && y.overload,
               openLoad := on && y.openLoad }) s

/-! ### All stages -/

/-- Every stage takes its command at a period release (R161, R204); `sub` is its time in the tick. -/
def applyStages (sub : Nat) (s : State) : State :=
  let now := s.sys.opNs + sub
  forN 64 dioApply (forN 16 (faoApply now) (forN 48 (clApply now) s))

/-- All stages take a release, whose commands the read-back is compared with (R213): the unit's own, or at a standby the mirrored
one. -/
def releaseStages (sub : Nat) (s : State) : State :=
  let s := applyStages sub s
  { s with stg.cl := ⟨s.stg.cl.cells.map fun x => (x.1, { x.2 with prior := x.2.applied })⟩ }

/-- Drive states follow claims, force-offs, retirements and modes between releases. -/
def driveStages (s : State) : State :=
  let now := s.sys.opNs + 1
  forN 64 dioDrive (forN 16 (faoDrive now) (forN 48 (clDrive now) s))

/-- The stage of a point takes its command as soon as a prompt loop has written it (R162, R204). -/
def applyPoint (p sub : Nat) (s : State) : State :=
  let now := s.sys.opNs + sub
  if 144 ≤ p && p < 192 then clApply now (p - 144) s
  else if 192 ≤ p && p < 208 then faoApply now (p - 192) s
  else if 208 ≤ p && p < 272 then dioApply (p - 208) s
  else s

/-- The outputs of the prompt loops reach their stages. -/
def promptStages (sub : Nat) (s : State) : State :=
  forAll s.promptRunning (fun l s =>
    forAll ((s.wiring l).outPoint.take (s.wiring l).nu) (applyPoint · sub) s) s

/-- The commands that are answered once the release of their tick is done (R61). -/
def releaseOps : List Op := [.setClAlarm, .start, .hold, .resume, .jump, .abort]

/-- The requests resolved in the tick whose release is done get their answers. -/
def answerReleased (s : State) : State :=
  forAll ((s.openOn releaseOps fun _ => true).filter fun m => (s.box m).stage = 2)
    (fun m s => completeRequest m .done (s.box m).payload s) s

/-- PERIOD_RELEASE (R161): every stage takes its command, and the commands of the tick that wait for the release are
answered. A unit that gave up releases nothing (R392), nor does one in SYNC, in STANDBY outside SPLIT, or in HANDOVER
(R395, R398). -/
def periodReleaseEffect (s : State) : State :=
  if s.lop.released || !s.sys.engineUp || s.par.role = .givenUp || s.effMode = .sync || s.effMode = .handover ||
      (s.effMode = .standby && !s.par.split) then s
  else
    let s := releaseStages releaseNs { s with lop.released := true, lop.unreleased := [] }
    answerReleased (answerSwaps s)

/-! ### Read-back (R206, R210, R213, R217) -/

/-- The supply of a stage (R210): the loop voltage plus the margin, within 3 V and 26 V. -/
def stageSupply (margin volts : F32) : F32 := clampTo (fOfNat 3) (fOfNat 26) (fAdd volts margin)

/-- The readings of the tick that has ended. -/
def stageReadings (io : TickIO) (s : State) : State :=
  let s := forAll io.loops (fun x s =>
    updCl x.1 (fun c =>
      { c with readback := x.2.readback, junction := x.2.junction,
               supply := if (s.clCfg x.1).mode = 0 then stageSupply s.stg.margin x.2.loopVolts else c.supply }) s) s
  forAll io.monitors (fun x s => updFao x.1 (fun c => { c with monitor := x.2 }) s) s

/-- The tick under resolution lies clear of a change of drive state: it begins 1 ms or more after it (R213, R217). -/
def State.settledStage (s : State) (changed : Nat) : Bool := s.sys.opNs ≥ changed + 1000000

/-- Nanoseconds of 10 ms. -/
def tenMs : Nat := 10000000

/-- The read-back comparison of a current-loop channel for the tick under resolution (R213). -/
def compareReadback (i : Nat) (s : State) : State :=
  let x := s.cl i
  if (s.clCfg i).mode != 0 || !(x.drive = .driving || x.drive = .aside) || x.compliance || x.openLoop || x.foldback ||
      !s.settledStage x.changed then s
  else
    let off := fLt (fRat 16 100) (fAbs (fSub x.readback x.prior))
    let s := updCl i (fun x => { x with mismatch := if off then x.mismatch + 1 else 0 }) s
    if (s.cl i).mismatch * s.periodNs > tenMs then selfTestFails 5 i (retireDue (clResource i) 11 s) else s

/-- The voltage of a fast output's code (R216). -/
def codeVolts (c : Int) : F32 := fRat (c * 20) 262144

/-- The monitor comparison of a fast output for the tick under resolution (R217). -/
def compareMonitor (j : Nat) (s : State) : State :=
  let x := s.fao j
  if !(x.drive = .driving || (x.drive = .held && x.lineClosed)) || !s.settledStage x.changed then s
  else
    let off := fLt (fRat 2 100) (fAbs (fSub x.monitor (codeVolts x.code)))
    let s := updFao j (fun x => { x with mismatchNs := if off then x.mismatchNs + s.periodNs else 0 }) s
    if (s.fao j).mismatchNs > tenMs then retireDue (faoResource j) 11 s else s

/-- The comparisons of a tick. -/
def compareStages (s : State) : State := forN 16 compareMonitor (forN 48 compareReadback s)

/-- The read-back points of a tick (R206). -/
def readbackPoints (s : State) : State :=
  forN 48 (fun i s =>
    let v := (s.cl i).readback
    ownerWrite 2 (96 + i) v { ovr := fLt v 0 || fLt (fOfNat 24) v } s) s

/-- The input points of a tick and the latches of its edges (R219, R492). -/
def digitalPoints (s : State) : State :=
  let s := forN 64 (fun d s =>
    let x := s.dio d
    if !(s.dioCfg d).output && (s.ownerNow (208 + d)).owner = 0xC2 then
      let sub := match x.lastEdge with | some t => sub16 t | none => (s.ownEntry (208 + d)).sub
      ownerWrite 2 (208 + d) (if x.level then 1 else 0) { sub } s
    else s) s
  let new := (s.stg.dio.cells.filter fun x => x.2.rose || x.2.fell).map fun x => (s.time.tick, x.1, x.2.rose, x.2.fell)
  { s with
    stg.latches := s.stg.latches ++ new,
    stg.dio := ⟨s.stg.dio.cells.map fun x => (x.1, { x.2 with rose := false, fell := false, lastEdge := none })⟩ }

/-! ### Events of the stages (R211, R212, R219, R220, R469) -/

/-- COMPLIANCE_DETECT (R211): the shortfall has stood, or been absent, for 1 ms. -/
def complianceEffect (i : Nat) (present : Bool) (s : State) : State :=
  let x := s.cl i
  if x.compliance = present || (present && ((s.clCfg i).mode != 0 || x.drive = .off)) then s
  else
    note 2 .compliance [i, if present then 1 else 0]
      (updCl i (fun x => { x with compliance := present, compliances := x.compliances + (if present then 1 else 0) }) s)

/-- OPEN_LOOP_DETECT (R211): less than 0.2 mA has flowed for 1 ms with more than 4 mA applied, or that has ended. -/
def openLoopEffect (i : Nat) (present : Bool) (s : State) : State :=
  let x := s.cl i
  if x.openLoop = present || (present && ((s.clCfg i).mode != 0 || x.drive = .off || !fLt (fOfNat 4) x.applied)) then s
  else
    note 2 .openLoop [i, if present then 1 else 0]
      (updCl i (fun x => { x with openLoop := present, opens := x.opens + (if present then 1 else 0) }) s)

/-- A step of foldback is due (R212): the first, or 10 ms after the last while the temperature has risen since; `now` is the end of
the tick. -/
def foldbackSteps (now : Nat) (junction : F32) (x : ClStage) : Bool :=
  !x.foldback || (now > x.foldAt + tenMs && fLt x.foldTemp junction)

/-- FOLDBACK (R212): at 150 °C the limit falls by 0.5 mA a step until the temperature stops rising; below 140 °C it is restored. -/
def foldbackEffect (i : Nat) (junction : F32) (s : State) : State :=
  let s := updCl i (fun x => { x with junction }) s
  let x := s.cl i
  if fLe (fOfNat 150) junction then
    if !foldbackSteps (s.sys.opNs + s.periodNs) junction x then s
    else
      let s := if x.foldback then s else note 2 .foldback [i, 1] s
      updCl i (fun x => { x with foldback := true, limit := fMax 0 (fSub x.limit (fRat 1 2)), foldTemp := junction,
                                 foldAt := s.sys.opNs }) s
  else if fLt junction (fOfNat 140) && x.foldback then
    note 2 .foldback [i, 0] (updCl i (fun x => { x with foldback := false, limit := baseLimit (s.clCfg i).mode }) s)
  else s

/-- READBACK_MISMATCH (R213): a count beyond 10 ms ÷ T retires the channel at rank 2. -/
def readbackMismatchEffect (i : Nat) (s : State) : State :=
  if (s.cl i).mismatch * s.periodNs > tenMs then retireDue (clResource i) 11 s else s

/-- MONITOR_MISMATCH (R217). -/
def monitorMismatchEffect (j : Nat) (s : State) : State :=
  if (s.fao j).mismatchNs > tenMs then retireDue (faoResource j) 11 s else s

/-- DIGITAL_INPUT_EDGE (R219, R492): a filtered edge of an input is counted, stamped to 1 µs and latched. -/
def digitalEdgeEffect (d : Nat) (level : Bool) (sub : Nat) (s : State) : State :=
  if (s.dioCfg d).output || (s.dio d).level = level then s
  else
    updDio d (fun x =>
      { x with level, edges := x.edges + 1, lastEdge := some (sub / 1000 * 1000), rose := x.rose || level,
               fell := x.fell || !level }) s

/-- OUTPUT_OVERLOAD (R220): the output switches off, with one transient event. -/
def outputOverloadEffect (d : Nat) (s : State) : State :=
  if !(s.dioCfg d).output || !(s.dio d).level || (s.dio d).overload then s
  else
    countFault (dioResource d) (note 2 .stageFault [2, d, 1]
      (updDio d (fun x =>
        { x with overload := true, level := false, overloads := x.overloads + 1, overloadAt := s.sys.opNs }) s))

/-- The 100 ms of a retry (R220). -/
def retryNs : Nat := 100000000

/-- OVERLOAD_RETRY (R220): an overloaded output switches on again, 100 ms after the overload, while it is commanded ON: by its
command, which in HELD is the last one taken (R200). -/
def overloadRetryEffect (d : Nat) (s : State) : State :=
  let x := s.dio d
  let on := if x.drive = .held then x.command else (s.dioCommand d).getD false
  if !(s.dioCfg d).output || !x.overload || x.drive = .off || !on || s.sys.opNs + s.periodNs ≤ x.overloadAt + retryNs then s
  else updDio d (fun x => { x with overload := false, level := true }) s

/-- OPEN_LOAD_DETECT (R220). -/
def openLoadEffect (d : Nat) (s : State) : State :=
  if (s.dioCfg d).output && (s.dioCfg d).openLoad && (s.dio d).level then updDio d (fun x => { x with openLoad := true }) s
  else s

/-- LAND_MISMATCH (R220, R469): the land has differed from the applied state for more than 1 ms, outside an overload and
a low supply. -/
def landMismatchEffect (d : Nat) (s : State) : State :=
  let x := s.dio d
  if !(s.dioCfg d).output || !x.lineClosed || x.overload || s.stg.dsupLow.contains (d / 8) then s
  else countFault (dioResource d) (note 2 .stageFault [2, d, 2] s)

/-- DSUP_UNDERVOLTAGE (R469): the outputs of a group go off below 17 V and come back above it. -/
def dsupEffect (g : Nat) (below : Bool) (s : State) : State :=
  if s.stg.dsupLow.contains g = below then s
  else
    let low := if below then g :: s.stg.dsupLow else s.stg.dsupLow.filter (· != g)
    let s := note 2 .dsup [g, if below then 1 else 0] { s with stg.dsupLow := low }
    forN 8 (fun i s => dioApply (8 * g + i) s) s

/-! ### Commands of class 0x07 (R223) -/

/-- The stage status word of a current-loop channel (R215). -/
def State.clStatus (s : State) (i : Nat) : Nat :=
  let x := s.cl i
  let b := fun (y : Bool) => if y then 1 else 0
  x.drive.code * 2 ^ 30 + b x.safetyOff * 2 ^ 29 + b x.alarm * 2 ^ 28 + b x.compliance * 2 ^ 27 + b x.openLoop * 2 ^ 26 +
    b x.foldback * 2 ^ 25 + b x.clipped * 2 ^ 24 + b (s.isRetired (clResource i)) * 2 ^ 23 + sat16 x.mismatch

def checkGetClStatus (q : Issued) (_ : State) : Bad := firstBad [lenBad q 1, (q.u8 0 ≥ 48, .badArg)]
def runGetClStatus (q : Issued) (s : State) : Reply :=
  let x := s.cl (q.u8 0)
  say (le 4 (s.clStatus (q.u8 0)) ++ leF (if x.drive = .off then 0 else x.applied) ++ leF x.readback ++ leF x.supply ++ leF x.junction ++ le 4 x.alarms ++
    le 4 x.compliances ++ le 4 x.opens) s

def checkGetFaoStatus (q : Issued) (_ : State) : Bad := firstBad [lenBad q 1, (q.u8 0 ≥ 16, .badArg)]
def runGetFaoStatus (q : Issued) (s : State) : Reply :=
  let x := s.fao (q.u8 0)
  say (le 1 x.drive.code ++ leBool x.clipped ++ leBool (s.isRetired (faoResource (q.u8 0))) ++ leInt 4 x.code ++
    leF x.monitor) s

def checkGetDioStatus (q : Issued) (_ : State) : Bad := firstBad [lenBad q 1, (q.u8 0 ≥ 64, .badArg)]
def runGetDioStatus (q : Issued) (s : State) : Reply :=
  let x := s.dio (q.u8 0)
  say (leBool (s.dioCfg (q.u8 0)).output ++ leBool x.level ++ le 1 x.drive.code ++ le 4 x.edges ++ le 4 x.overloads ++
    leBool x.openLoad ++ leBool (s.isRetired (dioResource (q.u8 0))) ++ le 1 (s.inWindow (dioResource (q.u8 0)))) s

/-- An analogue setting between two bounds. -/
def within (lo hi v : F32) : Bool := fLe lo v && fLe v hi

def clOf (q : Issued) : ClCfg :=
  { mode := q.u8 1, high := q.u8 2 == 1, ne43 := q.u8 3 == 1, onInvalid := q.u8 4 == 1, idleKind := q.u8 5, idleMa := q.f 6 }

def checkSetClConfig (q : Issued) (s : State) : Bad :=
  Bad.or (firstBad [lenBad q 10, (q.u8 0 ≥ 48, .badArg), (q.u8 1 > 2, .badArg),
      (q.u8 2 > 1 || q.u8 3 > 1 || q.u8 4 > 1, .badArg), (q.u8 5 > 2, .badArg), (!within 0 (fOfNat 24) (q.f 6), .badArg)])
    (if q.u8 1 != 0 && (s.ownerSet (144 + q.u8 0)).owner != 0 then some (.badArg, le 1 (q.u8 0)) else none)
def runSetClConfig (q : Issued) (s : State) : Reply :=
  let s := updCl (q.u8 0) (fun x => { x with limit := if x.foldback then x.limit else baseLimit (q.u8 1) }) s
  done { s with cfg.cl := s.cfg.cl.put (q.u8 0) (clOf q), cfg.any := true }

def stageKinds (k i : Nat) : Bool := (k = 0 && i < 48) || (k = 1 && i < 16) || (k = 2 && i < 64)

def checkGetStageConfig (q : Issued) (_ : State) : Bad := firstBad [lenBad q 2, (!stageKinds (q.u8 0) (q.u8 1), .badArg)]
def runGetStageConfig (q : Issued) (s : State) : Reply :=
  let i := q.u8 1
  match q.u8 0 with
  | 0 =>
    let c := s.clCfg i
    say (le 1 i ++ le 1 c.mode ++ leBool (s.alarmHigh i) ++ leBool c.ne43 ++ leBool c.onInvalid ++ le 1 c.idleKind ++
      leF c.idleMa) s
  | 1 => say (le 1 i ++ leBool (s.faoCfg i).idleValue ++ leF (s.faoCfg i).idleV) s
  | _ =>
    let c := s.dioCfg i
    say (le 1 i ++ [1] ++ leBool c.output ++ le 1 c.filter ++ leBool c.idleOn ++ leBool c.openLoad) s

def checkSetClAlarm (q : Issued) (s : State) : Bad :=
  firstBad [lenBad q 2, (q.u8 0 ≥ 48, .badArg), (q.u8 1 > 1, .badArg), ((s.clCfg (q.u8 0)).mode != 0, .badArg),
    (s.isRetired (clResource (q.u8 0)), .retired)]
/-- 0x07.12 (R208): ALARM acts from the release of tick a, after which it is answered. -/
def runSetClAlarm (q : Issued) (s : State) : Reply :=
  { st := updCl (q.u8 0) (fun x => { x with alarmSet := q.u8 1 == 1 }) s, later := true }

def checkSetFaoConfig (q : Issued) (_ : State) : Bad :=
  firstBad [lenBad q 6, (q.u8 0 ≥ 16, .badArg), (q.u8 1 > 1, .badArg),
    (!within (fNeg (fOfNat 10)) (fOfNat 10) (q.f 2), .badArg)]
def runSetFaoConfig (q : Issued) (s : State) : Reply :=
  done { s with cfg.fao := s.cfg.fao.put (q.u8 0) { idleValue := q.u8 1 == 1, idleV := q.f 2 }, cfg.any := true }

/-- An owner of a digital point fits a direction (R492). -/
def dioFits (output : Bool) (owner : Byte) : Bool :=
  owner = 0 || (owner = 0xC2 && !output) || (isWriter owner && output)

def checkSetDioConfig (q : Issued) (s : State) : Bad :=
  Bad.or (firstBad [lenBad q 6, (q.u8 0 + q.u8 1 > 64, .badArg), (q.u8 2 > 1, .badArg), (q.u8 3 > 4, .badArg),
      (q.u8 4 > 1 || q.u8 5 > 1, .badArg)])
    (firstFailing (rangeOf (q.u8 0) (q.u8 1)) (fun d => !dioFits (q.u8 2 == 1) (s.ownerSet (208 + d)).owner) .badArg
      (fun i => le 1 (q.u8 0 + i)))
def runSetDioConfig (q : Issued) (s : State) : Reply :=
  let c : DioCfg := { output := q.u8 2 == 1, filter := q.u8 3, idleOn := q.u8 4 == 1, openLoad := q.u8 5 == 1 }
  done { s with cfg.dio := forAll (rangeOf (q.u8 0) (q.u8 1)) (fun d t => t.put d c) s.cfg.dio, cfg.any := true }

/-- The identity of a stage by the kind of class 0x07. -/
def stageResource (kind i : Nat) : Nat := resource (kind + 4) i

def checkRunTestLoad (q : Issued) (_ : State) : Bad := firstBad [lenBad q 2, (!stageKinds (q.u8 0) (q.u8 1), .badArg)]
def runRunTestLoad (_ : Issued) (s : State) : Reply := acceptedReply s

/-- The three values a test drives, and its tolerance, by kind (R214, R217); a digital output has no analogue test. -/
def testValues (kind : Nat) : List F32 × F32 :=
  if kind = 0 then ([fOfNat 4, fOfNat 12, fOfNat 20], fRat 16 100)
  else ([fNeg (fOfNat 9), 0, fOfNat 9], fRat 2 100)

/-- Three readings agree with the values driven. -/
def testPass (kind : Nat) (v : List F32) : Bool :=
  if kind = 2 then true
  else
    let t := testValues kind
    v.length = 3 && (List.zip v t.1).all fun x => fLe (fAbs (fSub x.1 x.2)) t.2

/-- The end of 0x07.40: pass and the three measured values. -/
def testLoadDone (q : List Byte) (v : List F32) : List Byte :=
  leBool (testPass (rd q 0 1) v) ++ ((v ++ [0, 0, 0]).take 3).flatMap leF

def checkReleaseStage (q : Issued) (s : State) : Bad :=
  firstBad [lenBad q 2, (!stageKinds (q.u8 0) (q.u8 1), .badArg),
    (!s.isRetired (stageResource (q.u8 0) (q.u8 1)), .badArg)]
def runReleaseStage (_ : Issued) (s : State) : Reply := acceptedReply s

/-- The end of 0x07.50: released when all three values agree, with its mismatch count cleared. -/
def releaseStageDone (q : List Byte) (v : List F32) (s : State) : Status × State :=
  let kind := rd q 0 1
  let i := rd q 1 1
  if !testPass kind v then (.retired, s)
  else
    let s := releaseResource 8 (stageResource kind i) s
    let now := s.sys.opNs + 1
    match kind with
    | 0 => (.done, clApply now i (updCl i (fun x => { x with mismatch := 0 }) s))
    | 1 => (.done, faoApply now i (updFao i (fun x => { x with mismatchNs := 0 }) s))
    | _ => (.done, dioApply i (updDio i (fun x => { x with overload := false }) s))

def checkSetStageFaultThreshold (q : Issued) (_ : State) : Bad :=
  firstBad [lenBad q 5, (q.u8 0 > 2, .badArg), (!stageKinds (q.u8 0) (q.u8 1) && q.u8 1 != 0xFF, .badArg),
    (thresholdBad (q.u8 2) (q.u16 3), .badArg)]
def runSetStageFaultThreshold (q : Issued) (s : State) : Reply :=
  let n := if q.u8 0 = 0 then 48 else if q.u8 0 = 1 then 16 else 64
  let l := if q.u8 1 = 0xFF then List.range n else [q.u8 1]
  done (setThresholds (l.map (stageResource (q.u8 0))) (q.u8 2) (q.u16 3) s)

end Sys2Proof.Machine
end

