-- ==== Sys2Proof/Machine/Island.lean ====
section
/-! DEFINITION. The safety island (chapter 14): its faults and lock-out, and what every part of the island shares. -/

namespace Sys2Proof.Machine

/-- Island time in ns: the samples since the island started, 250 µs apart (R340). -/
def State.islandNs (s : State) : Nat := s.saf.samples * 250000

def State.inPair (s : State) (n : Nat) : InPair := s.saf.pairs.getD n {}
def State.safeOut (s : State) (m : Nat) : SafeOut := s.saf.outs.getD m {}
def State.axis (s : State) (x : Nat) : Axis := s.saf.axes.getD x {}
def State.conn (s : State) (c : Nat) : Conn := s.shr.conns.getD c {}
def updPair (n : Nat) (f : InPair → InPair) (s : State) : State := { s with saf.pairs := s.saf.pairs.upd n {} f }
def updOut (m : Nat) (f : SafeOut → SafeOut) (s : State) : State := { s with saf.outs := s.saf.outs.upd m {} f }
def updAxis (x : Nat) (f : Axis → Axis) (s : State) : State := { s with saf.axes := s.saf.axes.upd x {} f }
def updConn (c : Nat) (f : Conn → Conn) (s : State) : State := { s with shr.conns := s.shr.conns.upd c {} f }

/-- The configuration whose elements, outputs, axes and connections are in force; none while UNCONFIGURED (R355). -/
def State.safetyCfg (s : State) : Option SafetyCfg := if s.saf.state = .unconfigured then none else s.saf.cfg

/-- The configuration that gives the input pairs their roles: in CONFIRMING the one that waits for it (R361). -/
def State.pairCfg (s : State) : Option SafetyCfg :=
  if s.saf.state = .confirming then s.saf.pending.map (·.2.2) else s.safetyCfg

def SafetyCfg.outCfg (c : SafetyCfg) (m : Nat) : OutCfg :=
  c.outputs.getD m { element := none, test := true, pulse := 200, seriesHigh := false, seriesLow := false }
def SafetyCfg.pairRole (c : SafetyCfg) (n : Nat) : PairRole × Nat := c.pairs.getD n (.off, 200)
/-- The parameters of connection `c`, where the configuration defines it. -/
def State.connCfg (s : State) (c : Nat) : Option ConnCfg :=
  s.safetyCfg.bind fun k => k.conns.find? fun x => x.number == c

/-- The island is in lock-out: CONFIRMING entered from lock-out does not end it (R359, R361). -/
def State.inLockout (s : State) : Bool := s.saf.state = .lockout || (s.saf.state = .confirming && s.saf.before = .lockout)

/-- Element values of the last evaluation. -/
def State.element (s : State) (e : Nat) : Bool := s.saf.logic.getD e false

/-! ### Outputs (R336, R343, R347) -/

/-- The modes in which the island holds every safety output off, by code: BOOT, ACTIVATE, SERVICE, HALT (R336). -/
def heldOff (mode : Nat) : Bool := mode = 0 || mode = 1 || mode = 2 || mode = 11

/-- The two switches of an output, driven when they change. -/
def driveSwitches (m : Nat) (high low : Bool) (s : State) : State :=
  let x := s.safeOut m
  if x.high = high && x.low = low then s
  else emit (.safetySwitch m high low) (updOut m (fun x => { x with high, low }) s)

/-- An output opens both switches at once; a test pulse under way ends and its switch is tested again (R344, R347). -/
def outputOff (m : Nat) (s : State) : State :=
  driveSwitches m false false (updOut m (fun x => { x with pulse := none, pendingOn := false }) s)

/-- An output that is off and is under a bright pulse (R346). -/
def SafeOut.testedOff (x : SafeOut) : Bool := !x.demand && !(x.high && x.low) && x.pulse.any fun p => !p.dark

/-- An output follows its demand (R347): an off demand acts at once, but an output that was off before it goes on with its
test; an on demand waits for the end of a bright pulse; an overload keeps it off. -/
def setOutput (m : Nat) (on : Bool) (s : State) : State :=
  let x := s.safeOut m
  if !on then
    let s := updOut m (fun x => { x with demand := false }) s
    if x.testedOff then s else if x.high || x.low || x.pulse.isSome then outputOff m s else s
  else
    let s := updOut m (fun x => { x with demand := true }) s
    if x.overload then s
    else match x.pulse with
      | some p => if p.dark then s else updOut m (fun x => { x with pendingOn := true }) s
      | none => driveSwitches m true true s

/-- Every safety output off. -/
def outputsOff (s : State) : State := forN 12 (fun m s => setOutput m false s) s

/-- Every switch opens at once, one under test too (R347, R357). -/
def openSwitches (s : State) : State :=
  forN 12 (fun m s => outputOff m (updOut m (fun x => { x with demand := false }) s)) s

/-! ### Forced stages (R203, R349) -/

/-- The force-off line of one stage. -/
def setForced (x : StageId) (on : Bool) (s : State) : State :=
  match x with
  | .currentLoop i => updCl i (fun c => { c with safetyOff := on }) s
  | .fastOutput j => updFao j (fun c => { c with safetyOff := on }) s
  | .digital d => updDio d (fun c => { c with safetyOff := on }) s

/-- The stages forced off change at once, and with them their drive (R350). -/
def forceStages (l : List StageId) (s : State) : State :=
  if s.saf.forced = l then s
  else
    let s := forAll s.saf.forced (fun x s => setForced x false s) s
    driveStages (forAll l (fun x s => setForced x true s) { s with saf.forced := l })

/-! ### Faults (R338, R357) -/

/-- Confirmation ends: the island returns to its previous state and the configuration stays pending (R361). -/
def endConfirming (st : Status) (s : State) : State :=
  if s.saf.state != .confirming then s
  else
    let box := s.saf.confirmBox
    let s := note 1 .safetyStep [0x0C15, st.code]
      { s with saf.state := s.saf.before, saf.confirmBox := none, saf.confirmStep := 0, saf.confirmOn := false }
    match box with
    | some m => completeRequest m st [] s
    | none => s

/-- STO on an axis named for lock-out (R349). -/
def lockAxes (s : State) : State :=
  match s.safetyCfg with
  | some k => forAll k.lockAxes (fun x s => updAxis x (fun a => { a with sto := true }) s) s
  | none => s

/-- The island enters lock-out with a cause, whatever its state: outputs off, the lock-out list forced off (R349, R357). -/
def lockOut (cause : Nat) (s : State) : State :=
  let s := note 1 .safetyFault [cause] s
  let s := { s with saf.lockTick := if s.saf.state = .lockout then s.saf.lockTick else s.time.tick,
                    saf.state := .lockout, saf.fault := cause, saf.faults := s.saf.faults + 1, saf.faultNow := true,
                    saf.lockEvents := s.saf.lockEvents ++ [true] }
  let stages := match s.saf.cfg with | some k => k.lockStages | none => []
  lockAxes (forceStages (s.saf.forced ++ stages.filter (!s.saf.forced.contains ·)) (openSwitches s))

/-- A safety fault (R338). An UNCONFIGURED island supervises nothing (R355). -/
def safetyFault (cause : Nat) (s : State) : State :=
  let s := endConfirming .badArg s
  if s.saf.state = .unconfigured then s else lockOut cause s

/-- A fault that stays present: a required connection lost, or a path missing too long (R358, R374, R380). -/
def State.faultPresent (s : State) : Bool :=
  s.saf.faultNow || s.shr.conns.cells.any fun c => c.2.stands || c.2.pathFault0 || c.2.pathFault1

/-! ### Status points (R355) -/

def bitsFrom (n : Nat) (p : Nat → Bool) : Nat := ((List.range n).map fun i => if p i then 2 ^ i else 0).sum

def IslandState.code : IslandState → Nat
  | .unconfigured => 0 | .run => 1 | .lockout => 2 | .confirming => 3

/-- The island state word (point 272). -/
def State.islandWord (s : State) : Nat :=
  s.saf.state.code * 2 ^ 28 + s.saf.heldMode * 2 ^ 24 + (if heldOff s.saf.heldMode then 2 ^ 23 else 0) +
    (if s.saf.pending.isSome then 2 ^ 22 else 0) + rd s.saf.image 12 2

/-- Sequences that carry safety_hold (point 282): those the logic holds, and every one in lock-out. -/
def State.islandHolds (s : State) (q : Nat) : Bool := s.saf.holds.contains q || s.inLockout

/-- The content of a status point. -/
def islandPoint (s : State) (p : Nat) : Nat :=
  let resetPair := match s.pairCfg with
    | some k => (List.range 24).find? fun n => (k.pairRole n).1 == .reset
    | none => none
  match p with
  | 272 => s.islandWord
  | 273 => s.saf.crc.toNat
  | 274 => bitsFrom 24 fun n => (s.inPair n).on && some n != resetPair
  | 275 => bitsFrom 24 fun n => (s.inPair n).faulted
  | 276 => bitsFrom 12 (fun m => (s.safeOut m).demand) +
      2 ^ 16 * bitsFrom 12 fun m => (s.safeOut m).readHigh && (s.safeOut m).readLow
  | 277 => bitsFrom 12 (fun m => (s.safeOut m).faulted) + 2 ^ 16 * bitsFrom 12 fun m => (s.safeOut m).overload
  | 278 => bitsFrom 32 fun i => (s.cl i).safetyOff
  | 279 => bitsFrom 16 (fun i => (s.cl (32 + i)).safetyOff) + 2 ^ 16 * bitsFrom 16 fun j => (s.fao j).safetyOff
  | 280 => bitsFrom 32 fun d => (s.dio d).safetyOff
  | 281 => bitsFrom 32 fun d => (s.dio (32 + d)).safetyOff
  | 282 => bitsFrom 16 s.islandHolds + (if s.inLockout then 2 ^ 31 else 0)
  | 283 => bitsFrom 32 fun x => (s.axis x).sto
  | 284 => bitsFrom 32 fun x => (s.axis x).ss1.isSome && !(s.axis x).ss1Done
  | 285 => bitsFrom 32 fun x => (s.axis x).violation
  | 286 => bitsFrom 32 fun x => (s.axis x).compareFail
  | 287 => bitsFrom 32 fun c => (s.conn c).mode = .valid
  | 288 => bitsFrom 32 fun c => (s.conn (32 + c)).mode = .valid
  | 289 => s.saf.flags.toNat
  | 290 => s.saf.demand % 65536
  | 291 => s.saf.fault
  | 292 => (if s.saf.resetLevel then 1 else 0) + (if s.saf.resetBad != 0 then 2 else 0) + 16 * s.saf.resetBad
  | 293 => s.saf.samples % 2 ^ 32
  | 318 => if s.saf.firmware = 0 then Config.islandVersion.toNat else s.saf.firmware.toNat
  | 319 => s.saf.rounds % 2 ^ 32
  | _ => 0

/-- The mirror of the island's status reaches its points (R20, R355). Where in the tick it does so is the island's own
oscillator's. -/
def mirrorIsland (s : State) : State :=
  let sub := sub16 (Config.unstated 82 [s.saf.samples, s.saf.evals, s.time.tick] % max 1 s.periodNs)
  forN 48 (fun i s =>
    updPoint (272 + i) (fun e => { e with value := BitVec.ofNat 32 (islandPoint s (272 + i)), valid := true, sub }) s) s

/-! ### The configuration connection (R336) -/

/-- A frame on the configuration connection: the island keeps the mode, and holds outputs off where it must. -/
def configFrame (s : State) : State :=
  let s := { s with saf.heldMode := s.sys.mode.code }
  mirrorIsland (if heldOff s.saf.heldMode then outputsOff s else s)

/-- CONFIG_CONNECTION_FRAME: sent while the supervisor serves. -/
def configConnectionEffect (s : State) : State := if s.sys.supUp && !s.sys.inReset then configFrame s else s

/-- A command of class 0x0C reaches the island in a frame of the configuration connection; a request of the session's
mailbox keeps the session open (R336, R361). -/
def reachIsland (q : Issued) (s : State) : State :=
  let s := configFrame s
  match s.saf.session with
  | some (m, _) => if m = q.mailbox then { s with saf.session := some (m, s.sys.opNs) } else s
  | none => s

/-! ### Restart (R23, R335, R357) -/

/-- The stages and axes of the lock-out list, as the island starts in lock-out (R349, R357). -/
def lockStart (s : State) : State :=
  if s.saf.state != .lockout then s
  else lockAxes (forceStages ((s.saf.cfg.map (·.lockStages)).getD []) s)

/-- The island's SRAM is cleared and it starts from its own store: the configuration, the password, the counters and a
lock-out with its cause stay. Its switches open and its force-off lines end but for those of a lock-out. -/
def islandRestart (s : State) : State :=
  let s := forceStages [] (openSwitches (endConfirming .badArg s))
  let f := s.saf
  lockStart { s with
    shr := {},
    saf := { state := f.state, fault := (if f.state = .lockout then f.fault else 0), faults := f.faults, refused := f.refused,
             lockTick := f.lockTick, lockEvents := f.lockEvents, cfg := f.cfg, image := f.image, crc := f.crc,
             build := f.build, firmware := f.firmware, password := f.password,
             pairs := ⟨f.pairs.cells.map fun x => (x.1, ({ faults := x.2.faults } : InPair))⟩,
             outs := ⟨f.outs.cells.map fun x => (x.1, ({ tests := x.2.tests, overloads := x.2.overloads } : SafeOut))⟩ } }

end Sys2Proof.Machine
end

