-- ==== Sys2Proof/Machine/Recipe.lean ====
section
/-! DEFINITION. Recipe images (chapter 10): the layout of R228 to R231 and the checks of R232. -/

namespace Sys2Proof.Machine

/-- A failing field of an image: its byte offset and the reason code of R232. -/
structure Flaw where
  offset : Nat
  reason : Nat
  deriving DecidableEq, Repr

/-- A field with the condition under which it offends. -/
def flaw (bad : Bool) (offset reason : Nat) : List Flaw := if bad then [⟨offset, reason⟩] else []

/-- The flaw at the lowest offset; of two at one offset the first found. -/
def firstFlaw (l : List Flaw) : Option Flaw :=
  l.foldl (fun a x => match a with | none => some x | some y => if x.offset < y.offset then some x else some y) none

/-- What the checks of an image look up: period, bindings and formats. -/
structure ImageCheck where
  period : Nat
  ramp   : Nat → Bool
  point  : Nat → Bool
  format : Nat → Option Byte

/-- The image header (R228). -/
structure ImageHead where
  steps : Nat
  abortFirst : Nat
  stepOff : Nat
  assignOff : Nat
  assigns : Nat
  transOff : Nat
  trans : Nat
  deriving DecidableEq, Repr

def imageHead (d : List Byte) : ImageHead :=
  { steps := rd d 22 2, abortFirst := rd d 24 2, stepOff := rd d 28 4, assignOff := rd d 32 4, assigns := rd d 36 4,
    transOff := rd d 40 4, trans := rd d 44 4 }

/-- Reasons 1 to 3, and the counts and tables of the header under reason 4, in this order. -/
def headFlaw (d : List Byte) (period crc : Nat) : Option Flaw :=
  let n := d.length
  let h := imageHead d
  let one := firstFlaw (flaw (rd d 0 4 != 0x5E9C0A10) 0 1 ++ flaw (rd d 4 2 != 1) 4 1 ++ flaw (rd d 6 2 != 64) 6 1 ++
    flaw (n < 68 || rd d 16 4 != n || n > 0x1000000) 16 1 ++ flaw (rd d 26 2 != 0) 26 1 ++ flaw (rd d 60 4 != 0) 60 1)
  let two := flaw (rd d (n - 4) 4 != crc32c (d.take (n - 4)) || rd d (n - 4) 4 != crc) (n - 4) 2
  let three := flaw (rd d 20 2 != period) 20 3
  let four := firstFlaw (flaw (h.steps < 1 || h.steps > 1024) 22 4 ++ flaw (h.abortFirst > h.steps) 24 4 ++
    flaw (h.stepOff + 16 * h.steps > n - 4) 28 4 ++ flaw (h.assignOff + 16 * h.assigns > n - 4) 32 4 ++
    flaw (h.transOff + 56 * h.trans > n - 4) 40 4)
  one.or (two.head?.or (three.head?.or four))

/-- The assignment at an offset (R230). -/
def assignAt (d : List Byte) (o : Nat) : Assign :=
  { kind := rd d o 1, wait := rd d (o + 1) 1 % 2 == 1, ref := rd d (o + 2) 2, value := BitVec.ofNat 32 (rd d (o + 4) 4),
    rate := BitVec.ofNat 32 (rd d (o + 8) 4), accel := BitVec.ofNat 32 (rd d (o + 12) 4) }

/-- Whether a point in this format may hold a value (R78). -/
def formatFlaw (format : Option Byte) (v : U32) (o : Nat) : List Flaw :=
  match format with
  | some 0 => flaw (!fFinite v) o 7
  | some 3 => flaw (v.toNat > 1) o 7
  | _ => []

/-- The flaws of one assignment; `before` are the assignments of the step listed before it. -/
def assignFlaws (c : ImageCheck) (d : List Byte) (o : Nat) (before : List Assign) : List Flaw :=
  let a := assignAt d o
  let point := a.kind = 2
  let same := before.any fun b => b.ref == a.ref && (decide (b.kind = 2) == decide point)
  flaw (a.kind > 2) o 4 ++ flaw (rd d (o + 1) 1 > 1) (o + 1) 1 ++
    (if point then
      flaw (a.ref > 8191) (o + 2) 4 ++ flaw (!c.point a.ref || same) (o + 2) 7 ++ formatFlaw (c.format a.ref) a.value (o + 4)
    else
      flaw (a.ref > 1023) (o + 2) 4 ++ flaw (!c.ramp a.ref || same) (o + 2) 6 ++ flaw (!fFinite a.value) (o + 4) 10 ++
      flaw (a.kind = 0 && (!fFinite a.rate || !fLt 0 a.rate)) (o + 8) 10 ++
      flaw (a.kind = 0 && (!fFinite a.accel || fLt a.accel 0)) (o + 12) 10)

/-- The term at an offset (R231). -/
def termAt (d : List Byte) (o : Nat) : Term :=
  { kind := rd d o 1, op := rd d (o + 1) 1, ref := rd d (o + 2) 2, level := BitVec.ofNat 32 (rd d (o + 4) 4),
    hyst := BitVec.ofNat 32 (rd d (o + 8) 4) }

/-- The flaws of one term; `waits` tells that an assignment of the step carries wait. -/
def termFlaws (c : ImageCheck) (d : List Byte) (o : Nat) (waits : Bool) : List Flaw :=
  let t := termAt d o
  let onPoint := t.kind = 1 || t.kind = 3
  let level := match t.kind with
    | 0 => t.level.toNat < 1
    | 1 => !fFinite t.level
    | 2 => t.level.toNat != 0
    | _ => t.level.toNat == 0
  flaw (t.kind > 3) o 4 ++ flaw (t.kind = 2 && !waits) o 9 ++ flaw (t.op > (if onPoint then 1 else 0)) (o + 1) 4 ++
    flaw (if onPoint then t.ref > 8191 else t.ref != 0) (o + 2) 4 ++
    flaw (t.kind = 1 && c.format t.ref != some 0) (o + 2) 8 ++
    flaw (t.kind = 3 && !(c.format t.ref = some 3 || c.format t.ref = some 2)) (o + 2) 8 ++ flaw level (o + 4) 10 ++
    flaw (if t.kind = 1 then !fFinite t.hyst || fLt t.hyst 0 else t.hyst.toNat != 0) (o + 8) 10

/-- The transition at an offset (R231). -/
def transitionAt (d : List Byte) (o : Nat) : Transition :=
  { any := rd d o 1 == 1, timeout := rd d (o + 2) 1 % 2 == 1, target := rd d (o + 4) 2,
    terms := (List.range (min 4 (rd d (o + 1) 1))).map fun m => termAt d (o + 8 + 12 * m) }

/-- Targets of a fired transition that are no step (R231). -/
def endTarget : Nat := 0xFFFF
def abortTarget : Nat := 0xFFFE

/-- The flaws of one transition; `owner` tells whether its step is a normal one and whether an assignment of it carries wait, and is
none for a transition that no step names. -/
def transitionFlaws (c : ImageCheck) (h : ImageHead) (d : List Byte) (o : Nat) (owner : Option (Bool × Bool)) : List Flaw :=
  let n := rd d (o + 1) 1
  let target := rd d (o + 4) 2
  let step := target != endTarget && target != abortTarget
  let wrong := match owner with
    | some (true, _) => step && target ≥ h.abortFirst
    | some (false, _) => target = abortTarget || (step && target < h.abortFirst)
    | none => false
  let waits := owner.all (·.2)
  flaw (rd d o 1 > 1) o 4 ++ flaw (n < 1 || n > 4) (o + 1) 4 ++ flaw (rd d (o + 2) 1 > 1) (o + 2) 1 ++
    flaw (rd d (o + 3) 1 != 0) (o + 3) 1 ++ flaw (step && target ≥ h.steps) (o + 4) 4 ++ flaw wrong (o + 4) 5 ++
    flaw (rd d (o + 6) 2 != 0) (o + 6) 1 ++
    (List.range 4).flatMap fun m =>
      let t := o + 8 + 12 * m
      if m < n then termFlaws c d t waits else flaw (((d.drop t).take 12).any (· != 0)) t 1

/-- The step at an offset (R229). -/
def stepAt (h : ImageHead) (d : List Byte) (o : Nat) : Step :=
  { assigns := (List.range (rd d (o + 8) 2)).map fun i => assignAt d (h.assignOff + 16 * (rd d o 4 + i)),
    trans := (List.range (rd d (o + 10) 1)).map fun i => transitionAt d (h.transOff + 56 * (rd d (o + 4) 4 + i)),
    pause := rd d (o + 11) 1 % 2 == 1 }

/-- The flaws of step `i` with its assignments and transitions, as far as its counts lie within the tables. -/
def stepFlaws (c : ImageCheck) (h : ImageHead) (d : List Byte) (i : Nat) : List Flaw :=
  let o := h.stepOff + 16 * i
  let na := rd d (o + 8) 2
  let nt := rd d (o + 10) 1
  let counts := flaw (rd d o 4 + na > h.assigns) o 4 ++ flaw (rd d (o + 4) 4 + nt > h.trans) (o + 4) 4 ++
    flaw (na > 256) (o + 8) 4 ++ flaw (nt < 1 || nt > 8) (o + 10) 4
  let head := flaw (rd d (o + 11) 1 > 1) (o + 11) 1 ++ flaw (rd d (o + 12) 4 != 0) (o + 12) 1
  if !counts.isEmpty then counts ++ head
  else
    let st := stepAt h d o
    let waits := st.assigns.any (·.wait)
    head ++
      ((List.range na).flatMap fun k => assignFlaws c d (h.assignOff + 16 * (rd d o 4 + k)) (st.assigns.take k)) ++
      ((List.range nt).flatMap fun k =>
        transitionFlaws c h d (h.transOff + 56 * (rd d (o + 4) 4 + k)) (some (decide (i < h.abortFirst), waits)))

/-- The entries of a table that the index and count of no step name. -/
def unnamed (h : ImageHead) (d : List Byte) (count firstAt countAt countLen : Nat) : List Nat :=
  (List.range count).filter fun k => (List.range h.steps).all fun i =>
    let o := h.stepOff + 16 * i
    k < rd d (o + firstAt) 4 || rd d (o + firstAt) 4 + rd d (o + countAt) countLen ≤ k

/-- The complete check of an image (R232): header, CRC, period and tables first, then all records of its three tables, those that no
step names among them; the flaw at the lowest offset is named. -/
def imageFlaw (c : ImageCheck) (d : List Byte) (crc : Nat) : Option Flaw :=
  (headFlaw d c.period crc).or
    (let h := imageHead d
     firstFlaw ((List.range h.steps).flatMap (stepFlaws c h d) ++
       ((unnamed h d h.assigns 0 8 2).flatMap fun k => assignFlaws c d (h.assignOff + 16 * k) []) ++
       ((unnamed h d h.trans 4 10 1).flatMap fun k => transitionFlaws c h d (h.transOff + 56 * k) none)))

/-- The image that good bytes spell. -/
def parseImage (d : List Byte) : Image :=
  let h := imageHead d
  { recipe := BitVec.ofNat 64 (rd d 8 8), period := rd d 20 2, abortFirst := h.abortFirst,
    steps := (List.range h.steps).map fun i => stepAt h d (h.stepOff + 16 * i), bytes := d }

end Sys2Proof.Machine
end

