-- ==== Sys2Proof/Machine/ProgramSet.lean ====
section
/-! DEFINITION. Program sets (chapter 11): the layouts of R251 and R270 and the checks of R271. -/

namespace Sys2Proof.Machine

/-- A list of points in an image. -/
def pointList (d : List Byte) (o n : Nat) : List Nat := (List.range n).map fun i => rd d (o + 2 * i) 2

/-- The task record at an offset (R251): input, output and latch lists follow one another. -/
def taskAt (d : List Byte) (o : Nat) : TaskRec :=
  let nin := rd d (o + 24) 2
  let nout := rd d (o + 26) 2
  let l := rd d (o + 32) 4
  { core := rd d o 1, task := rd d (o + 1) 1, priority := rd d (o + 2) 1, event := rd d (o + 3) 1 == 1,
    cycle := rd d (o + 4) 4, phase := rd d (o + 8) 4, trigPoint := rd d (o + 12) 2, trigOp := rd d (o + 14) 1,
    maxSkips := rd d (o + 15) 1, level := BitVec.ofNat 32 (rd d (o + 16) 4), hyst := BitVec.ofNat 32 (rd d (o + 20) 4),
    inputs := pointList d l nin, outputs := pointList d (l + 2 * nin) nout,
    latches := pointList d (l + 2 * nin + 2 * nout) (rd d (o + 28) 1) }

/-- Owner code of a task (R250). -/
def taskOwner (t : TaskRec) : Nat := 0x10 + 8 * t.core + t.task

/-- What the checks of a set look up: period, formats, and whether an online change could give a task a point. -/
structure SetCheck where
  period : Nat
  format : Nat → Option Byte
  own    : Nat → Nat → Bool

/-- The flaws of a task record (R251, R271, reason 1), and of its output points (reason 5). -/
def taskFlaws (c : SetCheck) (d : List Byte) (o : Nat) : List Flaw :=
  let t := taskAt d o
  let l := rd d (o + 32) 4
  let lists := 2 * (rd d (o + 24) 2 + rd d (o + 26) 2 + rd d (o + 28) 1)
  let us := t.cycle * c.period
  let onF32 := t.event && c.format t.trigPoint = some 0
  let trigger := match c.format t.trigPoint with
    | some f => f = 0 || f = 2 || f = 3
    | none => false
  flaw (t.core > 3) o 1 ++ flaw (t.task > 7) (o + 1) 1 ++ flaw (t.priority < 1 || t.priority > 15) (o + 2) 1 ++
    flaw (rd d (o + 3) 1 > 1) (o + 3) 1 ++ flaw (us < 1000 || us > 1000000) (o + 4) 1 ++
    flaw (if t.event then t.phase != 0 else t.phase ≥ t.cycle) (o + 8) 1 ++
    flaw (if t.event then !trigger else t.trigPoint != 0xFFFF) (o + 12) 1 ++ flaw (t.event && t.trigOp > 2) (o + 14) 1 ++
    flaw (t.maxSkips < 1) (o + 15) 1 ++ flaw (onF32 && !fFinite t.level) (o + 16) 1 ++
    flaw (onF32 && (!fFinite t.hyst || fLt t.hyst 0)) (o + 20) 1 ++ flaw (rd d (o + 24) 2 > 2048) (o + 24) 1 ++
    flaw (rd d (o + 26) 2 > 1024) (o + 26) 1 ++ flaw (rd d (o + 28) 1 > 64) (o + 28) 1 ++
    flaw (rd d (o + 29) 3 != 0) (o + 29) 1 ++ flaw (l + lists > d.length - 4) (o + 32) 1 ++
    flaw (rd d (o + 36) 4 != 0) (o + 36) 1 ++
    (t.inputs.zipIdx.flatMap fun x => flaw (x.1 ≥ 8192) (l + 2 * x.2) 1) ++
    (t.outputs.zipIdx.flatMap fun x => flaw (!c.own x.1 (taskOwner t)) (l + 2 * t.inputs.length + 2 * x.2) 5) ++
    (t.latches.zipIdx.flatMap fun x =>
      flaw (!t.inputs.contains x.1 || c.format x.1 != some 3)
        (l + 2 * (t.inputs.length + t.outputs.length) + 2 * x.2) 1)

/-- A name in ASCII, padded with zero. -/
def asciiName (l : List Byte) : Bool :=
  let text := l.takeWhile (· != 0)
  text.all (fun b => 0x20 ≤ b.toNat && b.toNat < 0x7F) && (l.drop text.length).all (· == 0)

/-- The flaws of the header (R270), reasons 1 to 3. -/
def setHeadFlaws (d : List Byte) (period crc : Nat) : Option Flaw :=
  let n := d.length
  let one := firstFlaw (flaw (rd d 0 4 != 0x0C16E9A5) 0 1 ++ flaw (rd d 4 2 != 1) 4 1 ++ flaw (rd d 6 2 != 64) 6 1 ++
    flaw (n < 68 || rd d 16 4 != n || n > 0x4000000) 16 1 ++ flaw (rd d 22 1 < 1 || rd d 22 1 > 32) 22 1 ++
    flaw (rd d 23 1 != 0) 23 1 ++ flaw (rd d 24 4 + 40 * rd d 22 1 > n - 4) 24 1 ++
    flaw (rd d 28 4 > 192 * 1048576) 28 1 ++ flaw (rd d 32 4 > 380 * 1024) 32 1 ++ flaw (rd d 36 4 > n - 4) 36 1 ++
    flaw (rd d 40 4 > n - 4) 40 1 ++ flaw (rd d 40 4 + rd d 44 4 > n - 4) 44 1 ++ flaw (!asciiName ((d.drop 48).take 12)) 48 1 ++ flaw (rd d 60 4 != 0) 60 1)
  let two := flaw (rd d (n - 4) 4 != crc32c (d.take (n - 4)) || rd d (n - 4) 4 != crc) (n - 4) 2
  one.or (two.head?.or (flaw (rd d 20 2 != period) 20 3).head?)

/-- Two tasks that take one core and slot, or share a priority on one core (R271, reason 4). -/
def clashFlaws (d : List Byte) : List Flaw :=
  let off := rd d 24 4
  let l := (List.range (rd d 22 1)).map fun i => taskAt d (off + 40 * i)
  l.zipIdx.flatMap fun x =>
    let before := (l.take x.2).filter fun t => t.core == x.1.core
    flaw (before.any fun t => t.task == x.1.task) (off + 40 * x.2 + 1) 4 ++
      flaw (before.any fun t => t.priority == x.1.priority) (off + 40 * x.2 + 2) 4

/-- An output point that an earlier place of the output lists of the set holds, so that its task cannot own it (R271, reason 5). -/
def sharedFlaws (d : List Byte) : List Flaw :=
  let off := rd d 24 4
  let places := (List.range (rd d 22 1)).flatMap fun i =>
    let o := off + 40 * i
    let t := taskAt d o
    t.outputs.zipIdx.map fun x => (x.1, rd d (o + 32) 4 + 2 * t.inputs.length + 2 * x.2)
  places.zipIdx.flatMap fun x => flaw ((places.take x.2).any fun y => y.1 == x.1.1) x.1.2 5

/-- The complete check of a program set (R271). -/
def setFlaw (c : SetCheck) (d : List Byte) (crc : Nat) : Option Flaw :=
  (setHeadFlaws d c.period crc).or
    (firstFlaw (((List.range (rd d 22 1)).flatMap fun i => taskFlaws c d (rd d 24 4 + 40 * i)) ++ clashFlaws d ++ sharedFlaws d))

/-- The program set that good bytes spell. -/
def parseSet (d : List Byte) : ProgSet :=
  { id := BitVec.ofNat 64 (rd d 8 8), name := (d.drop 48).take 12, period := rd d 20 2, instanceLen := rd d 28 4,
    retentiveLen := rd d 32 4, crc := BitVec.ofNat 32 (rd d (d.length - 4) 4),
    tasks := (List.range (rd d 22 1)).map fun i => taskAt d (rd d 24 4 + 40 * i), bytes := d }

/-- Type digest and retentive mark of a variable of a set. -/
def ProgSet.symbol (p : ProgSet) (path : List Byte) : Option (U64 × Bool) := Config.symbol p.bytes path

end Sys2Proof.Machine
end

