-- ==== Sys2Proof/Machine/Sequencer.lean ====
section
/-! DEFINITION. The recipe sequencer (chapter 10): steps, transitions, holds, starts and ends of the 16 sequences, program
commands through control points, and the commands of class 0x08. -/

namespace Sys2Proof.Machine

/-! ### State word, status points and records (R226, R227) -/

def SeqRun.code : SeqRun → Nat
  | .noImage => 0 | .ready => 1 | .running => 2 | .aborting => 3

/-- The state word (R227). -/
def Sequence.word (q : Sequence) : Nat :=
  let b := fun (x : Bool) => if x then 1 else 0
  q.ackSerial * 2 ^ 24 + q.ackResult * 2 ^ 20 + q.run.code * 2 ^ 16 + b q.safetyHold * 2 ^ 15 + b q.allHold * 2 ^ 14 +
    b q.cmdHold * 2 ^ 13 + b q.pauseHold * 2 ^ 12 + q.lastEnd * 2 ^ 8 + q.fired * 2 ^ 4 + q.cause

def Sequence.recipe (q : Sequence) : Nat := (q.active.map fun i => i.recipe.toNat).getD 0

/-- The contents of the five status points (R226). -/
def Sequence.status (q : Sequence) : List Nat :=
  [if q.running then q.step else 0xFFFFFFFF, q.word, sat32 q.elapsed, q.recipe % 2 ^ 32, q.recipe / 2 ^ 32]

/-- The points of a sequence that carry HELD with it: its status block and its bound points (R226). -/
def State.seqPoints (s : State) (i : Nat) : List Nat :=
  let c := s.seqBound i
  (match c.statusBase with | some b => rangeOf b 5 | none => []) ++ (c.bound.filter fun x => x.1 == 1).map (·.2)

/-- The status points that changed are written at a rank (R226). -/
def writeStatus (rank i : Nat) (s : State) : State :=
  match (s.seqBound i).statusBase with
  | none => s
  | some b =>
    let held := (s.seq i).held
    forAll ((s.seq i).status.zipIdx) (fun x s =>
      let v : U32 := BitVec.ofNat 32 x.1
      let e := s.ownEntry (b + x.2)
      if e.valid && e.value = v then s
      else
        let s := blockWrite rank 2 (b + x.2) v {} s
        if held then holdPoint (b + x.2) s else s) s

/-- The points of a held sequence carry HELD (R226), each until the first write after the hold (R81) or the end of the sequence
(R237). -/
def showHeld (i : Nat) (s : State) : State :=
  if (s.seq i).held then forAll (s.seqPoints i) holdPoint s else s

/-- A record of a sequence (R249): sequence, recipe, old and new step, cause, transition fired. -/
def noteSeq (rank : Nat) (k : EventKind) (i old : Nat) (s : State) : State :=
  let q := s.seq i
  note rank k [i, q.recipe, old, q.step, q.cause, q.fired] s

/-- Module mode from the sequences (R73, R74): RUN, HOLD or IDLE, where the mode is one of the three. -/
def seqMode (rank cause : Nat) (s : State) : State :=
  if s.sys.mode.live then
    let run := ((List.range 16).map s.seq).filter (·.running)
    setMode rank (if run.isEmpty then .idle else if run.all (·.held) then .hold else .run) cause s
  else s

/-- The same where the causes differ with the mode that results: `hold`, `run` or `idle` is the record that says why (R74). -/
def seqModeBy (rank : Nat) (hold run idle : Nat) (s : State) : State :=
  if s.sys.mode.live then
    let l := ((List.range 16).map s.seq).filter (·.running)
    if l.isEmpty then setMode rank .idle idle s
    else if l.all (·.held) then setMode rank .hold hold s else setMode rank .run run s
  else s

/-! ### Entering a step and ending (R234, R235, R237) -/

def Sequence.stepNow (q : Sequence) : Option Step := q.active.bind fun i => i.steps[q.step]?

/-- A write of a sequence to a point: discarded, counted and recorded (R84) where the point is not bound to it in the binding in
force (R225). -/
def boundWrite (rank i p : Nat) (v : U32) (s : State) : State :=
  if (s.seqBound i).bound.contains (1, p) then blockWrite rank 2 p v {} s else discardWrite rank 2 p s

/-- A ramp of a sequence takes a new target, and new limits where they are given; a ramp that is not bound to it in the binding in
force keeps its own (R225). -/
def boundRamp (i r : Nat) (target : F32) (limits : Option (F32 × F32)) (s : State) : State :=
  if (s.seqBound i).bound.contains (0, r) then
    let s := setRampTargetTo r target s
    match limits with
    | some (rate, accel) => updRamp r (fun x => { x with rate, accel }) s
    | none => s
  else s

/-- One assignment of a step entered at a rank; POINT values of a held sequence are stored (R235). -/
def assign (rank i : Nat) (a : Assign) (s : State) : State :=
  match a.kind with
  | 0 => boundRamp i a.ref a.value (some (a.rate, a.accel)) s
  | 1 => boundRamp i a.ref a.value none s
  | _ =>
    if (s.seq i).held then updSeq i (fun q => { q with stored := q.stored ++ [(a.ref, a.value)] }) s
    else boundWrite rank i a.ref a.value s

/-- Entry to a step at a rank (R234, R235) with its cause and the transition fired. -/
def enterStep (rank i step cause fired : Nat) (s : State) : State :=
  let old := (s.seq i).step
  let s := updSeq i (fun q => { q with step, elapsed := 0, terms := [], cause, fired, entryTick := s.time.tick }) s
  match (s.seq i).stepNow with
  | none => s
  | some st =>
    let s := forAll st.assigns (assign rank i) s
    let s := if st.pause then updSeq i (fun q => { q with pauseHold := true }) s else s
    let s := noteSeq rank .seqStep i old (writeStatus rank i (showHeld i s))
    if st.pause then noteSeq rank .seqHold i step s else s

/-- The end of a sequence (R237): HELD is cleared on its points, which a hold that stands sets again (R226). -/
def endSequence (rank i lastEnd : Nat) (s : State) : State :=
  let s := updSeq i (fun q => { q with run := .ready, lastEnd, cmdHold := false, pauseHold := false, stored := [] }) s
  let s := forAll (s.seqPoints i) (fun p s => updPoint p (fun e => { e with held := false }) s) s
  noteSeq rank .seqEnd i (s.seq i).step (writeStatus rank i (showHeld i s))

/-- The target ABORT (R237): the abort list, or the end where the image has none. -/
def abortSequence (rank i fired : Nat) (s : State) : State :=
  match (s.seq i).active with
  | none => s
  | some im =>
    if im.abortFirst < im.steps.length then
      enterStep rank i im.abortFirst 4 fired (updSeq i (fun q => { q with run := .aborting }) s)
    else endSequence rank i 2 (updSeq i (fun q => { q with fired }) s)

/-- A change of a sequence's holds: the stored POINT values are written once none is left (R235), and HELD and the
status points follow. -/
def changeHold (rank i : Nat) (f : Sequence → Sequence) (s : State) : State :=
  let before := (s.seq i).held
  let s := updSeq i f s
  let q := s.seq i
  let s := if before && !q.held && q.running then
      forAll q.stored (fun x s => boundWrite rank i x.1 x.2 s) (updSeq i (fun q => { q with stored := [] }) s)
    else s
  writeStatus rank i (if before then s else showHeld i s)

/-! ### Transitions (R236) -/

/-- Whether a term is true, on the points as they stood before rank 5 (R86); `was` tells that it was true a tick ago. -/
def termTrue (s : State) (q : Sequence) (t : Term) (was : Bool) : Bool :=
  let e := s.entryBefore t.ref
  match t.kind with
  | 0 => q.elapsed ≥ t.level.toNat
  | 1 =>
    e.usable &&
      (if t.op = 0 then fLt t.level e.value || (was && fLt (fSub t.level t.hyst) e.value)
       else fLt e.value t.level || (was && fLt e.value (fAdd t.level t.hyst)))
  | 2 =>
    match q.stepNow with
    | none => false
    | some st => (st.assigns.filter fun a => a.wait && a.kind != 2).all fun a => (s.ramp a.ref).atTarget
  | _ => e.usable && (if t.op = 0 then e.value &&& t.level = t.level else e.value &&& t.level = 0)

/-- The truth of every term of every transition of the current step. -/
def termTable (s : State) (q : Sequence) : List (List Bool) :=
  match q.stepNow with
  | none => []
  | some st => st.trans.zipIdx.map fun t => t.1.terms.zipIdx.map fun m => termTrue s q m.1 (q.terms.contains (t.2, m.2))

/-- The POINT terms that are true, which the next tick remembers. -/
def termMemory (q : Sequence) (table : List (List Bool)) : List (Nat × Nat) :=
  match q.stepNow with
  | none => []
  | some st => table.zipIdx.flatMap fun t => t.1.zipIdx.filterMap fun m =>
      let kind := ((st.trans[t.2]?).bind fun x => x.terms[m.2]?).map (·.kind)
      if m.1 && kind = some 1 then some (t.2, m.2) else none

/-- The first transition that fires. -/
def firedOf (q : Sequence) (table : List (List Bool)) : Option (Nat × Transition) :=
  match q.stepNow with
  | none => none
  | some st =>
    (st.trans.zipIdx.find? fun t =>
      let l := table.getD t.2 []
      if t.1.any then l.any id else l.all id).map fun t => (t.2, t.1)

/-- A fired transition is followed at rank 5 (R236, R237). -/
def fire (i : Nat) (n : Nat) (t : Transition) (s : State) : State :=
  let normal := (s.seq i).run = .running
  let s := updSeq i (fun q => { q with transitions := q.transitions + 1 }) s
  if t.target = endTarget then endSequence 5 i (if normal then 1 else 2) (updSeq i (fun q => { q with fired := n }) s)
  else if t.target = abortTarget then abortSequence 5 i n s
  else enterStep 5 i t.target (if t.timeout then 2 else 1) n s

/-- The evaluation of one sequence at rank 5 of a tick; `s0` is the state its terms read. -/
def evaluate (s0 : State) (i : Nat) (s : State) : State :=
  let q := s.seq i
  if !q.running || q.held then s
  else
    let q := { q with elapsed := q.elapsed + 1 }
    let table := termTable s0 q
    let s := writeStatus 5 i (updSeq i (fun _ => { q with terms := termMemory q table }) s)
    match firedOf q table with
    | some (n, t) => fire i n t s
    | none => s

/-! ### Starts (R238) -/

/-- The image a START activates: a pending one, else the active one. -/
def Sequence.startImage (q : Sequence) : Option Image := q.pending.or q.active

/-- A start at a rank: the pending image becomes active and the first step is entered. -/
def startSequence (rank i first : Nat) (s : State) : State :=
  let s := updSeq i (fun q =>
    { q with run := .running, active := q.startImage, slot := if q.pending.isSome then 1 - q.slot else q.slot, pending := none,
             lastEnd := 0, scheduled := none, stored := [] }) s
  let s := noteSeq rank .seqStart i first s
  enterStep rank i first 0 15 s

/-- The first tick of a scheduled start is the next one, so that rank 5 of this tick enters its first step (R238). -/
def State.startDue (s : State) (i : Nat) : Bool :=
  s.loopModes && (s.seq i).scheduled.any fun x => s.time.tick + 1 ≥ x.1

/-- A scheduled start that is due takes place at rank 5, and its request is answered. -/
def scheduledStart (i : Nat) (s : State) : State :=
  match (s.seq i).scheduled with
  | some (_, first, m, tag) =>
    if s.startDue i then completeTagged (m, tag) .done [] (startSequence 5 i first s) else s
  | none => s

/-- Rank 5 of a tick (R42, R236): scheduled starts and evaluations, in ascending index. A standby evaluates nothing
(R245). A change of mode names the scheduled START (R74), the hold by a step with pause or the end of a sequence. -/
def sequencerTick (s : State) : State :=
  if !s.computing then s
  else
    let t := forN 16 (fun i t => if (t.seq i).scheduled.isSome then scheduledStart i t else evaluate s i t) s
    let started := (List.range 16).any s.startDue
    let paused := (List.range 16).any fun i => (t.seq i).pauseHold && !(s.seq i).held
    let hold := if paused then EventKind.code .seqHold else if started then 0x0820 else EventKind.code .seqEnd
    seqModeBy 5 hold 0x0820 (EventKind.code .seqEnd) t

/-- The elapsed count of a sequence reaches, at rank 5 of the tick that ends, the level of an ELAPSED term of its step (R236). -/
def State.elapsedDue (s : State) (i : Nat) : Bool :=
  let q := s.seq i
  s.computing && q.running && !q.held &&
    match q.stepNow with
    | none => false
    | some st => st.trans.any fun t => t.terms.any fun m => m.kind = 0 && q.elapsed + 1 = m.level.toNat

/-- A scheduled start is cancelled: its request ends SUPERSEDED (R238, R242). -/
def cancelStart (i : Nat) (s : State) : State :=
  match (s.seq i).scheduled with
  | some (_, _, m, tag) => completeTagged (m, tag) .superseded [] (updSeq i (fun q => { q with scheduled := none }) s)
  | none => s

/-! ### Holds and aborts (R239 to R242) -/

def holdOne (rank i : Nat) (s : State) : State :=
  noteSeq rank .seqHold i (s.seq i).step (changeHold rank i (fun q => { q with cmdHold := true }) s)

def holdAll (rank : Nat) (s : State) : State :=
  forN 16 (fun i s => noteSeq rank .seqHold i (s.seq i).step (changeHold rank i (fun q => { q with allHold := true }) s))
    { s with sqn.allHold := true }

def resumeOne (rank i : Nat) (s : State) : State :=
  noteSeq rank .seqResume i (s.seq i).step (changeHold rank i (fun q => { q with cmdHold := false, pauseHold := false }) s)

def resumeAll (rank : Nat) (s : State) : State :=
  forN 16 (fun i s => noteSeq rank .seqResume i (s.seq i).step
      (changeHold rank i (fun q => { q with allHold := false, cmdHold := false, pauseHold := false }) s))
    { s with sqn.allHold := false }

/-- ABORT of one sequence by its state (R242). -/
def abortOne (rank i : Nat) (s : State) : State :=
  match (s.seq i).run with
  | .running =>
    let s := changeHold rank i (fun q => { q with cmdHold := false, pauseHold := false }) s
    abortSequence rank i 15 (noteSeq rank .seqAbort i (s.seq i).step s)
  | .ready => cancelStart i s
  | _ => s

/-- The safety holds of the island and of LOCKOUT at rank 1 (R239, R240). -/
def safetyHolds (s : State) : State :=
  let s := forN 16 (fun i s =>
    let on := s.saf.holds.contains i || s.sys.mode = .lockout
    if (s.seq i).safetyHold = on then s
    else
      noteSeq 1 (if on then .seqHold else .seqResume) i (s.seq i).step (changeHold 1 i (fun q => { q with safetyHold := on }) s)) s
  seqModeBy 1 (EventKind.code .seqHold) (EventKind.code .seqResume) (EventKind.code .seqEnd) s

/-- The exit from LOCKOUT turns the safety hold of each sequence into a hold by command (R74, R240). -/
def lockoutHolds (s : State) : State :=
  forN 16 (fun i s =>
    if (s.seq i).safetyHold then
      let on := s.saf.holds.contains i
      noteSeq 1 .seqHold i (s.seq i).step (changeHold 1 i (fun q => { q with safetyHold := on, cmdHold := true }) s)
    else s) s

/-- A reset of the loop engine with sequencer ends every running sequence and clears the sequencer's state but the images, the
word of the last end (R227) and what counts loads (R23, R244). -/
def resetSequences (s : State) : State :=
  forN 16 (fun i s =>
    let s := updSeq i (fun q => { q with scheduled := none, committing := none }) s
    let s := if (s.seq i).running then endSequence 2 i 3 s else s
    updSeq i (fun q =>
      { q with step := 0, elapsed := 0, ackSerial := 0, ackResult := 0, terms := [], stored := [], entryTick := 0 }) s) s

/-! ### Program commands through control points (R243) -/

/-- JUMP at a rank with the cause of a change of mode (R241). -/
def jumpTo (rank cause i step : Nat) (s : State) : State :=
  let old := (s.seq i).step
  seqMode rank cause (noteSeq rank .seqJump i old (enterStep rank i step 3 15 s))

/-- The result of a program command: 0 done; 1 refused in the present state, where R238 answers BUSY or the mode of R249 refuses; 2 bad
argument, where R238, R241 or R242 answers BAD_ARG. -/
def controlCommand (i v : Nat) (s : State) : Nat × State :=
  let q := s.seq i
  let step := v % 1024
  let normal := match q.startImage with | some im => decide (step < im.abortFirst) | none => false
  if v / 1024 % 1024 != 0 then (2, s)
  else match v / 2 ^ 20 % 16 with
    | 1 =>
      if !s.sys.mode.live then (1, s)
      else if q.run != .ready || !normal then (2, s)
      else if q.scheduled.isSome || s.proceeding then (1, s)
      else (0, seqMode 7 (EventKind.code .seqStart) (startSequence 7 i step s))
    | 2 => (0, seqMode 7 (EventKind.code .seqHold) (holdOne 7 i s))
    | 3 => (0, seqMode 7 (EventKind.code .seqResume) (resumeOne 7 i s))
    | 4 =>
      match q.run, q.active with
      | .running, some im =>
        if step < im.abortFirst then (0, jumpTo 7 (EventKind.code .seqJump) i step s) else (2, s)
      | .aborting, some im =>
        if im.abortFirst ≤ step && step < im.steps.length then (0, jumpTo 7 (EventKind.code .seqJump) i step s) else (2, s)
      | _, _ => (2, s)
    | 5 =>
      if q.running || q.scheduled.isSome then (0, seqMode 7 (EventKind.code .seqAbort) (abortOne 7 i s)) else (2, s)
    | _ => (2, s)

/-- Rank 7: the control points that a task end of the tick has written, each with a new serial, command their
sequences; a sequencer in reset acts on none. -/
def controlPoints (written : List Nat) (s : State) : State :=
  if !s.sys.engineUp then s
  else forN 16 (fun i s =>
    match (s.seqBound i).control with
    | none => s
    | some p =>
      let v := (s.value p).toNat
      if written.contains p && v / 2 ^ 24 != (s.seq i).ackSerial then
        let r := controlCommand i v s
        writeStatus 7 i (updSeq i (fun q => { q with ackSerial := v / 2 ^ 24, ackResult := r.1 }) r.2)
      else s) s

/-! ### Commands of class 0x08 (R249) -/

/-- The bindings that checks use: as configured within CONFIGURE, as in force elsewhere (R225). -/
def State.seqBinding (s : State) (i : Nat) : SeqCfg :=
  if s.sys.mode = .configure then s.cfg.seqs.getD i {} else s.seqBound i

def State.imageCheck (s : State) (i : Nat) : ImageCheck :=
  { period := s.time.periodUs, ramp := fun r => (s.seqBinding i).bound.contains (0, r),
    point := fun p => (s.seqBinding i).bound.contains (1, p) && (s.pointCfg p).owner = 2,
    format := fun p => if p < 8192 then some (s.pointCfg p).format else none }

def checkGetSequenceStatus (q : Issued) (_ : State) : Bad := firstBad [lenBad q 1, (q.u8 0 ≥ 16, .badArg)]
/-- 0x08.01: while the sequence does not run, the step reads 0xFFFF as the low half of its status point does
(notes/assumptions/23). -/
def runGetSequenceStatus (q : Issued) (s : State) : Reply :=
  let x := s.seq (q.u8 0)
  let pend := (x.pending.map fun i => i.recipe.toNat).getD 0
  say (le 8 s.time.tick ++ le 4 x.word ++ le 2 (if x.running then x.step else 0xFFFF) ++ le 4 (sat32 x.elapsed) ++ le 8 x.recipe ++ le 8 pend ++
    le 8 x.entryTick ++ le 8 ((x.scheduled.map (·.1)).getD 0) ++ le 8 x.transitions) s

def checkGetSequenceConfig (q : Issued) (_ : State) : Bad := firstBad [lenBad q 1, (q.u8 0 ≥ 16, .badArg)]
def runGetSequenceConfig (q : Issued) (s : State) : Reply :=
  let c := s.cfg.seqs.getD (q.u8 0) {}
  say (le 2 (c.statusBase.getD 0xFFFF) ++ le 2 (c.control.getD 0xFFFF) ++ le 2 c.bound.length ++
    c.bound.flatMap fun x => le 1 x.1 ++ le 2 x.2) s

/-- A sequence whose load commands wait: a start is scheduled or a commit is under way (R238). -/
def Sequence.loadBusy (q : Sequence) : Bool := q.scheduled.isSome || q.committing.isSome

def checkLoadBegin (q : Issued) (s : State) : Bad :=
  firstBad [lenBad q 13, (q.u8 0 ≥ 16, .badArg), (q.u32 1 < 68 || q.u32 1 > 0x1000000, .badArg),
    ((s.seq (q.u8 0)).loadBusy, .busy)]
/-- 0x08.10 (R233): a load opens, and a pending image is discarded; the state of the sequence stays as it is. -/
def runLoadBegin (q : Issued) (s : State) : Reply :=
  done (updSeq (q.u8 0) (fun x =>
    { x with load := some { len := q.u32 1, id := BitVec.ofNat 64 (q.u64 5) }, pending := none }) s)

def checkLoadData (q : Issued) (s : State) : Bad :=
  let n := q.u16 5
  firstBad [(q.len < 7, .badArg), lenBad q (7 + n), (q.u8 0 ≥ 16, .badArg), (n < 1 || n > 4064, .badArg),
    (match (s.seq (q.u8 0)).load with | none => true | some l => q.u32 1 + n > l.len, .badArg),
    ((s.seq (q.u8 0)).committing.isSome, .busy)]
def runLoadData (q : Issued) (s : State) : Reply :=
  done (updSeq (q.u8 0) (fun x =>
    { x with load := x.load.map fun l => { l with data := l.data.putList (q.u32 1) (q.bytes 7 (q.u16 5)) } }) s)

def checkLoadCommit (q : Issued) (s : State) : Bad :=
  firstBad [lenBad q 5, (q.u8 0 ≥ 16, .badArg), ((s.seq (q.u8 0)).load.isNone, .badArg), ((s.seq (q.u8 0)).loadBusy, .busy)]
/-- 0x08.12: accepted; the check of R232 follows as a long-running command. -/
def runLoadCommit (q : Issued) (s : State) : Reply :=
  acceptedReply (updSeq (q.u8 0) (fun x => { x with committing := some q.mailbox }) s)

/-- The bytes of a load; a byte never written is a free value (notes/assumptions/3). -/
def Load.bytes (l : Load) (where_ : Nat) : List Byte :=
  (List.range l.len).map fun i => (l.data.find i).getD (BitVec.ofNat 8 (Config.unstated where_ [i]))

/-- The end of 0x08.12 (R232, R233): the image is pending, or the pending slot stays empty. -/
def loadCommitDone (q : List Byte) (s : State) : Status × List Byte × State :=
  let i := rd q 0 1
  match (s.seq i).load with
  | none => (.badArg, [], updSeq i (fun x => { x with committing := none }) s)
  | some l =>
    let d := l.bytes i
    match imageFlaw (s.imageCheck i) d (rd q 1 4) with
    | some f =>
      (.badArg, le 4 f.offset ++ le 2 f.reason, updSeq i (fun x => { x with committing := none, load := none }) s)
    | none =>
      let s := updSeq i (fun x =>
        { x with committing := none, load := none, pending := some (parseImage d),
                 run := if x.run = .noImage then .ready else x.run }) s
      let q := s.seq i
      let s := note 8 .seqLoad [i, (parseImage d).recipe.toNat, q.step, q.step, q.cause, q.fired] s
      (.done, [], writeStatus 8 i s)

def checkDiscardPending (q : Issued) (s : State) : Bad :=
  firstBad [lenBad q 1, (q.u8 0 ≥ 16, .badArg), ((s.seq (q.u8 0)).loadBusy, .busy)]
def runDiscardPending (q : Issued) (s : State) : Reply :=
  done (writeStatus 8 (q.u8 0) (updSeq (q.u8 0) (fun x =>
    { x with pending := none, load := none,
             run := if x.run = .ready && x.active.isNone && x.pending.isSome then .noImage else x.run }) s))

def imageIn (q : Issued) (s : State) : Option Image :=
  if q.u8 1 = 0 then (s.seq (q.u8 0)).active else (s.seq (q.u8 0)).pending

def checkReadImage (q : Issued) (s : State) : Bad :=
  firstBad [lenBad q 8, (q.u8 0 ≥ 16 || q.u8 1 > 1, .badArg), (q.u16 6 < 1 || q.u16 6 > 4064, .badArg),
    (match imageIn q s with | none => true | some i => q.u32 2 + q.u16 6 > i.bytes.length, .badArg)]
def runReadImage (q : Issued) (s : State) : Reply :=
  say (((imageIn q s).map fun i => (i.bytes.drop (q.u32 2)).take (q.u16 6)).getD []) s

def checkStart (q : Issued) (s : State) : Bad :=
  let x := s.seq (q.u8 0)
  let normal := match x.startImage with | some im => decide (q.u16 1 < im.abortFirst) | none => false
  firstBad [lenBad q 11, (q.u8 0 ≥ 16, .badArg), (q.u64 3 != 0 && q.u64 3 < q.tick + 2, .badArg),
    (x.run != .ready || !normal, .badArg), (x.scheduled.isSome || s.proceeding, .busy)]
def runStart (q : Issued) (s : State) : Reply :=
  if q.u64 3 = 0 then { st := seqMode 8 0x0820 (startSequence 8 (q.u8 0) (q.u16 1) s), later := true }
  else
    acceptedReply (updSeq (q.u8 0) (fun x => { x with scheduled := some (q.u64 3, q.u16 1, q.mailbox, q.tag) }) s)

def seqOrAllBad (q : Issued) : Bool × Status := (q.u8 0 ≥ 16 && q.u8 0 != 0xFF, .badArg)

/-- A unit that follows its peer's sequencer carries out no command to a sequence, in LOCKOUT neither (R245). -/
def State.followsSequences (s : State) : Bool := s.effMode = .sync || s.effMode = .standby || s.effMode = .handover

def checkHold (q : Issued) (s : State) : Bad := firstBad [(s.followsSequences, .refusedMode), lenBad q 1, seqOrAllBad q]
def runHold (q : Issued) (s : State) : Reply :=
  { st := seqMode 8 0x0821 (if q.u8 0 = 0xFF then holdAll 8 s else holdOne 8 (q.u8 0) s), later := true }

def checkResume (q : Issued) (s : State) : Bad := firstBad [(s.followsSequences, .refusedMode), lenBad q 1, seqOrAllBad q]
/-- 0x08.22 (R240): DONE carries the state word of the sequence; of sequence 0 for all (notes/assumptions/21). -/
def runResume (q : Issued) (s : State) : Reply :=
  let all := q.u8 0 = 0xFF
  let s := seqMode 8 0x0822 (if all then resumeAll 8 s else resumeOne 8 (q.u8 0) s)
  { st := s, payload := le 4 (s.seq (if all then 0 else q.u8 0)).word, later := true }

def checkJump (q : Issued) (s : State) : Bad :=
  let x := s.seq (q.u8 0)
  let fits := match x.run, x.active with
    | .running, some im => decide (q.u16 1 < im.abortFirst)
    | .aborting, some im => decide (im.abortFirst ≤ q.u16 1 ∧ q.u16 1 < im.steps.length)
    | _, _ => false
  firstBad [(s.followsSequences, .refusedMode), lenBad q 3, (q.u8 0 ≥ 16, .badArg), (!fits, .badArg)]
def runJump (q : Issued) (s : State) : Reply :=
  { st := jumpTo 8 0x0823 (q.u8 0) (q.u16 1) s, later := true }

def checkAbort (q : Issued) (s : State) : Bad :=
  let x := s.seq (q.u8 0)
  firstBad [(s.followsSequences, .refusedMode), lenBad q 1, seqOrAllBad q, (q.u8 0 != 0xFF && !x.running && x.scheduled.isNone, .badArg)]
def runAbort (q : Issued) (s : State) : Reply :=
  { st := seqMode 8 0x0824 (if q.u8 0 = 0xFF then forN 16 (abortOne 8) s else abortOne 8 (q.u8 0) s), later := true }

/-- The (kind, index) entries of 0x08.30. -/
def bindingPairs (q : Issued) : List (Nat × Nat) := (List.range (q.u16 1)).map fun i => (q.u8 (3 + 3 * i), q.u16 (4 + 3 * i))

/-- An entry that R225 refuses: kind, ramp source, point owner, ramp output, or another binding. -/
def State.bindingBad (s : State) (i : Nat) (l : List (Nat × Nat)) (x : (Nat × Nat) × Nat) : Bool :=
  let e := x.1
  (l.take x.2).contains e || s.cfg.seqs.cells.any (fun c => c.1 != i && c.2.bound.contains e) ||
    match e.1 with
    | 0 => e.2 ≥ 1024 || (s.rampCfg e.2).source != 0
    | 1 => e.2 ≥ 8192 || (s.ownerSet e.2).owner != 2 || s.cfg.ramps.cells.any (fun r => r.2.out == some e.2)
    | _ => true

def checkSetSequenceBinding (q : Issued) (s : State) : Bad :=
  Bad.or (firstBad [(q.len < 3, .badArg), lenBad q (3 + 3 * q.u16 1), (q.u8 0 ≥ 16, .badArg)])
    (firstFailing (bindingPairs q).zipIdx (s.bindingBad (q.u8 0) (bindingPairs q)) .badArg (fun i => le 2 i))
def runSetSequenceBinding (q : Issued) (s : State) : Reply :=
  done { s with cfg.seqs := s.cfg.seqs.upd (q.u8 0) {} (fun c => { c with bound := bindingPairs q }), cfg.any := true }

def checkSetSequencePoints (q : Issued) (s : State) : Bad :=
  let b := q.u16 1
  let c := q.u16 3
  let statusFits := 320 ≤ b && b + 4 ≤ 1023 &&
    (rangeOf b 5).all fun p => (s.ownerSet p).owner = 2 && (s.ownerSet p).format = 2
  let controlFits := c < 8192 && isTaskOwner (s.ownerSet c).owner && (s.ownerSet c).format = 2
  firstBad [lenBad q 5, (q.u8 0 ≥ 16, .badArg), (b != 0xFFFF && !statusFits, .badArg), (c != 0xFFFF && !controlFits, .badArg)]
def runSetSequencePoints (q : Issued) (s : State) : Reply :=
  let opt := fun (p : Nat) => if p = 0xFFFF then none else some p
  done { s with
    cfg.seqs := s.cfg.seqs.upd (q.u8 0) {} (fun c => { c with statusBase := opt (q.u16 1), control := opt (q.u16 3) }),
    cfg.any := true }

end Sys2Proof.Machine
end

