-- ==== Sys2Proof/Machine/Programs.lean ====
section
/-! DEFINITION. Cyclic programs (chapter 11): starts and ends of task cycles, skips and faults, retentive variables, online
change, resets of a core, and the commands of class 0x09. A cycle's results come with its TASK_END (R270). -/

namespace Sys2Proof.Machine

def State.task (s : State) (i : Nat) : Task := s.prg.tasks.getD i {}
def updTask (i : Nat) (f : Task → Task) (s : State) : State := { s with prg.tasks := s.prg.tasks.upd i {} f }

def TaskRec.index (t : TaskRec) : Nat := 8 * t.core + t.task
def taskResource (i : Nat) : Nat := resource 9 i
def ownerOf (i : Nat) : Byte := BitVec.ofNat 8 (0x10 + i)

/-- Task records of the set in use. -/
def State.taskRecs (s : State) : List TaskRec := match s.prg.running with | some p => p.tasks | none => []
def State.taskRec (s : State) (i : Nat) : Option TaskRec := s.taskRecs.find? fun t => t.index == i
def taskOutputs (s : State) (i : Nat) : List Nat := match s.taskRec i with | some r => r.outputs | none => []

/-- A core carries out starts: not in reset and not held stopped (R277, R445). -/
def State.coreServes (s : State) (c : Nat) : Bool := !s.prg.coreDown.contains c && !s.prg.coreStopped.contains c

/-- Tasks that run on a core, by descending priority. -/
def State.runningOn (s : State) (c : Nat) : List TaskRec :=
  sortBy (fun a b => decide (a.priority > b.priority))
    (s.taskRecs.filter fun t => t.core == c && (s.task t.index).mode == .running)

/-- The task of highest priority runs and the others of its core stand preempted (R254). -/
def arrange (c : Nat) (s : State) : State :=
  forAll (s.runningOn c).zipIdx (fun x s => updTask x.1.index (fun t => { t with preempted := decide (x.2 > 0) }) s) s

/-! ### Forces and variables (R260, R262, R276) -/

def putVar (x : List Byte × U64) : Vars → Vars
  | [] => [x]
  | y :: r => if y.1 = x.1 then x :: r else y :: putVar x r

def putRetained (x : Retained) : List Retained → List Retained
  | [] => [x]
  | y :: r => if y.path = x.path then x :: r else y :: putRetained x r

def State.varForce (s : State) (path : List Byte) : Option U64 := (s.prg.forces.find? fun f => f.1 == path).map fun f => f.2.1

/-- A variable's committed value: as committed, else as retained, else its initial value. -/
def State.variable (s : State) (set : ProgSet) (path : List Byte) : U64 :=
  match s.prg.committed.find? fun v => v.1 == path with
  | some v => v.2
  | none =>
    match s.prg.live.find? fun v => v.path == path with
    | some v => v.value
    | none => Config.initialValue set.bytes path

/-! ### Standard blocks (R32, R267, R268) -/

/-- The edges of a latched point: rose and fell where the point is a latched input of the task, otherwise its change against the
edge memory, of which a first latched input makes none (R264, R268, R269). -/
def Task.edgeOf (x : Task) (p : Nat) (was : Option Bool) : Bool × Bool :=
  match x.flags.find? (·.1 == p) with
  | some f => f.2
  | none =>
    let now := x.latched.any fun l => l.1 == p && l.2.1 != 0
    (was = some false && now, was = some true && !now)

/-- The value a task has latched of a point. -/
def Task.latchedOn (x : Task) (p : Nat) : Bool := x.latched.any fun l => l.1 == p && l.2.1 != 0

/-- A block as one executed cycle of a task leaves it. A timer reads the cycle stamp alone, and a stamp before its start stamp as no
time elapsed (R32). -/
def evalBlock (i : Nat) (x : Task) (digest : U64) (old : Option Block) (c : BlockCall) : Block :=
  let b : Block := old.getD { path := c.path, kind := c.kind }
  let b := { b with digest, task := i, kind := c.kind, retentive := c.retentive }
  match c.kind with
  | .edge p =>
    let e := x.edgeOf p b.was
    { b with was := some (x.latchedOn p), rose := e.1, fell := e.2 }
  | .counter => { b with was := some c.input, count := if b.was = some false && c.input then b.count + 1 else b.count }
  | .timer preset =>
    if c.input then
      let start := b.started.getD x.stamp
      { b with started := some start, elapsed := x.stamp - start, out := decide (x.stamp - start ≥ preset) }
    else { b with started := none, elapsed := 0, out := false }

/-- The blocks of a cycle are committed with its end. -/
def putBlock (b : Block) (l : List Block) : List Block := l.filter (·.path != b.path) ++ [b]

/-- A start of an executed cycle without commit: the edge memories of its task hold what that start latched (R268). -/
def latchEdges (i : Nat) (x : Task) (b : Block) : Block :=
  match b.kind with
  | .edge p => if b.task = i && x.latched.any (·.1 == p) then { b with was := some (x.latchedOn p) } else b
  | _ => b

/-- What a start of the tasks leaves of a block (R264, R267): a retentive one keeps its count and its start stamp, edge memories take
the first latched input, and every other timer stands. -/
def Block.restart (b : Block) : Block :=
  if b.retentive then { b with was := none } else { path := b.path, digest := b.digest, task := b.task, kind := b.kind }

/-! ### Starts (R252 to R256, R265 to R269) -/

/-- The start boundaries of a cyclic task. -/
def TaskRec.dueAt (t : TaskRec) (boundary : Nat) : Bool := !t.event && t.cycle > 0 && boundary % t.cycle = t.phase

/-- The condition of an event task on the points of a state (R253). -/
def State.eventCond (s : State) (t : TaskRec) (was : Bool) : Bool :=
  let e := s.entry t.trigPoint
  e.usable &&
    (if (s.ownerNow t.trigPoint).format = 0 then
      fLt t.level e.value || (was && fLt (fSub t.level t.hyst) e.value)
    else e.value != 0)

/-- Whether a change of the condition is in the direction of trigger_op. -/
def edgeFires (op : Nat) (was now : Bool) : Bool :=
  match op with
  | 0 => !was && now
  | 1 => was && !now
  | _ => was != now

/-- Rise and fall of a latched input over the ticks after `a` up to `b` (R269). -/
def State.latchFlags (s : State) (p a b : Nat) : Nat × Bool × Bool :=
  let pt := s.prg.edges.filter fun e => e.2.1 == p && a < e.1 && e.1 ≤ b
  let dio := s.stg.latches.filter fun l => 208 ≤ p && p < 272 && l.2.1 == p - 208 && a < l.1 && l.1 ≤ b
  (p, pt.any (·.2.2) || dio.any (·.2.2.1), pt.any (!·.2.2) || dio.any (·.2.2.2))

/-- HELD on the output points of a task (R93, R266). -/
def holdTask (i : Nat) (s : State) : State :=
  updTask i (fun t => { t with held := true }) (forAll (taskOutputs s i) holdPoint s)

/-- HELD on every point that a task owns (R93, R255). -/
def holdOwned (i : Nat) (s : State) : State := forAll (s.pointsOf (ownerOf i)) holdPoint (holdTask i s)

/-- A running cycle is abandoned without commit; its start was executed (R268). -/
def abandon (i : Nat) (s : State) : State :=
  let s := if (s.task i).mode = .running then { s with prg.blocks := s.prg.blocks.map (latchEdges i (s.task i)) } else s
  updTask i (fun t => { t with mode := if t.mode = .running then .waiting else t.mode, preempted := false, latched := [],
                               flags := [] }) s

/-- A task is FAULTED (R266): its cycle is abandoned and its outputs are HELD. -/
def faultTask (rank i : Nat) (s : State) : State :=
  let s := updTask i (fun t => { t with mode := .faulted }) (abandon i s)
  arrange (i / 8) (note rank .taskFaulted [i / 8, i % 8] (holdTask i s))

/-- A start that falls due while the task runs (R265): skipped, and a fault at max_skips (R266). -/
def skipStart (t : TaskRec) (s : State) : State :=
  let i := t.index
  let s := updTask i (fun x => { x with skips := x.skips + 1, consecutive := x.consecutive + 1, overrun := true }) s
  let s := note 7 .overrun [t.core, t.task, (s.task i).consecutive] s
  if (s.task i).consecutive ≥ t.maxSkips then faultTask 7 i s else s

/-- An executed start at the boundary that ends the tick (R256, R267): the inputs are latched from `s0`, the state after ranks 1
to 6. -/
def executeStart (s0 : State) (t : TaskRec) (s : State) : State :=
  let i := t.index
  let x := s.task i
  let b := s.time.tick
  let flags := if x.started then t.latches.map fun p => s0.latchFlags p x.lastStart b
    else t.latches.map fun p => (p, false, false)
  let latched := t.inputs.map fun p => (p, s0.value p, (s0.entry p).status)
  let s := updTask i (fun x =>
    { x with mode := .running, executed := x.executed + 1, consecutive := 0, overrun := false, lastStart := b,
             started := true, latched, flags, stamp := s.nextBoundary.2 / 1000, startReq := none }) s
  let s := match x.startReq with | some r => completeTagged r .done [] s | none => s
  arrange t.core s

/-- A start that 0x09.23 asked for ends the fault of its task (R266). -/
def clearTaskFault (i : Nat) (s : State) : State :=
  if s.isRetired (taskResource i) then releaseResource 7 (taskResource i) s else s

/-- A scheduled start of a task falls due at the boundary that ends the tick. -/
def taskDue (s0 : State) (t : TaskRec) (s : State) : State :=
  let x := s.task t.index
  if !s.coreServes t.core then s
  else match x.mode with
    | .running => skipStart t s
    | .waiting => executeStart s0 t s
    | .stopped | .faulted => if x.startReq.isSome then executeStart s0 t (clearTaskFault t.index s) else s
    | .unloaded => s

/-- A due start of an event task: suppressed while its least interval lasts (R253). -/
def eventDue (s0 : State) (t : TaskRec) (s : State) : State :=
  let x := s.task t.index
  if x.started && s.time.tick < x.lastStart + t.cycle then
    updTask t.index (fun x => { x with suppressed := x.suppressed + 1 }) s
  else taskDue s0 t s

/-- Tasks run in the modes in which loops compute (R255). -/
def State.programsRun (s : State) : Bool := s.loopModes

/-- Task records by descending priority, then core (R254, R258). -/
def byPriority (l : List TaskRec) : List TaskRec :=
  sortBy (fun a b => a.priority > b.priority || (a.priority = b.priority && a.core < b.core)) l

/-- Rank 7: the conditions of event tasks and the starts due at the boundary that ends the tick. -/
def taskStarts (s0 : State) (s : State) : State :=
  let boundary := s.nextBoundary.1
  forAll (byPriority s.taskRecs) (fun t s =>
    if t.event then
      let was := (s.task t.index).cond
      let now := s0.eventCond t was
      let s := updTask t.index (fun x => { x with cond := now }) s
      if edgeFires t.trigOp was now then eventDue s0 t (updTask t.index (fun x => { x with changedAt := boundary }) s) else s
    else if t.dueAt boundary then taskDue s0 t s else s) s

/-- A standby follows the conditions of its event tasks, so that a change is seen against the tick before the takeover (R253). -/
def followConditions (s : State) : State :=
  forAll s.taskRecs (fun t s' =>
    if t.event then updTask t.index (fun x => { x with cond := s.eventCond t x.cond }) s' else s') s

/-! ### Ends and traps (R257, R258, R261, R262) -/

/-- The changes of a cycle that a variable force does not discard (R276). -/
def State.unforced (s : State) (v : Vars) : Vars := v.filter fun x => (s.varForce x.1).isNone

/-- The shadow blocks newer than their live blocks are copied into the live copy (R262). -/
def commitLive (s : State) : State :=
  forAll s.prg.shadow (fun b s =>
    if b.seq > s.prg.liveSeq.getD b.task 0 then
      { s with prg.live := forAll b.words putRetained s.prg.live, prg.liveSeq := s.prg.liveSeq.put b.task b.seq }
    else s) s

/-- TASK_END (R257, R262) of the task that its core runs (R254): the outputs are staged, the changed retentive words and the end
sequence number stand in the shadow copy with the commit marker, and the working instance data becomes the committed copy. The
commit unit copies the shadow block into the live copy when it applies the outputs. -/
def taskEndEffect (i : Nat) (e : CycleEnd) (s : State) : State :=
  match s.prg.running, s.taskRec i with
  | some p, some t =>
    if (s.task i).mode != .running || (s.task i).preempted || !s.coreServes t.core then s
    else
      let stop := (s.task i).stopAfter.isSome
      let digest := fun (path : List Byte) => ((p.symbol path).map (·.1)).getD 0
      let kept := (s.unforced e.retentive).map fun v => (⟨v.1, digest v.1, v.2⟩ : Retained)
      let s := { s with
        prg.committed := forAll (s.unforced (e.vars ++ e.retentive)) putVar s.prg.committed,
        prg.shadow := s.prg.shadow.filter (·.task != i) ++ [{ task := i, seq := s.prg.liveSeq.getD i 0 + 1, words := kept }],
        prg.blocks := forAll e.blocks (fun c l =>
          putBlock (evalBlock i (s.task i) (digest c.path) (l.find? (·.path == c.path)) c) l) s.prg.blocks,
        prg.liveSet := if kept.isEmpty then s.prg.liveSet else some p.id,
        prg.ends := s.prg.ends ++
          [{ core := t.core, task := t.task, cycle := e, tick := s.time.tick, points := t.outputs, priority := t.priority }] }
      let s := updTask i (fun x =>
        { x with mode := if stop then .stopped else .waiting, preempted := false, lastEnd := s.time.tick, latched := [],
                 flags := [], lastRunNs := e.runNs, maxRunNs := max x.maxRunNs e.runNs }) s
      arrange t.core s
  | _, _ => s

/-- CIGEN_TRAP (R261) of the task that its core runs: the cycle ends without its commit; the trap is counted at rank 7 of its
tick. -/
def trapEffect (i code pc : Nat) (s : State) : State :=
  if (s.task i).mode != .running || (s.task i).preempted then s
  else
    let stop := (s.task i).stopAfter
    let s := updTask i (fun x => { x with traps := x.traps + 1, lastTrap := code }) (abandon i s)
    let s := note 7 .trap [i / 8, i % 8, code, pc] { s with prg.trapped := s.prg.trapped ++ [i] }
    let s := match stop with
      | some r => completeTagged r .done [] (holdTask i (updTask i (fun x => { x with mode := .stopped, stopAfter := none }) s))
      | none => s
    arrange (i / 8) s

/-- The value an output is written with: forced where a forced variable feeds it (R276). -/
def State.outputValue (s : State) (f : TaskFinish) (place : Nat) (v : U32) : U32 :=
  match s.prg.running with
  | none => v
  | some p =>
    match s.prg.forces.find? fun x => Config.feedsOutput p.bytes x.1 f.core f.task place with
    | some x => x.2.1.setWidth 32
    | none => v

/-- The outputs of one end at rank 7 (R258), its strays (R84), and a stop that waited for it (0x09.22). -/
def applyEnd (f : TaskFinish) (s : State) : State :=
  let i := 8 * f.core + f.task
  let s := forAll (List.zip f.points f.cycle.outputs).zipIdx (fun x s =>
    blockWrite 7 (ownerOf i) x.1.1 (s.outputValue f x.2 x.1.2) { sub := sub16 f.cycle.sub } s) s
  let s := forAll f.cycle.strays (fun x s =>
    discardWrite 7 (ownerOf i) x.1 s) s
  let s := updTask i (fun t => { t with held := false }) s
  match (s.task i).stopAfter with
  | some r => completeTagged r .done [] (holdTask i (updTask i (fun t => { t with stopAfter := none }) s))
  | none => s

/-- The ends of the tick in descending priority, then ascending core (R258), and the program commands they carry. -/
def taskEnds (s : State) : State :=
  let l := sortBy (fun a b => a.priority > b.priority || (a.priority = b.priority && a.core < b.core)) s.prg.ends
  let written := l.flatMap (·.points)
  controlPoints written (forAll l applyEnd (commitLive { s with prg.ends := [] }))

/-! ### Online change (R272 to R276) -/

/-- No task of the running set is running. -/
def State.tasksIdle (s : State) : Bool := s.taskRecs.all fun t => (s.task t.index).mode != .running

/-- A variable of the old set that the new set holds with equal path and type (R273). -/
def matched (old new : ProgSet) (path : List Byte) : Bool :=
  match old.symbol path, new.symbol path with
  | some a, some b => a.1 = b.1
  | _, _ => false

/-- The owner of a point moves to a task of the new set (R83, R274). -/
def moveOwner (p : Nat) (o : Byte) (s : State) : State :=
  let c := s.ownerNow p
  note 7 .ownerMove [p, c.owner.toNat, o.toNat]
    { s with pts.inForce := s.pts.inForce.put p { c with owner := o }, cfg.points := s.cfg.points.put p { c with owner := o } }

/-- Points at the change boundary (R274). -/
def changePoints (new : ProgSet) (s : State) : State :=
  let outs := new.tasks.flatMap fun t => t.outputs.map fun p => (p, BitVec.ofNat 8 (taskOwner t))
  let orphans := (List.range 8192).filter fun p => isTaskOwner (s.ownerNow p).owner && !(outs.any fun x => x.1 == p)
  let s := forAll outs (fun x s => if (s.ownerNow x.1).owner = x.2 then s else moveOwner x.1 x.2 s) s
  forAll orphans (fun p s => note 7 .orphan [p, if (s.entry p).forced then 1 else 0] (holdPoint p s)) s

/-- The numbers of the record of an exchange (R273): instances matched, new and discarded. -/
def instanceCounts (old new : ProgSet) : List Nat :=
  let a := Config.instances old.bytes
  let b := Config.instances new.bytes
  let both := (b.filter a.contains).length
  [both, b.length - both, (a.filter (!b.contains ·)).length]

/-- The tasks of a set, each as `f` gives it. -/
def taskTable (p : ProgSet) (f : Nat → Task) : Tab Task :=
  ⟨((List.range 32).filter fun i => p.tasks.any fun t => t.index == i).map fun i => (i, f i)⟩

/-- The condition of the tick before for a task of a new set: kept where the old set has the same trigger, else as it now is, so
that it has not changed (notes/assumptions/52). -/
def State.condUnder (s : State) (new : ProgSet) (i : Nat) : Bool :=
  match new.tasks.find? (·.index == i) with
  | none => false
  | some t =>
    let same := (s.taskRec i).any fun r =>
      r.event && r.trigPoint = t.trigPoint && r.level = t.level && r.hyst = t.hyst
    t.event && (if same then (s.task i).cond else s.eventCond t false)

/-- The exchange of the running set for another (R272, R273, R276): matched instances keep their data, others take initial
values. -/
def exchangeWith (old new : ProgSet) (s : State) : State :=
  let gone := s.prg.forces.filter fun f => !matched old new f.1
  let s := forAll gone (fun f s => note 7 .varForce ([2] ++ f.1.map BitVec.toNat) s) s
  let s := changePoints new (note 7 .onlineChange (instanceCounts old new) s)
  let s := forAll s.taskRecs (fun t s => clearTaskFault t.index s) s
  { s with
    prg.running := some new, prg.staged := none, prg.change := none,
    prg.committed := s.prg.committed.filter fun v => matched old new v.1,
    prg.live := s.prg.live.filter fun v => matched old new v.path,
    prg.blocks := s.prg.blocks.filter fun b => matched old new b.path,
    prg.liveSet := some new.id, prg.forces := s.prg.forces.filter fun f => matched old new f.1,
    prg.tasks := taskTable new fun i =>
      { s.task i with mode := .waiting, overrun := false, consecutive := 0, cond := s.condUnder new i,
                      stopAfter := none, startReq := none },
    cfg.program := some new, cfg.any := true }

/-- The exchange that 0x09.21 has ordered takes place at a boundary, which its answer names. -/
def exchangeSets (boundary : Nat) (s : State) : State :=
  match s.prg.running, s.prg.staged, s.prg.change with
  | some old, some new, some (_, _, m, tag) => completeTagged (m, tag) .done (le 8 boundary) (exchangeWith old new s)
  | _, _, _ => s

/-- The exchange is due at a boundary (R272). -/
def State.changeDue (s : State) (boundary : Nat) : Bool :=
  match s.prg.change with
  | some (c, _, _, _) => c ≤ boundary && s.tasksIdle
  | none => false

/-- ONLINE_CHANGE_TIMEOUT (R272): no boundary within the window. -/
def onlineTimeoutEffect (s : State) : State :=
  match s.prg.change with
  | some (_, w, m, tag) =>
    if s.toolNs ≥ w then completeTagged (m, tag) .busy [] { s with prg.change := none } else s
  | none => s

/-! ### Rank 7 (R42) -/

/-- Changes of the latched BOOL points in a tick (R269), and how long they are kept. -/
def trackLatches (s0 s : State) : State :=
  let pts := (s.taskRecs.flatMap (·.latches)).eraseDups
  let oldest := (s.taskRecs.map fun t => (s.task t.index).lastStart).foldl min s.time.tick
  let new := pts.filterMap fun p =>
    let now := s0.value p != 0
    match s.prg.latchAt.find p with
    | some was => if was = now then none else some (s.time.tick, p, now)
    | none => none
  { s with
    prg.latchAt := forAll pts (fun p t => t.put p (s0.value p != 0)) s.prg.latchAt,
    prg.edges := s.prg.edges.filter (fun e => e.1 > oldest) ++ new,
    stg.latches := s.stg.latches.filter (fun l => l.1 > oldest) }

/-- Loads of the cores in a tick (0x09.02). -/
def coreLoads (s : State) : State :=
  { s with prg.busy := forN 4 (fun c t =>
      let b := Config.busyPermille c s.time.tick
      t.put c (b, max b (t.getD c (0, 0)).2)) s.prg.busy }

/-- Rank 7 of a tick: task starts, then task ends; at an exchange the ends come first, and the starts run under the new
set (R258, R275). Traps of the tick are counted, so that a fault they cause falls in the next tick (R456). -/
def programTick (s : State) : State :=
  if !s.programsRun then { commitLive s with prg.ends := [], prg.trapped := [] }
  else
    let s0 := s
    let b := s.nextBoundary
    let s := trackLatches s0 s
    let s := if s.changeDue b.1 then taskStarts s0 (exchangeSets b.1 (taskEnds s)) else taskEnds (taskStarts s0 s)
    let s := match s.prg.change with
      | some (_, w, m, tag) =>
        if b.2 ≥ w then completeTagged (m, tag) .busy [] { s with prg.change := none } else s
      | none => s
    coreLoads (forAll s.prg.trapped (fun i s => countFault (taskResource i) s) { s with prg.trapped := [] })

/-! ### Start, stop and resets (R255, R264, R277, R445) -/

/-- Retentive variables at the entry to IDLE (R264): from the live copy, by path and type where another set wrote it, when one
record gives the number of those of the new set that take initial values. A COLD start removes the variable forces (R276). -/
def retentiveStart (p : ProgSet) (s : State) : State :=
  if s.cfg.cold then
    let s := forAll s.prg.forces (fun f s => note 8 .varForce ([2] ++ f.1.map BitVec.toNat) s) s
    { s with prg.live := [], prg.forces := [], prg.committed := [], prg.blocks := [], prg.liveSet := some p.id }
  else
    let fits := fun (v : Retained) =>
      match p.symbol v.path with
      | some (d, true) => d == v.digest
      | _ => false
    let same := s.prg.liveSet = some p.id || s.prg.liveSet = none
    let keep := if same then s.prg.live else s.prg.live.filter fits
    let initial := (Config.retentivePaths p.bytes).filter fun v => !keep.any (·.path == v)
    let s := if same || initial.isEmpty then s else note 8 .retentiveUnmatched [initial.length] s
    let blocks := s.prg.blocks.filter fun b => same || ((p.symbol b.path).map (·.1) = some b.digest)
    { s with prg.live := keep, prg.committed := [], prg.blocks := blocks.map Block.restart, prg.liveSet := some p.id }

/-- The running set is loaded at a start of the module, its tasks stopped until the entry to IDLE (R271). -/
def loadSet (s : State) : State :=
  match s.cfg.program with
  | none => { s with prg.running := none, prg.tasks := {} }
  | some p => { s with prg.running := some p, prg.tasks := taskTable p fun i => { s.task i with mode := .stopped } }

/-- A task that waits for its next scheduled start and has latched nothing; `cond` is the condition of the tick before. -/
def Task.fresh (x : Task) (faulted cond : Bool) : Task :=
  { x with mode := if faulted then .faulted else .waiting, started := false, cond, overrun := false, consecutive := 0, held := false,
           preempted := false, latched := [], flags := [], stopAfter := none, startReq := none }

/-- Tasks of a unit that takes over from its peer (R255): each first runs at its next scheduled start, on the mirrored data. -/
def takeOverTasks (s : State) : State :=
  match s.prg.running with
  | none => s
  | some p =>
    { s with
      prg.tasks := taskTable p fun i =>
        (s.task i).fresh ((s.task i).mode = .faulted || s.isRetired (taskResource i)) (s.task i).cond,
      prg.latchAt := {}, prg.edges := [] }

/-- Tasks at the entry to IDLE: the running set of the settings, each task WAITING or still FAULTED (R255, R264). -/
def startPrograms (s : State) : State :=
  match s.cfg.program with
  | none => { s with prg.running := none, prg.tasks := {} }
  | some p =>
    let s := retentiveStart p { s with prg.running := some p }
    { s with
      prg.tasks := taskTable p fun i =>
        let cond := (s.taskRec i).any fun t => t.event && s.eventCond t false
        (s.task i).fresh ((s.task i).mode = .faulted || s.isRetired (taskResource i)) cond,
      prg.latchAt := {}, prg.edges := [] }

/-- Every task stops (R255): running cycles are abandoned and the owned points are HELD. -/
def stopPrograms (s : State) : State :=
  let s := forAll s.taskRecs (fun t s =>
    let i := t.index
    let was := s.task i
    let s := updTask i (fun x => { x with mode := if x.mode = .faulted then .faulted else .stopped, stopAfter := none,
                                          startReq := none }) (holdOwned i (abandon i s))
    let s := match was.stopAfter with | some r => completeTagged r .done [] s | none => s
    match was.startReq with | some r => completeTagged r .superseded [] s | none => s) s
  match s.prg.change with
  | some (_, _, m, tag) => completeTagged (m, tag) .busy [] { s with prg.change := none }
  | none => s

/-- The commands a program core serves. -/
def coreOps : List Op := [.stopTask, .startTask]

/-- The domain of a program core is reset (R277, R445, R93, R70). -/
def resetCoreDomain (rank c cause : Nat) (s : State) : State :=
  if s.prg.coreDown.contains c then s
  else
    let s := domainReset rank 2 c cause s
    let s := { s with prg.coreDown := c :: s.prg.coreDown, prg.resets := s.prg.resets.upd c 0 (· + 1) }
    let mine := s.taskRecs.filter fun t => t.core == c
    let s := forAll mine (fun t s => updTask t.index (fun x => { x with stopAfter := none, startReq := none })
      (holdTask t.index (abandon t.index s))) s
    let s := forAll (rangeOf (0x10 + 8 * c) 8) (fun o s => forAll (s.pointsOf (BitVec.ofNat 8 o)) holdPoint s) s
    let s := restartOn coreOps (fun p => rd p 0 1 == c) s
    let r := escalate 600 s.sys.opNs (s.sys.coreResets.getD c [])
    let s := { s with sys.coreResets := s.sys.coreResets.put c r.1 }
    if r.2 then
      forAll mine (fun t s => faultTask rank t.index s) { s with prg.coreStopped := c :: s.prg.coreStopped }
    else s

/-- CORE_RESTART_COMPLETE (R277). -/
def coreRestartEffect (c : Nat) (s : State) : State :=
  if s.prg.coreDown.contains c then
    completeOn [.resetCore] (fun p => rd p 0 1 == c) .done []
      { s with prg.coreDown := s.prg.coreDown.filter (· != c) }
  else s

/-- The replay at a start of the module (R262): shadow blocks newer than their live blocks are copied, every other is discarded. -/
def replayRetentive (s : State) : State := { commitLive s with prg.shadow := [] }

/-! ### Commands of class 0x09 (R279) -/

def taskIn (q : Issued) : Nat := 8 * q.u8 0 + q.u8 1
def taskBad (q : Issued) : Bool := q.u8 0 > 3 || q.u8 1 > 7

def TaskMode.code : TaskMode → Nat
  | .unloaded => 0 | .stopped => 1 | .waiting => 2 | .running => 3 | .faulted => 4

/-- Whether a forced variable belongs to a task, which the symbol table of Vasundi Studio tells (notes/assumptions/8). -/
def State.forcedVars (s : State) (i : Nat) : Bool :=
  s.prg.forces.any fun f => Config.unstated 22 (i :: f.1.map BitVec.toNat) = 1

/-- The status word of a task (R278). -/
def State.taskStatus (s : State) (i : Nat) : Nat :=
  let x := s.task i
  let b := fun (y : Bool) => if y then 1 else 0
  x.mode.code * 2 ^ 28 + b x.overrun * 2 ^ 27 + b x.preempted * 2 ^ 26 + b x.held * 2 ^ 25 + b (s.forcedVars i) * 2 ^ 24 +
    sat8 x.consecutive * 2 ^ 16 + sat8 (s.inWindow (taskResource i)) * 2 ^ 8 + x.lastTrap % 256

def checkGetTaskStatus (q : Issued) (_ : State) : Bad := firstBad [lenBad q 2, (taskBad q, .badArg)]
def runGetTaskStatus (q : Issued) (s : State) : Reply :=
  let x := s.task (taskIn q)
  say (le 4 (s.taskStatus (taskIn q)) ++ le 8 x.executed ++ le 8 x.skips ++ le 8 x.suppressed ++ le 4 x.traps ++
    le 8 x.lastStart ++ le 8 x.lastEnd ++ le 4 x.lastRunNs ++ le 4 x.maxRunNs) s

def checkGetCoreLoad (q : Issued) (_ : State) : Bad := firstBad [lenBad q 1, (q.u8 0 > 3, .badArg)]
def runGetCoreLoad (q : Issued) (s : State) : Reply :=
  let b := s.prg.busy.getD (q.u8 0) (0, 0)
  say (le 2 b.1 ++ le 2 b.2 ++ le 4 (s.prg.resets.getD (q.u8 0) 0)) s

/-- The set of a slot of 0x09.03. -/
def setIn (q : Issued) (s : State) : Option ProgSet :=
  if q.u8 0 = 1 then s.prg.staged else s.prg.running

def checkGetProgramInfo (q : Issued) (s : State) : Bad :=
  firstBad [lenBad q 1, (q.u8 0 > 1, .badArg), ((setIn q s).isNone, .badArg)]
def runGetProgramInfo (q : Issued) (s : State) : Reply :=
  match setIn q s with
  | none => done s
  | some p =>
    say (le 8 p.id.toNat ++ p.name ++ le 1 p.tasks.length ++ le 4 p.instanceLen ++ le 4 p.retentiveLen ++ le 4 p.crc.toNat) s

def checkProgramLoadBegin (q : Issued) (s : State) : Bad :=
  firstBad [lenBad q 12, (q.u32 0 < 68 || q.u32 0 > 0x4000000, .badArg),
    (s.prg.change.isSome || s.prg.committing.isSome, .busy)]
def runProgramLoadBegin (q : Issued) (s : State) : Reply :=
  done { s with prg.load := some { len := q.u32 0, id := BitVec.ofNat 64 (q.u64 4) }, prg.staged := none }

def checkProgramLoadData (q : Issued) (s : State) : Bad :=
  let n := q.u16 4
  firstBad [(q.len < 6, .badArg), lenBad q (6 + n), (n < 1 || n > 4064, .badArg),
    (match s.prg.load with | none => true | some l => q.u32 0 + n > l.len, .badArg), (s.prg.committing.isSome, .busy)]
def runProgramLoadData (q : Issued) (s : State) : Reply :=
  done { s with prg.load := s.prg.load.map fun l => { l with data := l.data.putList (q.u32 0) (q.bytes 6 (q.u16 4)) } }

def checkProgramLoadCommit (q : Issued) (s : State) : Bad :=
  firstBad [lenBad q 4, (s.prg.load.isNone, .badArg), (s.prg.change.isSome || s.prg.committing.isSome, .busy)]
def runProgramLoadCommit (q : Issued) (s : State) : Reply :=
  acceptedReply { s with prg.committing := some q.mailbox }

/-- An output point a task of a new set may own (R83, R84, R271): already its own, or another task's, which an online
change moves. -/
def State.taskMayOwn (s : State) (p o : Nat) : Bool := p < 8192 && ((s.pointCfg p).owner.toNat = o || isTaskOwner (s.pointCfg p).owner)

def State.setCheck (s : State) : SetCheck :=
  { period := s.time.periodUs, format := fun p => if p < 8192 then some (s.pointCfg p).format else none, own := s.taskMayOwn }

/-- The end of 0x09.12 (R271). -/
def programCommitDone (q : List Byte) (s : State) : Status × List Byte × State :=
  match s.prg.load with
  | none => (.badArg, [], { s with prg.committing := none })
  | some l =>
    let d := l.bytes 21
    match setFlaw s.setCheck d (rd q 0 4) with
    | some f => (.badArg, le 4 f.offset ++ le 2 f.reason, { s with prg.committing := none, prg.load := none })
    | none => (.done, [], { s with prg.committing := none, prg.load := none, prg.staged := some (parseSet d) })

def checkDiscardStaged (q : Issued) (s : State) : Bad :=
  firstBad [lenBad q 0, (s.prg.change.isSome || s.prg.committing.isSome, .busy)]
def runDiscardStaged (_ : Issued) (s : State) : Reply := done { s with prg.staged := none, prg.load := none }

def checkInstallStaged (q : Issued) (s : State) : Bad := firstBad [lenBad q 0, (s.prg.staged.isNone, .badArg)]
def runInstallStaged (_ : Issued) (s : State) : Reply :=
  done { s with cfg.program := s.prg.staged, cfg.any := true, prg.staged := none }

def checkOnlineChange (q : Issued) (s : State) : Bad :=
  firstBad [lenBad q 10, (q.u64 0 != 0 && q.u64 0 < q.tick + 2, .badArg),
    (q.u16 8 != 0 && (q.u16 8 < 100 || q.u16 8 > 10000), .badArg),
    (s.prg.staged.isNone || s.prg.running.isNone, .badArg), (s.prg.change.isSome || s.prg.committing.isSome, .busy)]
def runOnlineChange (q : Issued) (s : State) : Reply :=
  let c := if q.u64 0 = 0 then q.tick + 2 else q.u64 0
  let w := if q.u16 8 = 0 then 1000 else q.u16 8
  acceptedReply { s with prg.change := some (c, c * s.periodNs + w * 1000000, q.mailbox, q.tag) }

def checkStopTask (q : Issued) (s : State) : Bad :=
  firstBad [lenBad q 2, (taskBad q, .badArg), ((s.taskRec (taskIn q)).isNone, .badArg),
    ((s.task (taskIn q)).stopAfter.isSome, .busy)]
def runStopTask (q : Issued) (s : State) : Reply :=
  let i := taskIn q
  if (s.task i).mode = .running then acceptedReply (updTask i (fun x => { x with stopAfter := some q.ref }) s)
  else done (holdTask i (updTask i (fun x => { x with mode := if x.mode = .faulted then .faulted else .stopped }) s))

def checkStartTask (q : Issued) (s : State) : Bad :=
  firstBad [lenBad q 2, (taskBad q, .badArg), ((s.taskRec (taskIn q)).isNone, .badArg),
    ((s.task (taskIn q)).startReq.isSome, .busy)]
def runStartTask (q : Issued) (s : State) : Reply :=
  acceptedReply (updTask (taskIn q) (fun x => { x with startReq := some q.ref }) s)

def checkResetCore (q : Issued) (s : State) : Bad :=
  firstBad [lenBad q 1, (q.u8 0 > 3, .badArg), (s.prg.coreDown.contains (q.u8 0), .busy)]
/-- 0x09.24 (R277, R445): it also ends the stop of a core. -/
def runResetCore (q : Issued) (s : State) : Reply :=
  let c := q.u8 0
  let was := s.prg.coreStopped.contains c
  let s := if was then { s with prg.coreStopped := s.prg.coreStopped.filter (· != c), sys.coreResets := s.sys.coreResets.del c }
    else s
  let s := resetCoreDomain 8 c 0x0204 s
  acceptedReply (if was then { s with sys.coreResets := s.sys.coreResets.del c } else s)

/-- The path of a request at an offset: its length byte, then its bytes. -/
def pathAt (q : Issued) (o : Nat) : List Byte := q.bytes (o + 1) (q.u8 o)

def State.pathKnown (s : State) (path : List Byte) : Bool :=
  match s.prg.running with
  | some p => (p.symbol path).isSome
  | none => false

def checkSetVarForce (q : Issued) (s : State) : Bad :=
  let n := q.u8 0
  firstBad [(q.len < 1 || n < 1 || n > 128, .badArg), lenBad q (9 + n), (!s.pathKnown (pathAt q 0), .badArg),
    ((s.varForce (pathAt q 0)).isNone && s.prg.forces.length ≥ 256, .badArg)]
def runSetVarForce (q : Issued) (s : State) : Reply :=
  let path := pathAt q 0
  let v : U64 := BitVec.ofNat 64 (q.u64 (1 + q.u8 0))
  let others := s.prg.forces.filter fun f => f.1 != path
  done (note 8 .varForce ([if (s.varForce path).isSome then 1 else 0, v.toNat] ++ path.map BitVec.toNat)
    { s with prg.forces := others ++ [(path, v, q.tick)] })

def checkRemoveVarForce (q : Issued) (s : State) : Bad :=
  let n := q.u8 0
  firstBad [(q.len < 1 || n > 128, .badArg), lenBad q (1 + n), (n != 0 && !s.pathKnown (pathAt q 0), .badArg)]
def runRemoveVarForce (q : Issued) (s : State) : Reply :=
  let out := s.prg.forces.filter fun f => q.u8 0 = 0 || f.1 == pathAt q 0
  let s := forAll out (fun f s => note 8 .varForce ([2] ++ f.1.map BitVec.toNat) s) s
  say (le 2 out.length) { s with prg.forces := s.prg.forces.filter fun f => !(q.u8 0 = 0 || f.1 == pathAt q 0) }

/-- The entries that fit a response of 4,072 B, from an index on. -/
def fitBytes : Nat → List (List Byte) → List (List Byte)
  | _, [] => []
  | room, x :: r => if x.length ≤ room then x :: fitBytes (room - x.length) r else []

def checkListVarForces (q : Issued) (_ : State) : Bad := firstBad [lenBad q 2]
def runListVarForces (q : Issued) (s : State) : Reply :=
  let l := fitBytes 4000 ((s.prg.forces.drop (q.u16 0)).map fun f =>
    le 1 f.1.length ++ f.1 ++ le 8 f.2.1.toNat ++ le 8 f.2.2)
  say (le 2 l.length ++ l.flatten) s

/-- The paths of 0x09.40, or none where the payload does not hold them exactly. -/
def readPaths : Nat → List Byte → Option (List (List Byte))
  | 0, [] => some []
  | 0, _ => none
  | _ + 1, [] => none
  | n + 1, k :: r =>
    if k.toNat < 1 || k.toNat > 128 || r.length < k.toNat then none
    else (readPaths n (r.drop k.toNat)).map (r.take k.toNat :: ·)

def checkReadVariables (q : Issued) (s : State) : Bad :=
  match readPaths (q.u8 0) (q.payload.drop 1) with
  | none => some (.badArg, [])
  | some l => firstBad [(q.u8 0 < 1 || q.u8 0 > 32 || q.len > 4076, .badArg), (l.any (!s.pathKnown ·), .badArg)]
def runReadVariables (q : Issued) (s : State) : Reply :=
  match s.prg.running, readPaths (q.u8 0) (q.payload.drop 1) with
  | some p, some l => say (le 8 s.time.tick ++ l.flatMap fun path => le 8 (s.variable p path).toNat) s
  | _, _ => done s

def checkClearTaskCounters (q : Issued) (_ : State) : Bad := firstBad [lenBad q 1, (q.u8 0 > 3 && q.u8 0 != 0xFF, .badArg)]
def runClearTaskCounters (q : Issued) (s : State) : Reply :=
  let l := if q.u8 0 = 0xFF then List.range 32 else rangeOf (8 * q.u8 0) 8
  done (forAll (l.filter s.prg.tasks.has)
    (updTask · fun x => { x with executed := 0, skips := 0, suppressed := 0, traps := 0, maxRunNs := 0 }) s)

def checkSetStartKind (q : Issued) (_ : State) : Bad := firstBad [lenBad q 1, (q.u8 0 > 1, .badArg)]
def runSetStartKind (q : Issued) (s : State) : Reply := done { s with cfg.cold := q.u8 0 == 1, cfg.any := true }

def checkClearRetentive (q : Issued) (_ : State) : Bad := firstBad [lenBad q 0]
/-- 0x09.51 (R279): no retentive data is left, those of blocks included. -/
def runClearRetentive (q : Issued) (s : State) : Reply :=
  done (note 8 .retentiveCleared [q.mailbox]
    { s with prg.live := [], prg.shadow := [], prg.liveSeq := {}, prg.liveSet := none, prg.blocks := s.prg.blocks.filter (!·.retentive) })

end Sys2Proof.Machine
end

