-- ==== Sys2Proof/Machine/Pair.lean ====
section
/-! DEFINITION. Redundant pairs (chapter 16): health grade, claim numbers, giving up, the mirror and its application,
roles and their transitions, witnesses, health reports and the commands of class 0x0D. -/

namespace Sys2Proof.Machine

def State.paired (s : State) : Bool := s.cfg.pair.paired

/-! ### Grade (R388) -/

def State.retiredKind (s : State) (k : Nat) : List Nat := (s.sys.retired.map (·.resource)).filter fun r => resKind r == k

/-- A port's link is up. -/
def Port.linked (p : Port) : Bool := p.mode = .linked || p.mode = .cyclic

/-- The caps of the rows of R388 with the conditions as they stand. -/
def State.caps (s : State) : List (Nat × Bool) :=
  let has := fun (l : List Nat) => l.any fun k => !(s.retiredKind k).isEmpty
  [(6, decide (s.time.state = .holdover) || s.par.pageCap.isSome || s.par.stayCap.isSome),
   (5, has [2, 3, 4, 5, 6, 7, 12]),
   (4, has [1] || decide ((s.retiredKind 7).length > 4) || s.cfg.pair.witnesses.any fun n => !(s.port n).linked),
   (3, has [8] || s.prg.tasks.cells.any fun x => x.2.mode = .faulted),
   (2, s.par.testCap.isSome),
   (1, decide (s.effMode = .standby) && s.par.split)]

/-- The grade of a working unit: 7 lowered to the smallest cap present. -/
def State.gradeNow (s : State) : Nat := s.caps.foldl (fun g c => if c.2 then min g c.1 else g) 7

/-- The row bits of a health report (R407). -/
def State.capBits (s : State) : Nat := (s.caps.zipIdx.map fun c => if c.1.2 then 2 ^ c.2 else 0).sum

/-- Whether the window of a timed cap has passed (R388). -/
def capWindowNs : TimedCap → Nat
  | .dramPage => 86400000000000
  | .stayErrors => 60000000000
  | .selfTest => 600000000000

/-- GRADE_CAP_EXPIRY. -/
def capExpiryEffect (c : TimedCap) (s : State) : State :=
  let ovr := fun (t : Option Nat) => t.any fun t => s.sys.opNs - t ≥ capWindowNs c
  match c with
  | .dramPage => if ovr s.par.pageCap then { s with par.pageCap := none } else s
  | .stayErrors => if ovr s.par.stayCap then { s with par.stayCap := none } else s
  | .selfTest => if ovr s.par.testCap then { s with par.testCap := none } else s

/-! ### Claims (R387, R389, R390) -/

/-- The unit bit: 1 when UNIT_B is tied to VAUX. -/
def State.unitBit (s : State) : Nat := if s.sys.straps.unitB = .tied then 1 else 0

/-- The claim that the mode and role give (R389). -/
def State.claimNow (s : State) : Byte :=
  let c := fun (grade incumbent : Nat) => BitVec.ofNat 8 (grade * 32 + incumbent * 16 + s.unitBit)
  if s.sys.inReset || !s.sys.powered || s.par.role = .givenUp then c 0 0
  else match s.effMode with
    | .idle | .run | .hold | .handover => c s.gradeNow 1
    | .standby => c (min s.gradeNow s.par.peerHeldGrade) 0
    | _ => c 0 0

/-- The composer keeps the last claim set through a supervisor reset (R387) and until the load point where a unit that
gave up waits for it (R392). The stages see a change at once. -/
def composeClaim (s : State) : State :=
  let s := { s with par.grade := s.gradeNow }
  if s.par.delayed.isSome || (!s.sys.supUp && !s.sys.inReset && s.par.role != .givenUp) then s
  else
    let c := s.claimNow
    if s.par.own = c then s else driveStages { s with par.own := c }

/-- A claim word (R390): sync, claim, its complement and their CRC-8. -/
def claimWordOf (c : Byte) : U32 :=
  let head := 0xB4 * 65536 + c.toNat * 256 + (255 - c.toNat)
  BitVec.ofNat 32 (head * 256 + crc8 (bitsOf 24 head))

/-- CLAIM_WORD_SEND (R390, R442). -/
def claimSendEffect (s : State) : State :=
  if s.sys.powered then emit (.claimWord (claimWordOf s.par.own)) { s with par.words := s.par.words + 1 } else s

/-- A received word passes the checks of R390 but for its unit bit. -/
def claimWordGood (w : U32) : Bool :=
  let v := w.toNat
  v / 2 ^ 24 == 0xB4 && v / 256 % 256 == 255 - v / 65536 % 256 && v % 256 == crc8 (bitsOf 24 (v / 256)) &&
    v / 65536 / 2 % 8 == 0

/-- CLAIM_WORD (R201, R390, R397): a valid peer claim is kept and the stages follow it; valid words end SOLO. A word with
the receiver's own unit bit is counted and recorded. -/
def claimWordEffect (w : U32) (s : State) : State :=
  let c : Byte := BitVec.ofNat 8 (w.toNat / 65536)
  if !claimWordGood w then s
  else if c.toNat % 2 = s.unitBit then note 3 .looped [c.toNat] { s with par.looped := s.par.looped + 1 }
  else
    let g := claimGrade c
    driveStages { s with
      par.peer := c, par.claimTick := some s.time.tick, par.claimLost := false,
      par.peerHeldGrade := if g = 0 then s.par.peerHeldGrade else g,
      par.peerIncumbentSeen := s.par.peerIncumbentSeen || c.getLsbD 4, par.solo := false }

/-- CLAIM_WORD_TIMEOUT (R201): 3 µs without a valid word. -/
def claimTimeoutEffect (s : State) : State := driveStages { s with par.claimLost := true }

/-- A valid peer claim stands. -/
def State.claimValid (s : State) : Bool := !s.par.claimLost && s.par.claimTick.isSome

/-! ### Giving up (R391, R392) -/

/-- An active pair member gives up with a cause: it stops releasing, and its claim falls at once, or at the load point
where the mirror of its last released tick went out complete. -/
def giveUp (rank cause : Nat) (s : State) : State :=
  if !s.paired || !(s.par.role = .active || s.par.role = .handover) then s
  else
    note rank .giveUp [cause]
      { s with par.role := .givenUp, par.giveUp := cause,
               par.delayed := if s.par.mirrored && cause != 3 then some s.time.tick else none }

/-- CLAIM_CHANGE_DELAYED (R392). -/
def claimDelayedEffect (s : State) : State := { s with par.delayed := none }

/-- The unit enters SYNC (R397): its mirror starts afresh. -/
def toSync (rank cause : Nat) (s : State) : State :=
  setEffMode rank .sync cause (note rank .pairRole [2]
    { s with par.role := .syncing, par.split := false, par.solo := false, par.syncGood := 0, par.apply := none,
             par.parts := [], par.rx := [], par.instDue := [], par.instTasks := [] })

/-! ### Pair checks (R386, R428, R430) -/

/-- The first check of R386 that fails: 1 unit bit, 2 settings digest, 3 mirror schema; 0 where all hold. While the settings schemas of
the units differ, a source_digest serves as well (R428). -/
def pairCheck (p : PeerInfo) (s : State) : Nat :=
  let own := Config.settingsDigest s.cfg
  let source := fun (d : U32) => if d = 0 || s.upd.schema = p.settings.toNat then [] else [d]
  let mine := own :: source s.upd.sourceDigest
  let theirs := p.digest :: source p.sourceDigest
  let h := s.upd.run.header
  let schema := p.schema.toNat
  let compatible := h.mirror = schema || (if h.mirror < schema then h.mirror ≥ p.compatMin.toNat else schema ≥ h.mirrorMin)
  if p.unitBit == (s.unitBit == 1) then 1
  else if !(mine.any fun d => theirs.contains d) then 2
  else if !compatible then 3 else 0

/-- The checks run (R386): as the unit leaves CONFIGURE and when the Stay link comes up. A failure is recorded. -/
def runPairChecks (rank : Nat) (s : State) : State :=
  match s.par.peerInfo with
  | none => { s with par.checksOk := true }
  | some p =>
    let k := pairCheck p s
    let s := { s with par.checksOk := k = 0 }
    if k = 0 then s else note rank .pairCheck [k] s

/-- STAY_LINK_UP. -/
def stayUpEffect (p : PeerInfo) (s : State) : State :=
  let s := { s with par.stayUp := true, par.peerInfo := some p }
  if s.paired then runPairChecks 3 s else s

/-! ### Stay link frames (R393) -/

/-- A frame of the Stay link: the header of 32 bytes, little-endian (R8), and the payload behind it. -/
def stayBytes (kind unit schema tick part parts digest : Nat) (payload : List Byte) : List Byte :=
  let b := le 2 0x57A7 ++ [1] ++ le 1 kind ++ le 1 unit ++ [0] ++ le 2 schema ++ le 8 tick ++ le 2 part ++ le 2 parts ++
    le 2 payload.length ++ le 2 0 ++ le 4 digest
  b ++ le 4 (crc32c (b ++ payload)) ++ payload

/-- A frame of a kind whose header, length and CRC are good. -/
def stayGood (kind : Nat) (b : List Byte) : Bool :=
  decide (32 ≤ b.length) && decide (b.length ≤ 9000) && rd b 0 2 == 0x57A7 && rd b 2 1 == 1 && rd b 3 1 == kind && rd b 5 1 == 0 &&
    rd b 20 2 == b.length - 32 && rd b 22 2 == 0 && rd b 28 4 == crc32c (b.take 28 ++ b.drop 32)

/-- Fields of the header. -/
def stayUnit (b : List Byte) : Nat := rd b 4 1
def stayTick (b : List Byte) : Nat := rd b 8 8
def stayPart (b : List Byte) : Nat := rd b 16 2
def stayParts (b : List Byte) : Nat := rd b 18 2
def stayDigest (b : List Byte) : U32 := BitVec.ofNat 32 (rd b 24 4)

/-- One frame of the unit. -/
def State.stayFrame (s : State) (kind tick part parts digest : Nat) (payload : List Byte) : List Byte :=
  stayBytes kind s.cfg.unit s.upd.run.header.mirror tick part parts digest payload

/-- The bytes that one frame carries behind its header: 9,000 less the header. -/
def stayRoom : Nat := 8968

/-- A list cut into pieces of `n`; an empty list is one empty piece. -/
def pieces {α : Type} (n : Nat) (l : List α) : List (List α) :=
  (List.range (max 1 ((l.length + n - 1) / n))).map fun i => (l.drop (i * n)).take n

/-- The tick from which a BULK item takes effect: the one it names, else the next (R393, R396). -/
def effectTick (now : Nat) : BulkItem → Nat
  | .swap _ t => t
  | .exchange b => b
  | _ => now + 1

/-- A BULK item goes out in as many parts as it takes. -/
def emitBulk (i : BulkItem) (s : State) : State :=
  let l := pieces stayRoom (Config.bulkPayload i)
  emit (.bulk (l.zipIdx.map fun x => s.stayFrame 3 (effectTick s.time.tick i) x.2 l.length 0 x.1) i) s

/-- The frames of a BULK item have come: every part of it, each good. -/
def bulkGood (frames : List (List Byte)) : Bool :=
  !frames.isEmpty && frames.zipIdx.all fun x => stayGood 3 x.1 && stayPart x.1 == x.2 && stayParts x.1 == frames.length

/-! ### Heartbeats (R393, R397) -/

def PairMode.code : PairMode → Nat
  | .unpaired => 0 | .active => 1 | .syncing => 2 | .standby => 3 | .handover => 4 | .givenUp => 5

/-- HEARTBEAT_SEND (R393). -/
def heartbeatSendEffect (s : State) : State :=
  if !s.par.stayUp || s.sys.inReset || !s.sys.supUp then s
  else
    let mode := BitVec.ofNat 8 s.sys.mode.code
    let role := BitVec.ofNat 8 s.par.role.code
    let grade := BitVec.ofNat 8 s.gradeNow
    let digest := Config.settingsDigest s.cfg
    let payload := (Config.heartbeatPayload mode role s.par.own grade digest s.par.lastMirror).take stayRoom
    emit (.heartbeat { frame := s.stayFrame 1 s.time.tick 0 1 0 payload, mode, role, claim := s.par.own, grade, digest,
                       lastMirror := s.par.lastMirror }) s

/-- The bulk copy that a peer in SYNC is sent (R397): program set and variables, recipe images, loop states. -/
def bulkCopy (s : State) : State :=
  let s := match s.prg.running with | some p => emitBulk (.program true p.bytes) s | none => s
  let s := match s.prg.staged with | some p => emitBulk (.program false p.bytes) s | none => s
  let s := emitBulk (.instanceData 0 0 s.prg.committed (s.prg.live.map fun v => (v.path, v.value)) s.prg.blocks) s
  let s := forAll (List.finRange 16) (fun i s =>
    let q := s.seq i
    let s := match q.active with | some im => emitBulk (.recipe i true im.bytes) s | none => s
    match q.pending with | some im => emitBulk (.recipe i false im.bytes) s | none => s) s
  forAll (List.finRange 1024) (fun l s =>
    let x := s.loop l
    if x.run = .off then s else emitBulk (.loopState l x.xh x.z x.ua) s) s

/-- HEARTBEAT (R393, R397): a peer that has come into SYNC starts the bulk copy; a standby whose last complete mirror is of the tick
of an item or later has applied and confirms it (R394; notes/assumptions/51); a planned handover ends DONE when the peer has
completed HANDOVER (R407). -/
def heartbeatEffect (h : HeartbeatFrame) (s : State) : State :=
  if !stayGood 1 h.frame || !s.par.stayUp then s
  else
    let starts := s.par.role = .active && h.role = 2 && s.par.peerRole != 2
    let s := { s with
      par.hbTick := some s.time.tick, par.hbLost := false, par.peerMode := h.mode.toNat, par.peerUnit := stayUnit h.frame, par.peerRole := h.role.toNat,
      par.peerGrade := h.grade.toNat, par.peerDigest := h.digest,
      par.peerInfo := s.par.peerInfo.map fun p => { p with digest := h.digest } }
    let s := if starts then bulkCopy s else s
    let s := confirmAlone (if h.role = 3 then confirmItems (fun x => x.tick ≤ h.lastMirror) s else s)
    match s.par.handoverBox with
    | some m => if h.role = 1 then completeRequest m .done [] { s with par.handoverBox := none } else s
    | none => s

/-- No valid HEARTBEAT has come in 3 consecutive ticks (R393). -/
def State.heartbeatSilent (s : State) : Bool :=
  match s.par.hbTick with
  | some t => decide (t + 3 ≤ s.time.tick)
  | none => true

/-- HEARTBEAT_LOSS (R393): no valid HEARTBEAT in 3 consecutive ticks, or the Stay link is down. -/
def heartbeatLossEffect (stayDown : Bool) (s : State) : State :=
  if !stayDown && !s.heartbeatSilent then s
  else { s with par.hbLost := true, par.stayUp := s.par.stayUp && !stayDown }

/-! ### Witnesses (R400) -/

/-- A witness supports the unit in the tick: its input frame carries the unit's own claim and obeyed_silent clear. -/
def State.supports (s : State) (n : Nat) : Bool :=
  (s.port n).seen.any fun f => f.claim == s.par.own && !f.status.getLsbD 10

/-- A witness reports the peer's frames stopped. -/
def State.reportsStopped (s : State) (n : Nat) : Bool :=
  (s.port n).seen.any fun f => f.status.getLsbD 10 || f.claim != s.par.peer

/-- A condition on the Stay link or the claim words that has stood for more than 5 ticks (R397). -/
def State.goneFor5 (s : State) (lost : Bool) (last : Option Nat) : Bool :=
  (lost || last.isNone) && s.time.tick > last.getD 0 + 5

/-- The peer's claim words and its heartbeat have both been lost for more than 5 ticks (R397). -/
def State.lostBoth (s : State) : Bool :=
  s.goneFor5 s.par.claimLost s.par.claimTick && s.goneFor5 s.par.hbLost s.par.hbTick

/-- The counts of consecutive ticks that witnesses give while both are lost (R391, R400). -/
def witnessTick (s : State) : State :=
  let ws := s.cfg.pair.witnesses
  if !s.paired || !s.lostBoth then { s with par.unsupported := 0, par.stopped := 0 }
  else
    { s with
      par.unsupported := if ws.isEmpty || ws.any s.supports then 0 else s.par.unsupported + 1,
      par.stopped := if !ws.isEmpty && ws.all s.reportsStopped then s.par.stopped + 1 else 0 }

/-! ### Transitions (R397) -/

/-- Promotion: the standby takes the active role and enters HANDOVER (R397, R398). -/
def promote (rank : Nat) (solo : Bool) (s : State) : State :=
  setEffMode rank .handover (EventKind.code .pairRole) (note rank .pairRole [4]
    (takeOverTasks { s with par.role := .handover, par.split := false, par.solo := solo, par.switches := s.par.switches + 1,
                            par.switchTick := s.time.tick }))

/-- The witnesses have reported the peer's frames stopped for promote_ticks ticks with both links lost. -/
def State.witnessPromotes (s : State) : Bool :=
  s.paired && s.effMode = .standby && s.lostBoth && !s.cfg.pair.witnesses.isEmpty && s.par.stopped ≥ s.cfg.pair.promote

/-- WITNESS_PROMOTION. -/
def witnessPromotionEffect (s : State) : State := if s.witnessPromotes then promote 3 true s else s

/-- No witness has supported the unit in 2 consecutive ticks (R391). -/
def State.unsupportedNow (s : State) : Bool :=
  s.paired && s.par.role = .active && s.lostBoth && s.par.unsupported ≥ 2

/-- WITNESS_LOSS_GIVE_UP. -/
def witnessLossEffect (s : State) : State := if s.unsupportedNow then giveUp 3 5 s else s

/-- The unit that gave up goes to SYNC, or to CONFIGURE without auto_rejoin (R397), once its claim has fallen. -/
def afterGivingUp (stop : State → State) (s : State) : State :=
  if s.par.role = .givenUp && s.par.delayed = none && s.sys.engineUp && s.loopModes then
    if s.cfg.pair.autoRejoin then toSync 3 (EventKind.code .giveUp) (stop s)
    else
      let s := stop s
      setEffMode 3 .configure (EventKind.code .giveUp) { s with par.role := .unpaired }
  else s

/-- The role changes of an active unit. -/
def activeRoles (s : State) : State :=
  let ws := s.cfg.pair.witnesses
  if s.claimValid && s.par.peer.getLsbD 4 && s.par.peer.toNat > s.par.own.toNat then giveUp 3 6 s
  else if s.unsupportedNow then giveUp 3 5 s
  else
    let s := { s with par.split := s.par.hbLost && s.claimValid }
    if s.lostBoth && !s.par.solo && (ws.isEmpty || ws.any s.supports) then
      driveStages (note 3 .pairRole [1, 1] { s with par.solo := true })
    else s

/-- The role changes of a standby. -/
def standbyRoles (s : State) : State :=
  if s.claimValid && claimGrade s.par.peer = 0 && s.par.peerIncumbentSeen then promote 3 false s
  else if s.witnessPromotes then promote 3 true s
  else if s.par.split && !s.par.hbLost then toSync 3 (EventKind.code .pairRole) s
  else if s.par.hbLost && s.claimValid && !s.par.split then note 3 .pairRole [3, 1] { s with par.split := true }
  else s

/-- Rank 3 (R42, R397). A unit that was in HANDOVER when the tick began has caught up and takes the active role
(R398). -/
def pairRoles (stop : State → State) (s : State) : State :=
  if !s.paired then s
  else match s.par.role with
    | .active => afterGivingUp stop (activeRoles s)
    | .standby => standbyRoles s
    | .handover =>
      seqMode 3 (EventKind.code .pairRole) (setEffMode 3 .idle (EventKind.code .pairRole)
        (note 3 .pairRole [1] { s with par.role := .active }))
    | .givenUp => afterGivingUp stop { s with par.delayed := none }
    | _ => s

/-! ### The mirror sent (R394) -/

def mirrorRamp (s : State) (r : Nat) : MirrorRamp :=
  let x := s.ramp r
  let b := fun (y : Bool) (n : Nat) => if y then n else 0
  { ramp := r, value := x.value, velocity := x.velocity, target := x.target,
    status := BitVec.ofNat 8 (b x.atTarget 1 + b x.limited 2 + b x.clipped 4 + b x.held 8 + b x.noted 16) }

def mirrorSequence (i : Nat) (q : Sequence) : MirrorSequence :=
  { sequence := i, state := q.run.code, safetyHold := q.safetyHold, allHold := q.allHold, cmdHold := q.cmdHold,
    pauseHold := q.pauseHold, lastEnd := q.lastEnd, fired := q.fired, cause := q.cause, step := q.step,
    elapsed := q.elapsed, terms := q.terms, recipe := q.recipe, stored := q.stored, ackSerial := q.ackSerial, ackResult := q.ackResult,
    scheduled := q.scheduled.map fun x => (x.1, x.2.1) }

def mirrorSupervision (l : Nat) (x : Loop) : MirrorSupervision :=
  { loop := l, runState := x.run.code + (if x.byCommand then 8 else 0), lost := x.lost, frozen := x.frozen,
    missing := x.missing, freeze := x.freeze, returnCount := x.returns, openElapsed := x.openFor, fbValue := x.fbValue }

def mirrorPoint (p : Nat) (e : Entry) : MirrorPoint := { point := p, value := e.value, status := e.status, subTick := e.sub }

def mirrorForce (f : Force) : MirrorForce :=
  { point := f.point, forced := f.value, underlying := f.under.value, underStatus := f.under.status,
    underSub := f.under.sub, setTick := f.setTick, mailbox := f.mailbox }

/-- The content of the tick just resolved, each item cut into parts that fit a frame by the sizes of R394. -/
def State.mirrorContent (s : State) : List MirrorContent :=
  let swaps := s.lop.loops.cells.filterMap fun x => x.2.swap.map fun w => (x.1, w.1)
  let prompts := s.wired.filter fun l => (s.wiring l).prompt
  [.changes { forces := s.pts.forces.map mirrorForce,
              owners := s.pts.inForce.cells.map fun x => (x.1, x.2.owner, x.2.format), swaps },
   .prompts (prompts.map fun l => { loop := l, xh := (s.loop l).xh, z := (s.loop l).z, ua := (s.loop l).ua }),
   .sequences (s.sqn.seqs.cells.map fun x => mirrorSequence x.1 x.2)] ++
  (pieces (stayRoom / 8) (s.pts.entries.cells.map fun x => mirrorPoint x.1 x.2)).map .points ++
  (pieces (stayRoom / 40) (s.lop.loops.cells.map fun x => mirrorSupervision x.1 x.2)).map .supervision ++
  (pieces (stayRoom / 16) (s.rampIds.map (mirrorRamp s))).map .ramps ++
  (pieces (stayRoom / 8) (s.rmp.cells.take mirrorCells)).map .repCells

/-- The end of a resolution at an active unit: what the mirror of the tick will carry. -/
def snapMirror (s : State) : State :=
  if s.paired && s.par.role = .active then { s with par.snap := s.mirrorContent, par.snapTick := s.time.tick } else s

/-- The prompt-loop states of a mirror. -/
def promptStates : MirrorContent → List MirrorPrompt
  | .prompts l => l
  | _ => []

/-- The 64 bytes of a loop in the loop-state region (R21): x̂, z and u_a. -/
def stateBytes (xh z ua : List F32) : List Byte := fours 8 xh ++ fours 4 z ++ fours 4 ua

/-- The loop-state region, with prompt loops as a mirror carries them. -/
def loopStateBytes (prompts : List MirrorPrompt) (s : State) : List Byte :=
  (List.range 1024).flatMap fun l =>
    match prompts.find? fun p => p.loop == l with
    | some p => stateBytes p.xh p.z p.ua
    | none => stateBytes (s.loop l).xh (s.loop l).z (s.loop l).ua

/-- The digest of R393. -/
def stateDigest (content : List MirrorContent) (s : State) : U32 :=
  BitVec.ofNat 32 (crc32c (loopStateBytes (content.flatMap promptStates) s))

/-- MIRROR_SEND (R394): after the release of the tick the parts go out and the mirror is complete. -/
def mirrorSendEffect (s : State) : State :=
  if !s.paired || s.par.role != .active || !s.lop.released || !s.par.stayUp || s.par.mirrored ||
      s.par.snapTick + 1 != s.time.tick then s
  else
    let digest := stateDigest s.par.snap s
    let parts := s.par.snap.zipIdx.map fun x =>
      ({ frame := s.stayFrame 2 s.par.snapTick x.2 s.par.snap.length (if x.2 = 0 then digest.toNat else 0)
           ((Config.mirrorPayload x.1).take stayRoom),
         content := x.1 } : MirrorFrame)
    forAll parts (fun f s => emit (.mirror f) s)
      { s with par.mirrored := true, par.sentParts := parts, par.lastMirror := s.par.snapTick }

/-- CONTROL_FRAME (R395): the part that its header names is sent again. -/
def controlFrameEffect (b : List Byte) (s : State) : State :=
  if !stayGood 5 b || !s.par.stayUp then s
  else match s.par.sentParts.find? fun f => stayTick f.frame == stayTick b && stayPart f.frame == stayPart b with
    | some f => emit (.mirror f) s
    | none => s

/-! ### The mirror received (R395) -/

/-- The unit takes a mirror: a pair member in SYNC, or in STANDBY without SPLIT. -/
def State.mirroring (s : State) : Bool :=
  s.paired && (s.par.role = .syncing || (s.par.role = .standby && !s.par.split))

/-- MIRROR_FRAME: the parts of the tick before the running one are kept. -/
def mirrorFrameEffect (f : MirrorFrame) (s : State) : State :=
  let b := f.frame
  if !stayGood 2 b || !s.mirroring || stayTick b + 1 != s.time.tick || stayPart b ≥ stayParts b then s
  else
    let fresh := s.par.rxTick != stayTick b || s.par.parts.isEmpty
    let parts := if fresh then [] else s.par.parts
    if parts.contains (stayPart b) then s
    else
      { s with
        par.rxTick := stayTick b, par.partCount := stayParts b, par.parts := parts ++ [stayPart b],
        par.rxDigest := if stayPart b = 0 then stayDigest b else if fresh then 0 else s.par.rxDigest,
        par.rx := (if fresh then [] else s.par.rx) ++ [f.content] }

/-- Parts of the mirror of the tick before the running one that are missing. -/
def State.missingParts (s : State) : List Nat :=
  if s.par.parts.isEmpty || s.par.rxTick + 1 != s.time.tick then [0]
  else (List.range s.par.partCount).filter fun i => !s.par.parts.contains i

/-- The mirror of the tick before the running one is complete. -/
def State.mirrorComplete (s : State) : Bool := s.missingParts.isEmpty

/-- The entry of a mirrored point. -/
def mirroredEntry (m : MirrorPoint) : Entry := ({ value := m.value, sub := m.subTick } : Entry).withStatus m.status

/-- LOAD_POINT (R395): the mirrored output values reach the stages; a part that is missing is asked for again. -/
def loadPointEffect (s : State) : State :=
  if !s.mirroring then s
  else if s.mirrorComplete then
    let outs := s.par.rx.flatMap fun c => match c with
      | .points l => l.filter fun m => 144 ≤ m.point && m.point < 272
      | _ => []
    releaseStages 75000 { s with pts.entries := forAll outs (fun m t => t.put m.point (mirroredEntry m)) s.pts.entries }
  else forAll s.missingParts (fun i s => emit (.control (s.stayFrame 5 (s.time.tick - 1) i 1 0 [])) s) s

/-- MIRROR_DEADLINE (R395): a complete mirror is kept for the boundary; an incomplete one is counted and puts a standby
into SYNC, unless the peer has given up (R398). -/
def judgeMirror (s : State) : State :=
  if !s.mirroring || s.par.judged = some s.time.tick then s
  else
    let s := { s with par.judged := some s.time.tick }
    if s.mirrorComplete then { s with par.apply := some (s.par.rxTick, s.par.rxDigest, s.par.rx) }
    else
      let gone := s.claimValid && claimGrade s.par.peer = 0 && s.par.peerIncumbentSeen
      let s := { s with par.incomplete := s.par.incomplete + 1, par.apply := none, par.syncGood := 0 }
      if s.par.role = .standby && !gone then
        toSync 3 (EventKind.code .mirrorIncomplete) (note 3 .mirrorIncomplete [s.time.tick - 1] s)
      else s

/-- Pending swaps whose tick the mirror has reached take effect (R172). -/
def standbySwaps (tick : Nat) (s : State) : State :=
  forAll s.wired (fun l s =>
    match (s.loop l).swap with
    | some (t, _) => if t ≤ tick then swapLoop l s else s
    | none => s) s

def applyChanges (c : MirrorChanges) (s : State) : State :=
  let force := fun (f : MirrorForce) =>
    ({ point := f.point, value := f.forced,
       under := ({ value := f.underlying, sub := f.underSub } : Entry).withStatus f.underStatus,
       setTick := f.setTick, mailbox := f.mailbox } : Force)
  let owners := forAll c.owners (fun x t => t.put x.1 { owner := x.2.1, format := x.2.2 }) ({} : Tab PointCfg)
  let s := { s with pts.forces := c.forces.map force, pts.inForce := owners }
  let s := { s with lop.loops := ⟨s.lop.loops.cells.map fun x => (x.1, { x.2 with swap := none })⟩ }
  forAll c.swaps (fun x s => updLoop x.1 (fun y => { y with swap := some (x.2, none) }) s) s

/-- The points of the unit's own safety mirror, which are not the peer's. -/
def islandOwn (p : Nat) : Bool := 272 ≤ p && p < 320

/-- A mirror holds the whole table: what it does not name is empty. -/
def clearPoints (s : State) : State := { s with pts.entries := ⟨s.pts.entries.cells.filter fun x => islandOwn x.1⟩ }

/-- Points other than the unit's own safety mirror take the peer's entries. -/
def applyPoints (l : List MirrorPoint) (s : State) : State :=
  { s with pts.entries :=
      forAll (l.filter fun m => !islandOwn m.point) (fun m t => t.put m.point (mirroredEntry m)) s.pts.entries }

/-- The run state of a loop follows the peer's before its update is computed: a start, an entry to fallback and a
return are seen as changes of run state. -/
def followRun (m : MirrorSupervision) (s : State) : State :=
  let run := RunState.ofCode (m.runState % 8)
  let was := (s.loop m.loop).run
  let s := if was = .off && run != .off then startLoop m.loop s else s
  let s := if was != .off && run = .off then stopLoop m.loop s else s
  updLoop m.loop (fun x =>
    { x with
      run, byCommand := m.runState ≥ 8, lost := m.lost, frozen := m.frozen, missing := m.missing, freeze := m.freeze,
      returns := m.returnCount,
      fbValue := if run != was && (run = .hold || run = .ramp) then x.ua else x.fbValue,
      openFor := if run != was then 0 else x.openFor,
      first := if was.fallback && run = .closed then .bumplessReturn else x.first }) s

/-- After the update the counts of fallback are the peer's. -/
def followCounts (m : MirrorSupervision) (s : State) : State :=
  updLoop m.loop (fun x => { x with fbValue := m.fbValue, openFor := m.openElapsed }) s

def SeqRun.ofCode : Nat → SeqRun
  | 1 => .ready | 2 => .running | 3 => .aborting | _ => .noImage

/-- A sequence as the peer holds it (R245); a pending image of the peer's recipe becomes active with it. -/
def applySequence (m : MirrorSequence) (s : State) : State :=
  updSeq m.sequence (fun q =>
    let swapIn := q.recipe != m.recipe && q.pending.any fun im => im.recipe.toNat == m.recipe
    { q with
      run := SeqRun.ofCode m.state, safetyHold := m.safetyHold, allHold := m.allHold, cmdHold := m.cmdHold,
      pauseHold := m.pauseHold, lastEnd := m.lastEnd, fired := m.fired, cause := m.cause, step := m.step,
      elapsed := m.elapsed, terms := m.terms, stored := m.stored, ackSerial := m.ackSerial, ackResult := m.ackResult,
      scheduled := m.scheduled.map fun x => (x.1, x.2, 255, 0),
      active := if swapIn then q.pending else q.active, slot := if swapIn then 1 - q.slot else q.slot, pending := if swapIn then none else q.pending }) s

def applyRamp (m : MirrorRamp) (s : State) : State :=
  updRamp m.ramp (fun x =>
    { x with value := m.value, velocity := m.velocity, target := m.target, atTarget := m.status.getLsbD 0,
             limited := m.status.getLsbD 1, clipped := m.status.getLsbD 2, held := m.status.getLsbD 3,
             noted := m.status.getLsbD 4, lastTick := x.value }) s

def applyPrompt (m : MirrorPrompt) (s : State) : State :=
  updLoop m.loop (fun x => { x with xh := m.xh, z := m.z, ua := m.ua }) s

/-- One part of the mirror is applied (R395). -/
def applyContent (c : MirrorContent) (s : State) : State :=
  match c with
  | .changes c => applyChanges c s
  | .points l => applyPoints l s
  | .supervision l => forAll l followRun s
  | .ramps l => forAll l applyRamp s
  | .prompts l => forAll l applyPrompt s
  | .sequences l => forAll l applySequence s
  | .repCells l => forAll l (fun c s => updRep c.rep (fun x => x.setCell c.slot c.index c.value) s) s

/-- The period update of a loop at a standby (R170): from the mirrored values, its output left as mirrored. -/
def standbyLoop (l : Nat) (s : State) : State :=
  let w := s.wiring l
  if !s.loopRuns l || w.prompt then s
  else
    let ins := w.inPoint.take w.ny
    (updateLoop l (ins.map s.value) (ins.map fun p => (s.entry p).usable) ((w.spSource.take w.nr).map s.setPoint) s).1

/-- The period updates of a tick at a standby. -/
def standbyLoops (s : State) : State := if s.sys.engineUp then forAll s.wired standbyLoop s else s

/-- The boundary at a standby or a unit in SYNC (R170, R395, R397): the mirror of the tick before is applied, its period
updates are computed, bulk items take effect, and the loop state is compared with the digest. -/
def standbyTick (bulk : State → State) (s : State) : State :=
  let s := judgeMirror s
  match s.par.apply with
  | none => bulk s
  | some (tick, digest, content) =>
    let s := tickPlans tick (standbySwaps tick { s with par.apply := none, par.lastMirror := tick })
    let s := standbyLoops (forAll content applyContent (clearPoints s))
    let s := forAll content (fun c s => match c with
      | .supervision l => forAll l followCounts s
      | _ => s) s
    let s : State := bulk s
    if stateDigest content s = digest then
      let s := { s with par.syncGood := s.par.syncGood + 1 }
      if s.par.role = .syncing && s.par.syncGood ≥ 16 && s.par.checksOk then
        setEffMode 3 .standby (EventKind.code .pairRole) (note 3 .pairRole [3] { s with par.role := .standby })
      else s
    else
      let s : State := { s with par.mismatches := s.par.mismatches + 1, par.syncGood := 0 }
      if s.par.role = .standby then
        toSync 3 (EventKind.code .mirrorIncomplete) (note 3 .mirrorIncomplete [tick, 1] s)
      else s

/-- BULK_ITEM (R396): kept for the next boundary; a later end of a task whose earlier end waits puts a standby into
SYNC. -/
def bulkItemEffect (frames : List (List Byte)) (i : BulkItem) (s : State) : State :=
  if !s.mirroring || !bulkGood frames then s
  else match i with
    | .instanceData c t _ _ _ =>
      let n := 8 * c.val + t.val
      if s.par.instTasks.contains n && s.par.role = .standby then toSync 3 (EventKind.code .mirrorIncomplete) s
      else { s with par.instDue := s.par.instDue ++ [i], par.instTasks := n :: s.par.instTasks }
    | _ => { s with par.instDue := s.par.instDue ++ [i] }

/-- A bulk item takes effect (R396, R397); `command` runs a command that changes configuration. -/
def applyItem (command : Op → List Byte → State → State) (i : BulkItem) (s : State) : State :=
  match i with
  | .instanceData _ _ vars retentive blocks =>
    let set := s.prg.running
    let digest := fun (p : List Byte) => match set with | some x => ((x.symbol p).map (·.1)).getD 0 | none => 0
    { s with
      prg.committed := forAll vars putVar s.prg.committed,
      prg.live := forAll retentive (fun x l => putRetained { path := x.1, digest := digest x.1, value := x.2 } l) s.prg.live,
      prg.blocks := forAll blocks (fun x l => putBlock x l) s.prg.blocks }
  | .command op payload => command op payload s
  | .swap l t => updLoop l (fun x => { x with swap := some (t, none) }) s
  | .recipe i true b => updSeq i (fun q => { q with active := some (parseImage b) }) s
  | .recipe i false b => updSeq i (fun q => { q with pending := some (parseImage b) }) s
  | .program true b => loadSet { s with cfg.program := some (parseSet b) }
  | .program false b => { s with prg.staged := some (parseSet b) }
  | .exchange _ =>
    match s.prg.running, s.prg.staged with
    | some old, some new => exchangeWith old new s
    | _, _ => s
  | .loopState l xh z ua => updLoop l (fun x => { x with xh, z, ua, first := .ordinary }) s

/-- The bulk items that have arrived take effect. -/
def applyBulk (command : Op → List Byte → State → State) (s : State) : State :=
  forAll s.par.instDue (applyItem command) { s with par.instDue := [], par.instTasks := [] }

/-- An item goes to the standby of an active unit (R394, R396). -/
def sendBulk (i : BulkItem) (s : State) : State :=
  if s.paired && s.par.role = .active && s.par.stayUp then emitBulk i s else s

/-! ### Health (R396, R402, R403) -/

/-- Frames on the Stay link since a tick, and its corrected and uncorrectable frame counts, as the PHY counts them. -/
def stayFrames (since now : Nat) : Nat := Config.unstated 60 [since, now]
def stayCorrected (now : Nat) : Nat := Config.unstated 61 [now]
def stayUncorrectable (now : Nat) : Nat := Config.unstated 62 [now]

/-- The Stay link cap over each 60 s (R388): corrected errors above 1 frame in 10⁶. -/
def judgeStay (s : State) : State :=
  let (at_, tick, count) := s.par.fecBase
  if s.sys.opNs - at_ < 60000000000 then s
  else
    let now := stayCorrected s.time.tick
    let bad := (now - count) * 1000000 > stayFrames tick s.time.tick
    { s with par.fecBase := (s.sys.opNs, s.time.tick, now), par.stayCap := if bad then some s.sys.opNs else s.par.stayCap }

/-- The unit's own report. -/
def ownReport (s : State) : HealthReport :=
  { s.par.ownReport with
    grade := BitVec.ofNat 8 s.gradeNow, caps := BitVec.ofNat 16 s.capBits,
    fecCorrected := BitVec.ofNat 64 (stayCorrected s.time.tick),
    fecUncorrectable := BitVec.ofNat 32 (stayUncorrectable s.time.tick), reportTick := s.time.tick }

/-- The standby is better by yield_margin since an operating time (R396). -/
def trackYield (s : State) : State :=
  let m := s.cfg.pair.yield
  let better := m > 0 && s.par.role = .active && s.par.peerRole = 3 && s.par.peerReport.grade.toNat ≥ s.gradeNow + m
  { s with par.yieldSince := if better then some (s.par.yieldSince.getD s.sys.opNs) else none }

/-- The island's self-test rounds must advance (R402): at a standby they are compared every 20 s, twice the time of a round. -/
def judgeRounds (s : State) : State :=
  if s.sys.opNs - s.par.rounds.1 < 20000000000 then s
  else
    let s' := { s with par.rounds := (s.sys.opNs, s.saf.rounds) }
    if s.par.rounds.1 != 0 && s.par.rounds.2 = s.saf.rounds then selfTestFails 6 0 s' else s'

/-- HEALTH_FRAME (R403). -/
def healthEffect (b : List Byte) (r : HealthReport) (s : State) : State :=
  if !s.paired || !s.par.stayUp || !stayGood 4 b then s
  else
    let s := judgeRounds (judgeStay { s with par.peerReport := r })
    let s := { s with par.ownReport := ownReport s }
    emit (.health (s.stayFrame 4 s.time.tick 0 1 0 ((Config.healthPayload s.par.ownReport).take stayRoom)) s.par.ownReport)
      (trackYield s)

/-- AUTOMATIC_YIELD (R396): the standby has been better for 10 s. -/
def yieldEffect (s : State) : State :=
  if s.paired && s.par.yieldSince.any (fun t => s.sys.opNs - t ≥ 10000000000) then giveUp 3 7 s else s

def stageKind : StageId → Nat
  | .currentLoop _ => 0 | .fastOutput _ => 1 | .digital _ => 2
def stageIndex : StageId → Nat
  | .currentLoop i => i | .fastOutput j => j | .digital d => d

/-- SELF_TEST_SWEEP (R402): one stage of a standby into its test load; a failure caps the grade for 600 s. -/
def selfTestEffect (x : StageId) (v : List F32) (s : State) : State :=
  if !s.paired || s.par.role != .standby || s.isRetired (stageResource (stageKind x) (stageIndex x)) then s
  else if testPass (stageKind x) v then { s with par.ownReport.testsPassed := s.par.ownReport.testsPassed + 1 }
  else selfTestFails (stageKind x) (stageIndex x) s

/-! ### Commands of class 0x0D (R404, R407) -/

/-- The pair status word (R404). -/
def State.pairStatus (s : State) : Nat :=
  let b := fun (x : Bool) (n : Nat) => if x then 2 ^ n else 0
  s.par.role.code * 2 ^ 28 + b s.par.split 27 + b s.par.claimLost 26 + b s.par.solo 25 + b s.par.stayUp 24 +
    s.par.own.toNat * 2 ^ 16 + s.par.peer.toNat * 2 ^ 8 + s.par.giveUp

def checkGetPairStatus (q : Issued) (_ : State) : Bad := firstBad [lenBad q 0]
def runGetPairStatus (_ : Issued) (s : State) : Reply :=
  say (le 4 s.pairStatus ++ le 1 s.gradeNow ++ le 1 s.par.peerGrade ++ le 8 s.par.lastMirror ++
    le 4 (sat32 s.par.incomplete) ++ le 4 (sat32 s.par.mismatches) ++ le 4 (sat32 s.par.switches) ++
    le 8 s.par.switchTick) s

/-- The fields of a health report (R407). -/
def reportBytes (r : HealthReport) : List Byte :=
  [r.grade] ++ le 2 r.caps.toNat ++ le 4 r.testsPassed.toNat ++ le 4 r.testsFailed.toNat ++ le 2 r.lastFailedTest.toNat ++
    le 8 r.fecCorrected.toNat ++ le 4 r.fecUncorrectable.toNat ++ le 8 r.reportTick

def checkGetHealthReport (q : Issued) (_ : State) : Bad := firstBad [lenBad q 1, (q.u8 0 > 1, .badArg)]
def runGetHealthReport (q : Issued) (s : State) : Reply :=
  say (reportBytes (if q.u8 0 = 0 then s.par.ownReport else s.par.peerReport)) s

def checkGetWitnesses (q : Issued) (_ : State) : Bad := firstBad [lenBad q 0]
def runGetWitnesses (_ : Issued) (s : State) : Reply :=
  let one := fun (n : Nat) =>
    let p := s.port n
    let silent := p.nodeStatus.getLsbD 10
    le 1 n ++ [p.obeyed] ++ leBool silent ++ leBool (p.obeyed == s.par.own && !silent)
  say (le 1 s.cfg.pair.witnesses.length ++ s.cfg.pair.witnesses.flatMap one) s

def checkSetPairConfig (q : Issued) (s : State) : Bad :=
  let ws := (q.list 2 1 8).take (q.u8 1)
  firstBad [lenBad q 13, (q.u8 0 > 1, .badArg), (q.u8 1 > 8, .badArg),
    (ws.any fun n => n ≥ 48 || (s.portCfg n).enabled == 0, .badArg), (q.u8 10 < 3, .badArg), (q.u8 11 > 1, .badArg),
    (q.u8 12 > 7, .badArg), (min s.time.periodUs s.cfg.periodUs < 80, .badArg)]
def runSetPairConfig (q : Issued) (s : State) : Reply :=
  let c : PairCfg := { paired := q.u8 0 == 1, witnesses := (q.list 2 1 8).take (q.u8 1), promote := q.u8 10,
                       autoRejoin := q.u8 11 == 1, yield := q.u8 12 }
  done { s with cfg.pair := c, cfg.any := true }

def checkGetPairConfig (q : Issued) (_ : State) : Bad := firstBad [lenBad q 0]
def runGetPairConfig (_ : Issued) (s : State) : Reply :=
  let c := s.cfg.pair
  say (leBool c.paired ++ le 1 c.witnesses.length ++ ((c.witnesses ++ List.replicate 8 0).take 8).flatMap (le 1) ++
    le 1 c.promote ++ leBool c.autoRejoin ++ le 1 c.yield) s

def checkHandover (q : Issued) (s : State) : Bad :=
  firstBad [lenBad q 0, (!s.paired || s.par.role != .active || s.par.peerRole != 3 || s.par.hbLost || s.par.split, .refusedMode)]
/-- 0x0D.20 (R407): control is given up; DONE follows when the peer has completed HANDOVER. -/
def runHandover (q : Issued) (s : State) : Reply :=
  acceptedReply (giveUp 8 4 { s with par.handoverBox := some q.mailbox })

def checkResync (q : Issued) (_ : State) : Bad := firstBad [lenBad q 0]
def runResync (_ : Issued) (s : State) : Reply := done (toSync 8 0x0D21 s)

end Sys2Proof.Machine
end

