-- ==== Sys2Proof/Machine/Faults.lean ====
section
/-! DEFINITION. Domain resets, retirement at rank 2, memory errors, NAND and thermal faults (chapter 18), and the
commands of class 0x0F. -/

namespace Sys2Proof.Machine

/-! ### Domain resets (R444, R445, R69, R70) -/

/-- The supervisor domain is reset. Its record is written after its restart (R17, R322); the third reset within 600 s is
a whole-module reset. -/
def supervisorReset (cause : Nat) (s : State) : State :=
  let s := enterReset 1 0 cause s
  let r := escalate 600 s.sys.opNs s.sys.supResets
  let s := { s with
    sys.supResets := r.1, sys.supUp := false,
    rcd.late := s.rcd.late ++ [s.record .domainReset [1, 0, cause, s.time.tick]],
    mbx.parts := [], prg.committing := none,
    sqn.seqs := ⟨s.sqn.seqs.cells.map fun x => (x.1, { x.2 with committing := none })⟩,
    fld.uplinks := ⟨s.fld.uplinks.cells.map fun x => (x.1, { x.2 with checking := false })⟩ }
  if r.2 then orderReset 7 s else s

/-- SUPERVISOR_RESTART_COMPLETE (R69, R326): every open request is answered RESTARTED, and the records of the reset
enter the queue. -/
def supervisorRestartEffect (s : State) : State :=
  if s.sys.supUp then s
  else
    let late := s.rcd.late
    let s := forAll late acceptRecord { s with sys.supUp := true, rcd.late := [] }
    forAll ((s.mbx.boxes.cells.filter fun x => x.2.isOpen).map (·.1)) (fun m s => answerRestarted m (keepWork m s))
      (emit (.monitor "amest> ") s)

/-- The commands a loop engine with sequencer serves (R70, notes/assumptions/13). -/
def engineServes (o : Op) : Bool := o.desc.issued && (o.desc.cls = 6 || o.desc.cls = 8)

/-- The domain of the loop engine with sequencer is reset (R93, R168, R192, R244, R391): its state is cleared, the
points it writes are HELD, its sequences end, an active pair member gives up, and it restarts at the first boundary
2 ms later. The third reset within 600 s is a permanent fault. -/
def engineReset (cause : Nat) (s : State) : State :=
  let s := domainReset 2 3 0 cause s
  let r := escalate 600 s.sys.opNs s.sys.engineResets
  let s := giveUp 2 1 { s with sys.engineResets := r.1 }
  let s := resetSequences (resetLoops s)
  let s := forAll (s.pointsOf 1 ++ s.pointsOf 2) holdPoint s
  let s := { s with sys.engineUp := false, sys.engineBack := s.time.tick + s.ticksOfMs 2 + 1, rmp.ramps := {} }
  let s := restartWhere engineServes s
  if r.2 then permanentFault 3 s else s

/-- RELEASE_DEADLINE_MISSED (R161, R444): what was computed for the release is not released. -/
def releaseMissedEffect (s : State) : State :=
  if s.computing && !s.lop.released && s.par.role != .givenUp && s.sys.mode != .handover then engineReset 0x0302 (withdrawRelease s)
  else s

/-- LOOP_ENGINE_RESTART (R168, R192). -/
def engineRestartEffect (s : State) : State :=
  if s.sys.engineUp || s.time.tick < s.sys.engineBack then s
  else restartLoops (restartRamps { s with sys.engineUp := true })

/-- Reset of a field port by command (R444, 0x0F.20). -/
def resetPort (n : Nat) (s : State) : State :=
  let s := domainReset 8 5 n 0x0503 s
  if n < 48 then
    restartOn portOps (ofPort n) (updPort n (Port.cut .training (some s.sys.opNs)) s)
  else if n < 52 then
    restartOn uplinkOps (ofPort (n - 48)) (updUplink (n - 48) (Uplink.cut (some s.sys.opNs)) s)
  else if n = 52 then { s with par.stayUp := false, par.hbLost := true }
  else { s with sys.serviceLink := false, sys.serviceDown := some s.sys.opNs }

/-- 0x0F.20 ends DONE once its domain serves again. -/
def servesAgain (domain index : Nat) (s : State) : State :=
  completeOn [.resetDomain] (fun p => rd p 0 1 == domain && (domain = 0 || rd p 1 1 == index)) .done [] s

/-! ### Retirement at rank 2 (R454 to R456, R491) -/

/-- A resource is listed as retired with its record; identities stay ascending. -/
def listRetired (r cause : Nat) (s : State) : State :=
  if s.isRetired r then s
  else
    note 2 .retirement [r, cause]
      { s with sys.retired := insertBy (fun a b => decide (a.resource < b.resource)) ⟨r, s.time.tick, cause⟩ s.sys.retired }

/-- A retired page of DRAM (R451): a spare takes its place, or its region shrinks, or the fault is permanent. -/
def retirePage (page : Nat) (s : State) : State :=
  let addr := 0x1000000000 + 4096 * page
  let s := { s with sys.pages := s.sys.pages ++ [(addr, s.time.tick)], par.pageCap := some s.sys.opNs }
  let s := note 2 .pageRetired [addr] s
  if s.sys.spares > 0 then { s with sys.spares := s.sys.spares - 1 }
  else if 0x1200000000 ≤ addr then { s with sys.ringLost := s.sys.ringLost + 1 }
  else if 0x1100000000 ≤ addr then { s with sys.captureLost := s.sys.captureLost + 1 }
  else permanentFault 4 { s with sys.pagesOut := true }

/-- A converter group retires: it is held in reset (R124). -/
def retireGroup (g cause : Nat) (s : State) : State :=
  if s.isRetired (resource 2 g) then s
  else
    let s := listRetired (resource 2 g) cause (retirePoints (resource 2 g) s)
    restartOn groupOps (ofGroup g) (domainReset 2 6 g 0x0602 (updGroup g (fun x => { x with mode := .retired }) s))

/-- What a whole-module reset without power loss keeps of every retirement (R456): the groups are held in reset and the points
carry RETIRED. -/
def showRetired (s : State) : State :=
  forAll s.sys.retired (fun x s =>
    let s := if resKind x.resource = 2 then updGroup (resIndex x.resource) (fun g => { g with mode := .retired }) s else s
    retirePoints x.resource s) s

/-- A resource retires (R456): it stops, its points carry RETIRED, and its record is written. -/
def retire (outcome : Nat → State → State) (r cause : Nat) (s : State) : State :=
  if s.isRetired r then s
  else
    let i := resIndex r
    match resKind r with
    | 1 => forN 3 (fun k s => retireGroup (3 * i + k) 8 s) (listRetired r cause (retirePoints r s))
    | 2 => retireGroup i cause s
    | 7 =>
      let s := updPort i (Port.cut .retired none) s
      let s := restartOn portOps (ofPort i) (domainReset 2 5 i 0x0502 s)
      listRetired r cause (retirePoints r s)
    | 9 => listRetired r cause (retirePoints r (faultTask 2 i s))
    | 10 =>
      let s := listRetired r cause s
      if cause = 1 then outcome (s.sys.ecc.getD 0 {}).lastAddress s else s
    | 11 => retirePage i (listRetired r cause s)
    | 12 =>
      let s := updUplink i (fun u => { Uplink.cut none u with inReset := true }) s
      listRetired r cause (restartOn uplinkOps (ofPort i) (domainReset 2 5 (48 + i) 0x0502 s))
    | _ => listRetired r cause (retirePoints r s)

/-- The retirements of the tick in ascending identity (R454); stages follow at once. -/
def retirements (outcome : Nat → State → State) (s : State) : State :=
  if s.sys.toRetire.isEmpty then s
  else
    let now := s.sys.toRetire.filter fun x => x.2.2 ≤ s.sys.opNs
    let due := sortBy (fun (a b : Nat × Nat × Nat) => decide (a.1 < b.1)) now
    showForced (driveStages (forAll due (fun x s => retire outcome x.1 x.2.1 s)
      { s with sys.toRetire := s.sys.toRetire.filter fun x => s.sys.opNs < x.2.2 }))

/-! ### Memory (R21, R449 to R452) -/

/-- The SRAM regions in the row order of R21: 0 supervisor, 1 program cores, 2 and 3 coefficient banks, 4 loop state,
5 point table, 6 ramp state, 7 sequencer state, 8 Stay mirror, 9 acquisition staging, 10 repetitive controllers,
11 fabric buffers, 12 event pending queue. -/
def sramRegions : List (Nat × Nat) :=
  [(0x0, 0x3FFFFF), (0x400000, 0xBFFFFF), (0x1000000, 0x10CFFFF), (0x1100000, 0x11CFFFF), (0x1200000, 0x120FFFF),
   (0x1210000, 0x121FFFF), (0x1220000, 0x1227FFF), (0x1230000, 0x123FFFF), (0x1240000, 0x128FFFF),
   (0x1300000, 0x137FFFF), (0x1400000, 0x17FFFFF), (0x1800000, 0x19FFFFF), (0x1A00000, 0x1A03FFF)]

/-- The MRAM regions: 0 retentive live, 1 retentive shadow, 2 counters, 3 recorder state, 4 update journal, 5 reserve. -/
def mramRegions : List (Nat × Nat) :=
  [(0x8000000, 0x805FFFF), (0x8060000, 0x80BFFFF), (0x80C0000, 0x80C3FFF), (0x80C4000, 0x80C7FFF), (0x80C8000, 0x80CBFFF),
   (0x80CC000, 0x80FFFFF)]

/-- The DRAM regions: 0 firmware working, 1 program memory, 2 recipe images, 3 spare pages, 4 fabric and general,
5 segmented capture, 6 Stockpot ring. -/
def dramRegions : List (Nat × Nat) :=
  [(0x1000000000, 0x103FFFFFFF), (0x1040000000, 0x107FFFFFFF), (0x1080000000, 0x109FFFFFFF),
   (0x10A0000000, 0x10BFFFFFFF), (0x10C0000000, 0x10FFFFFFFF), (0x1100000000, 0x11FFFFFFFF), (0x1200000000, 0x17FFFFFFFF)]

/-- The row of a region table that holds an address, with the offset in it. -/
def regionOf (t : List (Nat × Nat)) (a : Nat) : Option (Nat × Nat) :=
  (t.zipIdx.find? fun x => x.1.1 ≤ a && a ≤ x.1.2).map fun x => (x.2, a - x.1.1)

def countEcc (memory addr : Nat) (corrected : Bool) (s : State) : State :=
  { s with sys.ecc := s.sys.ecc.upd memory {} fun e =>
      { corrected := e.corrected + (if corrected then 1 else 0),
        uncorrectable := e.uncorrectable + (if corrected then 0 else 1), lastAddress := addr } }

/-- A coefficient bank with an uncorrectable error: the active one retires its loop, the other is discarded. -/
def bankError (bank off : Nat) (s : State) : State :=
  let l := off / 832
  if (s.loopCfg l).active = bank then retireDue (loopResource l) 2 s
  else updLoopCfg l (fun c => c.setBank bank { c.bank bank with ok := false }) s

/-- A cell of a repetitive memory with an uncorrectable error is set to 0 and learning of its slot is cleared (R197). -/
def cellError (off : Nat) (s : State) : State :=
  let c := off / 32768
  let slot := off / 16384 % 2
  freezeLearning c slot 5 (updRep c (fun x => x.setCell slot (off / 4 % 4096) 0) s)

/-- A Stay mirror buffer with an uncorrectable error: the mirror of the tick is incomplete, on either side. -/
def mirrorError (s : State) : State := { s with par.parts := [], par.rx := [], par.snap := [] }

/-- An entry of the pending queue is lost and counted (R325), and takes no seq (R320); which one lies at an address is the firmware's. -/
def queueError (addr : Nat) (s : State) : State :=
  let i := Config.unstated 70 [addr, s.rcd.queue.length] % max 1 s.rcd.queue.length
  match s.rcd.queue[i]? with
  | none => s
  | some r =>
    { s with rcd.queue := s.rcd.queue.take i ++ (s.rcd.queue.drop (i + 1)).map (fun x => { x with seq := x.seq - 1 }),
             rcd.seq := s.rcd.seq - 1,
             rcd.lostFirst := (if s.rcd.lostCount = 0 then r.tick else s.rcd.lostFirst), rcd.lostLast := r.tick,
             rcd.lostCount := s.rcd.lostCount + 1, rcd.lostTotal := s.rcd.lostTotal + 1 }

/-- A fabric buffer with an uncorrectable error: its frame is dropped, a transient event of the port among the 56 of R13 that
it belongs to, 48 field ports, U0 to U3 and four without a counter (R454); which one is the firmware's. -/
def fabricError (addr : Nat) (s : State) : State :=
  let p := Config.unstated 65 [addr] % 56
  if p < 48 then countFault (resource 7 p) s
  else if p < 52 then countFault (uplinkResource (p - 48)) (updUplink (p - 48) (fun u => { u with drops := u.drops + 1 }) s)
  else s

/-- The outcome of an uncorrectable error in main-die SRAM (R452). -/
def sramOutcome (addr : Nat) (s : State) : State :=
  match regionOf sramRegions addr with
  | none => s
  | some (row, off) =>
    match row with
    | 0 => supervisorReset 0x0103 s
    | 1 => resetCoreDomain 2 (off / 0x200000) 0x0203 s
    | 2 => bankError 0 off s
    | 3 => bankError 1 off s
    | 5 => updPoint (off / 8) (fun e => { e with valid := false }) s
    | 8 => mirrorError s
    | 9 => acqReset 2 0x0401 s
    | 10 => cellError off s
    | 11 => fabricError addr s
    | 12 => queueError addr s
    | _ => engineReset 0x0301 s

/-- A retentive variable whose live block is lost: the shadow block of the same end replaces it, otherwise it takes its
initial value (R262, R452). Which variables a block holds is the firmware's. -/
def retentiveError (addr : Nat) (s : State) : State :=
  let lost := fun (v : Retained) => Config.unstated 66 (addr :: v.path.map BitVec.toNat) % 2 = 1
  let blocks := s.prg.shadow.filter fun b => b.seq = s.prg.liveSeq.getD b.task 0
  let shadow := fun (v : Retained) => (blocks.flatMap (·.words)).find? fun x => x.path == v.path
  let initial := fun (v : Retained) =>
    match s.prg.running with
    | some p => { v with value := Config.initialValue p.bytes v.path }
    | none => v
  let gone := (s.prg.live.filter fun v => lost v && (shadow v).isNone).length
  let s := { s with prg.live := s.prg.live.map fun v => if lost v then (shadow v).getD (initial v) else v }
  if gone = 0 then s else note 2 .retentiveUnmatched [gone] s

/-- The word of a capture with an uncorrectable error: all its status bits read 3 (R311). -/
def captureError (off : Nat) (s : State) : State :=
  updSegment (off / 0x400000) (fun g =>
    { g with captures := listUpd (off % 0x400000 / 64) (listUpd 15 fun _ => 0x3FFFFFFF) g.captures }) s

/-- A frame of the ring with an uncorrectable error becomes a replaced frame with a GAP record, reason 1 (R300). -/
def ringError (addr : Nat) (s : State) : State :=
  let i := Config.unstated 68 [addr, s.acq.ring.length] % max 1 s.acq.ring.length
  { s with acq.ring := listUpd i (fun f =>
      { f with flags := 16, records := [.gap f.first f.seq f.seq f.first f.lastTick 1] }) s.acq.ring }

/-- The outcome of an uncorrectable error in DRAM (R452); which task an address of the program memory belongs to is the
firmware's. -/
def dramOutcome (addr : Nat) (s : State) : State :=
  match regionOf dramRegions addr with
  | none => s
  | some (row, off) =>
    match row with
    | 0 => supervisorReset 0x0103 s
    | 1 =>
      let i := Config.unstated 67 [addr]
      if (s.taskRec i).isSome then faultTask 2 i s else s
    | 2 =>
      let q := off / 0x2000000
      let hit := off / 0x1000000 % 2 = (s.seq q).slot && (s.seq q).active.any fun im => off % 0x1000000 < im.bytes.length
      if (s.seq q).running && hit then endSequence 2 q 2 s else s
    | 5 => captureError off s
    | 6 => ringError addr s
    | _ => s

/-- MEMORY_CORRECTED_ERROR (R450, R451). -/
def correctedEffect (addr : Nat) (s : State) : State :=
  match regionOf sramRegions addr, regionOf dramRegions addr, regionOf mramRegions addr with
  | some (row, _), _, _ => countFault (resource 10 row) (note 2 .eccCorrected [addr] (countEcc 0 addr true s))
  | _, some _, _ =>
    let page := (addr - 0x1000000000) / 4096
    let last := s.sys.pageStamps.find page
    let s := countFault (resource 11 page) (note 2 .eccCorrected [addr] (countEcc 1 addr true s))
    let s := { s with sys.pageStamps := s.sys.pageStamps.put page s.sys.opNs }
    if last.any fun t => s.sys.opNs - t ≤ 86400000000000 then retireDue (resource 11 page) 3 s else s
  | _, _, some _ => note 2 .eccCorrected [addr] (countEcc 2 addr true s)
  | _, _, _ => s

/-- The loader's own SRAM lies in no region of R21 and the spare map in MRAM, where R21 leaves the counters' region for it
(R451); at which addresses the manual does not say (R457, cause 0x06). -/
def loaderError (addr : Nat) (s : State) : State := if Config.unstated 69 [addr] = 1 then permanentFault 6 s else s

/-- MEMORY_UNCORRECTABLE_ERROR (R451, R452, R455). -/
def uncorrectableEffect (addr : Nat) (s : State) : State :=
  let s := selfTestFails 3 0 s
  match regionOf sramRegions addr, regionOf dramRegions addr, regionOf mramRegions addr with
  | some (row, _), _, _ =>
    sramOutcome addr (retireDue (resource 10 row) 2 (note 2 .eccUncorrectable [addr] (countEcc 0 addr false s)))
  | _, some _, _ =>
    let page := (addr - 0x1000000000) / 4096
    dramOutcome addr (retireDue (resource 11 page) 2 (note 2 .eccUncorrectable [addr] (countEcc 1 addr false s)))
  | _, _, some (row, _) =>
    let s := note 2 .eccUncorrectable [addr] (countEcc 2 addr false s)
    if row = 0 then retentiveError addr s else if row = 2 then loaderError addr s else s
  | _, _, _ => loaderError addr s

/-! ### NAND and temperature (R25, R453, R457) -/

def NandArea.code : NandArea → Nat
  | .slc => 0 | .spill => 1

/-- NAND_BLOCK_FAULT (R453). -/
def nandEffect (f : NandFault) (s : State) : State :=
  let a := NandArea.code f.area
  let s := { s with sys.blocksRetired := s.sys.blocksRetired.upd a 0 fun n => if f.refresh then n else n + 1 }
  let s := note 9 .nandBlock [a, if f.refresh then 1 else 0] s
  if !f.exhausted then s
  else match f.area with
    | .slc => permanentFault 5 { s with sys.slcReadOnly := true }
    | .spill => stopSpill 3 { s with acq.spillDead := true }

/-- The adaptive supply margin of the current-loop stages: 2 V, and 1.5 V with a hot lid (R25, R210). -/
def marginOf (hot : Bool) : F32 := if hot then 0x3FC00000 else 0x40000000

/-- THERMAL_LIMIT (R25): above 70 °C spilling stops with a record and the supply margin falls. -/
def thermalEffect (lidCenti : Int) (s : State) : State :=
  let hot := decide (lidCenti > 7000)
  let s := { s with sys.lidCenti := lidCenti }
  if s.sys.hot = hot then s
  else
    let s := { s with sys.hot := hot, stg.margin := marginOf hot }
    let s := note 9 .thermal [lidCenti.toNat, if hot then 1 else 0] s
    if hot then stopSpill 5 s else s

/-! ### Commands of class 0x0F (R460) -/

/-- The stamps of an escalation row that stand within its window (R445). -/
def State.escalationCount (s : State) (limitS : Nat) (stamps : List Nat) : Nat :=
  (stamps.filter fun t => s.sys.opNs - t ≤ limitS * 1000000000).length

/-- The count of the row of the program cores: of the one core that has any; the manual does not say how the counts of
several are joined. -/
def State.coreEscalation (s : State) : Nat :=
  let l := (List.range 4).map fun c => s.escalationCount 600 (s.sys.coreResets.getD c [])
  if (l.filter (· > 0)).length ≤ 1 then l.sum else Config.unstated 72 l % 256

def checkGetHealth (q : Issued) (_ : State) : Bad := firstBad [lenBad q 0]
def runGetHealth (_ : Issued) (s : State) : Reply :=
  let x := s.sys.sensors
  say (leF x.vin ++ leF x.vsafe ++ leF x.lid ++ leF x.die ++ leF x.power ++ le 2 s.sys.retired.length ++
    le 1 s.sys.haltCause ++ [0] ++ le 1 (s.escalationCount 600 s.sys.supResets) ++ le 1 s.coreEscalation ++
    le 1 (s.escalationCount 600 s.sys.engineResets) ++ le 1 (s.escalationCount 3600 s.sys.moduleResets)) s

def checkGetResetHistory (q : Issued) (_ : State) : Bad := firstBad [lenBad q 0]
def runGetResetHistory (_ : Issued) (s : State) : Reply :=
  say (le 1 s.sys.history.length ++ s.sys.history.flatMap fun e =>
    le 1 e.domain ++ le 1 e.index ++ le 2 e.cause ++ le 8 e.tick ++ le 4 e.start) s

def checkListRetired (q : Issued) (_ : State) : Bad := firstBad [lenBad q 2]
def runListRetired (q : Issued) (s : State) : Reply :=
  let l := (s.sys.retired.drop (q.u16 0)).take 200
  say (le 2 l.length ++ l.flatMap fun x => le 4 x.resource ++ le 8 x.tick ++ le 2 x.cause ++ [0, 0]) s

/-- A resource identity that names none (R454). -/
def unknownResource (r : Nat) : Bool := resIndex r ≥ kindCount (resKind r)

def checkGetFaultCounter (q : Issued) (_ : State) : Bad := firstBad [lenBad q 4, (unknownResource (q.u32 0), .badArg)]
def runGetFaultCounter (q : Issued) (s : State) : Reply :=
  let r := q.u32 0
  let t := s.threshold r
  say (le 1 t.1 ++ le 2 t.2 ++ le 1 (s.inWindow r) ++ le 4 (s.sys.counters.getD r {}).total ++ leBool (s.isRetired r)) s

def checkGetEccStatus (q : Issued) (_ : State) : Bad := firstBad [lenBad q 1, (q.u8 0 > 2, .badArg)]
/-- The duration and end of the last full pass of the scrub (R449) are measured, free values. -/
def runGetEccStatus (q : Issued) (s : State) : Reply :=
  let m := q.u8 0
  let e := s.sys.ecc.getD m {}
  say (le 8 e.corrected ++ le 4 e.uncorrectable ++ le 8 e.lastAddress ++ le 4 (Config.unstated 73 [m, s.time.tick]) ++
    le 8 (Config.unstated 74 [m, s.time.tick]) ++ le 4 s.sys.pages.length ++ le 4 s.sys.spares) s

def checkListRetiredPages (q : Issued) (_ : State) : Bad := firstBad [lenBad q 4]
def runListRetiredPages (q : Issued) (s : State) : Reply :=
  let l := (s.sys.pages.drop (q.u32 0)).take 250
  say (le 2 l.length ++ l.flatMap fun x => le 8 x.1 ++ le 8 x.2) s

/-- Whether the index of a 0x0F.20 lies outside its domain. -/
def domainBad (domain index : Nat) : Bool :=
  match domain with
  | 0 => index != 0
  | 1 => index > 53
  | 2 => index ≥ 12
  | _ => true

/-- The retired resource that a 0x0F.20 would reset. -/
def State.domainRetired (s : State) (domain index : Nat) : Bool :=
  match domain with
  | 1 => (index < 48 && s.isRetired (resource 7 index)) || (48 ≤ index && index < 52 && s.isRetired (resource 12 (index - 48)))
  | 2 => s.isRetired (resource 2 index)
  | _ => false

def checkResetDomain (q : Issued) (s : State) : Bad :=
  firstBad [lenBad q 2, (domainBad (q.u8 0) (q.u8 1), .badArg), (s.domainRetired (q.u8 0) (q.u8 1), .retired),
    (q.u8 0 = 0 && !s.sys.acqUp, .busy)]
def runResetDomain (q : Issued) (s : State) : Reply :=
  match q.u8 0 with
  | 0 => acceptedReply { acqReset 8 0x0403 s with acq.resetBox := some q.mailbox }
  | 1 => acceptedReply (resetPort (q.u8 1) s)
  | _ => acceptedReply (restartGroup 2 (q.u8 1) (restartOn groupOps (ofGroup (q.u8 1)) (domainReset 8 6 (q.u8 1) 0x0603 s)))

def checkClearFaultCounter (q : Issued) (s : State) : Bad :=
  firstBad [lenBad q 4, (unknownResource (q.u32 0), .badArg), (s.isRetired (q.u32 0), .badArg)]
def runClearFaultCounter (q : Issued) (s : State) : Reply :=
  done { s with sys.counters := s.sys.counters.upd (q.u32 0) {} fun c => { c with stamps := [] } }

/-- The code of the screening fuses (R446): the manual does not give it. -/
def State.screenCode (s : State) : Nat := Config.unstated 71 [if s.sys.fuses.screenAX then 1 else 0]

/-- The debug lock as read: any 2 of its 4 fuses (R446). -/
def State.debugLocked (s : State) : Bool := s.sys.fuses.debugLock ≥ 2

def checkGetFuses (q : Issued) (_ : State) : Bad := firstBad [lenBad q 0]
def runGetFuses (_ : Issued) (s : State) : Reply :=
  let key := if !s.sys.fuses.keySet then 0 else if s.keyGood then 1 else 2
  say (le 48 s.sys.fuses.bootKeyHash.toNat ++ le 1 s.screenCode ++ le 4 s.sys.fuses.safetyIdentity.toNat ++
    le 1 s.sys.fuses.rollbackModule ++ le 1 s.sys.fuses.rollbackIsland ++ le 1 key ++ leBool s.debugLocked) s

/-- The eight straps in the bit order of 0x0F.31. -/
def Straps.list (x : Straps) : List StrapLevel :=
  x.unitB :: ((List.range 6).map fun b => x.almsel.getD b .openLand) ++ [x.compatN]

def checkGetStraps (q : Issued) (_ : State) : Bad := firstBad [lenBad q 0]
def runGetStraps (_ : Issued) (s : State) : Reply :=
  let x := s.sys.straps
  let bits := fun (l : List StrapLevel) (v : StrapLevel) => bitsFrom l.length fun i => decide (l[i]? = some v)
  let almsel := (List.range 6).map fun b => x.almsel.getD b .openLand
  say (leBool (x.unitB = .tied) ++ le 1 (bits almsel .tied) ++ leBool (x.compatN = .tied) ++
    le 1 (bits (Straps.list x) .neither)) s

def checkSetCommissioningKey (q : Issued) (s : State) : Bad :=
  firstBad [lenBad q 36, (s.sys.fuses.keySet, .badArg), (crc32c (q.bytes 0 32) != q.u32 32, .badArg)]
/-- 0x0F.40 (R447): the key record is written and the fuses are blown. -/
def runSetCommissioningKey (q : Issued) (s : State) : Reply :=
  let key := q.bytes 0 32
  done (note 8 .keySet []
    { s with sys.keyRecord := some (key, BitVec.ofNat 32 (crc32c key)), sys.fuses.keySet := true,
             sys.fuses.keyHash := BitVec.ofNat 256 (unle (sha256 key)) })

def checkSetDebugLock (q : Issued) (_ : State) : Bad := firstBad [lenBad q 4, (q.u32 0 != 0xDEB610CC, .badArg)]
def runSetDebugLock (_ : Issued) (s : State) : Reply := done { s with sys.fuses.debugLock := 4 }

end Sys2Proof.Machine
end

