-- ==== Sys2Proof/Machine/Shroud.lean ====
section
/-! DEFINITION. Shroud (chapter 15): the frame, receiving on a connection with its watchdog and paths, sending, the
uplink datagram, and GET_SHROUD_CONNECTION. -/

namespace Sys2Proof.Machine

/-! ### The frame (R367, R368) -/

def shroudBytes (identity seq window flags : Nat) (data : List Byte) : List Byte :=
  let b := le 4 identity ++ le 2 seq ++ le 2 window ++ le 1 data.length ++ le 1 flags ++ le 2 0 ++ data
  b ++ le 4 (crc32c b)

/-- What the logic sees of a connection: its data, or zeros in every state but VALID (R374). -/
def State.connByte (s : State) (c i : Nat) : Byte :=
  if (s.conn c).mode = .valid then (s.conn c).data.getD i 0 else 0

/-- The window of a connection in ns. -/
def ConnCfg.windowNs (k : ConnCfg) : Nat := k.window * 1000000

/-! ### Receiving (R371 to R374, R379, R380) -/

/-- A connection goes LOST (R374): a fault, or a record alone where it is optional. -/
def loseConn (k : ConnCfg) (s : State) : State :=
  let s := updConn k.number (fun x => { x with mode := .lost, lockFlag := false, stands := !k.opt }) s
  let s := note 1 .shroudState [k.number, 2] s
  if k.opt then s else safetyFault 8 s

/-- The watchdog of a connection as judged at an instant of island time (R373). -/
def judgeWatchdog (now : Nat) (k : ConnCfg) (s : State) : State :=
  let x := s.conn k.number
  if x.mode = .valid && x.deadline ≤ now then loseConn k s else s

/-- A frame error (R371): counted, and more than 8 within 1 s lose the connection (R374). -/
def frameError (k : ConnCfg) (now : Nat) (count : Conn → Conn) (s : State) : State :=
  let s := updConn k.number (fun x =>
    let x := count x
    { x with errors := now :: x.errors.filter fun t => now - t ≤ windowNs }) s
  let x := s.conn k.number
  if x.mode = .valid && x.errors.length > 8 then loseConn k s else s

/-- Copies on a path count for its liveness (R380): a missing path is restored, with a record. -/
def livePath (k : ConnCfg) (path now : Nat) (s : State) : State :=
  if !k.dual then s
  else
    let x := s.conn k.number
    let missing := if path = 0 then x.miss0 else x.miss1
    let s := if missing then note 1 .shroudState [k.number, 0x10 + path] s else s
    updConn k.number (fun x =>
      if path = 0 then { x with path0 := now, miss0 := false, pathFault0 := false }
      else { x with path1 := now, miss1 := false, pathFault1 := false }) s

/-- A frame is accepted (R372 to R374, R379). -/
def acceptFrame (k : ConnCfg) (seq now path : Nat) (bytes : List Byte) (s : State) : State :=
  let was := (s.conn k.number).mode
  let data := (bytes.drop 12).take (rd bytes 8 1)
  let s := updConn k.number (fun x =>
    let x := { x with mode := .valid, last := seq, deadline := now + k.windowNs, data, prevData := x.data,
                      lockFlag := (rd bytes 9 1).testBit 0, kept := ((seq, bytes) :: x.kept).take 16,
                      accepted := x.accepted + 1, stands := false }
    if was = .notEstablished then { x with prevData := [], path0 := now, path1 := now } else x) s
  let s := if was = .lost && k.opt then note 1 .shroudState [k.number, 1] s else s
  livePath k path now s

/-- A copy of a seq accepted before, on a DUAL connection (R379): the path's confirmation, or where it differs a record and
a fault. -/
def compareCopy (k : ConnCfg) (now path : Nat) (kept bytes : List Byte) (s : State) : State :=
  if kept = bytes then livePath k path now s
  else
    let s := updConn k.number (fun x => { x with mismatches := x.mismatches + 1, differs := true }) s
    safetyFault 8 (note 1 .shroudWarn [k.number, 0x20 + path] s)

/-- A frame that has passed checks 1 to 4 of R371, by its distance from the last one (R372, R379). -/
def takeSeq (k : ConnCfg) (seq now path : Nat) (bytes : List Byte) (s : State) : State :=
  let x := s.conn k.number
  let d := (seq + 65536 - x.last) % 65536
  match x.mode with
  | .notEstablished => acceptFrame k seq now path bytes s
  | .valid =>
    if 1 ≤ d && d ≤ 64 then acceptFrame k seq now path bytes s
    else if k.dual then
      match x.kept.find? fun y => y.1 == seq with
      | some y => compareCopy k now path y.2 bytes s
      | none =>
        if d ≥ 32768 then updConn k.number (fun x => { x with duplicates := x.duplicates + 1 }) s
        else frameError k now (fun x => { x with seqErrors := x.seqErrors + 1 }) s
    else if d = 0 then updConn k.number (fun x => { x with duplicates := x.duplicates + 1 }) s
    else frameError k now (fun x => { x with seqErrors := x.seqErrors + 1 }) s
  | .lost =>
    if d = 0 then s
    else if d ≤ 64 then acceptFrame k seq now path bytes s
    else updConn k.number (fun x => { x with last := seq }) s

/-- The checks of R371 in their order, on a frame that reached the island at `now`. -/
def receiveFrame (k : ConnCfg) (now path : Nat) (b : List Byte) (s : State) : State :=
  let s := if (s.conn k.number).deadline < now then judgeWatchdog now k s else s
  let n := rd b 8 1
  if b.length != 16 + n || n != k.length || rd b 10 2 != 0 || rd b 9 1 > 1 then frameError k now id s
  else if crc32c (b.take (12 + n)) != rd b (12 + n) 4 then frameError k now (fun x => { x with crcErrors := x.crcErrors + 1 }) s
  else if rd b 0 4 != k.identity.toNat then frameError k now (fun x => { x with idErrors := x.idErrors + 1 }) s
  else if rd b 6 2 != k.window then frameError k now (fun x => { x with windowErrors := x.windowErrors + 1 }) s
  else takeSeq k (rd b 4 2) now path b s

/-- SHROUD_FRAME (R371): a frame on a connection. -/
def shroudFrameEffect (c : Nat) (a : ShroudArrival) (s : State) : State :=
  match s.connCfg c with
  | some k => if k.input then receiveFrame k a.stampNs a.path a.bytes s else s
  | none => s

/-- SHROUD_WATCHDOG_EXPIRY (R373, R374), judged at the sample that stands. -/
def watchdogExpiryEffect (c : Nat) (s : State) : State :=
  match s.connCfg c with
  | some k => if k.input then judgeWatchdog s.islandNs k s else s
  | none => s

/-- A path of an established DUAL connection has delivered nothing for more than `n` windows. -/
def State.pathSilent (s : State) (k : ConnCfg) (path n : Nat) : Bool :=
  let x := s.conn k.number
  k.dual && k.input && x.mode != .notEstablished &&
    s.islandNs - (if path = 0 then x.path0 else x.path1) > n * k.windowNs

/-- PATH_MISSING (R380): a warning. -/
def pathMissingEffect (c path : Nat) (s : State) : State :=
  match s.connCfg c with
  | some k =>
    let x := s.conn c
    if s.pathSilent k path 1 && !(if path = 0 then x.miss0 else x.miss1) then
      note 1 .shroudWarn [c, path] (updConn c (fun x =>
        let x := { x with missing := x.missing + 1 }
        if path = 0 then { x with miss0 := true } else { x with miss1 := true }) s)
    else s
  | none => s

/-- A path of a connection has become missing for more than 3 windows, and is not yet known to be (R380). -/
def State.pathLost (s : State) (k : ConnCfg) (path : Nat) : Bool :=
  s.pathSilent k path 3 && !(if path = 0 then (s.conn k.number).pathFault0 else (s.conn k.number).pathFault1)

def markPath (c path : Nat) (s : State) : State :=
  updConn c (fun x => if path = 0 then { x with pathFault0 := true } else { x with pathFault1 := true }) s

/-- PATH_MISSING_FAULT (R380): a fault, even on an optional connection. -/
def pathFaultEffect (c path : Nat) (s : State) : State :=
  match s.connCfg c with
  | some k => if s.pathLost k path then safetyFault 8 (markPath c path s) else s
  | none => s

/-- The networks of one connection at a sample: paths missing too long are a fault (R380), unless a copy that differed since the last
sample has been one for the connection already (R382). -/
def judgePaths (k : ConnCfg) (s : State) : State :=
  let s := forN 2 (fun p s => pathMissingEffect k.number p s) s
  let lost := (List.range 2).filter (s.pathLost k ·)
  let bad := !lost.isEmpty && !(s.conn k.number).differs
  let s := forAll lost (markPath k.number ·) (updConn k.number (fun x => { x with differs := false }) s)
  if bad then safetyFault 8 s else s

/-- What a sample finds on the connections: expired watchdogs and missing paths (R373, R380). -/
def sampleConns (s : State) : State :=
  match s.safetyCfg with
  | none => s
  | some k =>
    forAll (k.conns.filter (·.input)) (fun c s => judgePaths c (watchdogExpiryEffect c.number s)) s

/-! ### The uplink datagram (R377) -/

/-- The frames of a datagram, cut by their length fields; a cut that runs past the end stands as it is. -/
def cutFrames : Nat → List Byte → List (List Byte)
  | 0, _ => []
  | n + 1, b => if b.isEmpty then [] else b.take (16 + rd b 8 1) :: cutFrames n (b.drop (16 + rd b 8 1))

/-- The frames of an uplink datagram (R377): each goes to the connection of its identity from the sending unit. A frame of
none is judged on the unit's first connection, where it is a frame error. -/
def takeShroud (path : Nat) (src : U32) (b : List Byte) (stamp : Nat) (s : State) : State :=
  match s.safetyCfg with
  | none => { s with shr.drops := s.shr.drops + 1 }
  | some cfg =>
    let unit := rd b 3 1
    let from' := cfg.conns.filter fun k => k.input && k.field.isNone && k.unit == unit && (path = 0 || k.dual) &&
      (if path = 0 then k.addr0 else k.addr1) == src
    let n := rd b 5 1
    if rd b 0 2 != 0x5AF0 || rd b 2 1 != 1 || rd b 4 1 != path || n < 1 || n > 64 || rd b 6 2 != 0 || from'.isEmpty then
      { s with shr.drops := s.shr.drops + 1 }
    else
      forAll (cutFrames n (b.drop 8)) (fun f s =>
        match (from'.find? fun k => k.identity.toNat == rd f 0 4).or from'.head? with
        | some k => receiveFrame k stamp path f s
        | none => s) s

/-- SHROUD_DATAGRAM: taken on an uplink that is not retired (R142, R144), and counted there (R145). -/
def shroudDatagramEffect (path : Nat) (src : U32) (b : List Byte) (stamp : Nat) (s : State) : State :=
  if s.uplinkUp path then
    takeShroud path src b stamp (heardOn path 1 s)
  else s

/-! ### Sending (R352, R368, R375, R376) -/

/-- The command byte to a drive (R352): sto, stop_request, SLS index. -/
def driveCommand (s : State) (x : Nat) : Nat :=
  let a := s.axis x
  (if a.sto then 1 else 0) + (if a.ss1.isSome then 2 else 0) + 4 * (a.slsIndex % 4)

/-- The data of an OUT connection: the command of the axis it drives, or the bits the logic gives (R349, R352, R375). -/
def connData (cfg : SafetyCfg) (k : ConnCfg) (s : State) : List Byte :=
  match cfg.axes.findIdx? fun a => a.drive == k.number with
  | some x => (le 1 (driveCommand s x) ++ List.replicate k.length 0).take k.length
  | none =>
    (List.range k.length).map fun i =>
      BitVec.ofNat 8 (bitsFrom 8 fun b => k.outputs.any fun o => o.1 == i && o.2.1 == b && s.element o.2.2)

/-- The next frame of an OUT connection, and the seq moves on. -/
def nextFrame (cfg : SafetyCfg) (k : ConnCfg) (s : State) : List Byte × State :=
  let flags := if s.inLockout then 1 else 0
  let b := shroudBytes k.identity.toNat (s.conn k.number).outSeq k.window flags (connData cfg k s)
  (b, updConn k.number (fun x => { x with outSeq := (x.outSeq + 1) % 65536 }) s)

/-- The Shroud block of a field port's output frame (R376). -/
def fieldShroud (n : Nat) (s : State) : List Byte × State :=
  match s.safetyCfg with
  | none => ([], s)
  | some cfg =>
    match cfg.conns.find? fun k => !k.input && k.field == some n with
    | some k => nextFrame cfg k s
    | none => ([], s)

/-- The datagram that carries some frames. -/
def shroudDatagram (unit path : Nat) (frames : List (List Byte)) : List Byte :=
  le 2 0x5AF0 ++ [1] ++ le 1 unit ++ le 1 path ++ le 1 frames.length ++ le 2 0 ++ frames.flatten

/-- SHROUD_UPLINK_SEND (R377, R379): one datagram to each peer unit on each uplink concerned, the same frames on both. -/
def shroudUplinkEffect (s : State) : State :=
  match s.safetyCfg with
  | none => s
  | some cfg =>
    let outs := cfg.conns.filter fun k => !k.input && k.field.isNone
    let units := (outs.map (·.unit)).eraseDups
    forAll units (fun u s =>
      let mine := outs.filter fun k => k.unit == u
      let r := forAll mine (fun k (acc : List (ConnCfg × List Byte) × State) =>
        let f := nextFrame cfg k acc.2
        (acc.1 ++ [(k, f.1)], f.2)) ([], s)
      forN 2 (fun p s =>
        let l := r.1.filter fun x => p = 0 || x.1.dual
        match l with
        | [] => s
        | x :: _ =>
          if s.uplinkUp p then
            emit (.shroudDatagram p (if p = 0 then x.1.addr0 else x.1.addr1)
              (shroudDatagram s.cfg.unit p (l.map (·.2)))) (sentOn p 1 s)
          else s) r.2) s

/-! ### 0x0C.07 (R384) -/

def checkGetShroudConnection (q : Issued) (_ : State) : Bad := firstBad [lenBad q 1, (q.u8 0 ≥ 64, .badArg)]
def runGetShroudConnection (q : Issued) (s : State) : Reply :=
  let s := reachIsland q s
  let c := q.u8 0
  let x := s.conn c
  let dual := (s.connCfg c).any (·.dual)
  let input := (s.connCfg c).all (·.input)
  let mode := match x.mode with | .notEstablished => 0 | .valid => 1 | .lost => 2
  let live := x.mode != .notEstablished
  let paths := (if live && !x.miss0 then 1 else 0) + (if live && dual && !x.miss1 then 2 else 0)
  say (leBool (!input) ++ le 1 mode ++ le 1 paths ++ le 2 (if input then x.last else (x.outSeq + 65535) % 65536) ++ le 8 x.accepted ++ le 4 x.duplicates ++
    le 4 x.crcErrors ++ le 4 x.idErrors ++ le 4 x.windowErrors ++ le 4 x.seqErrors ++ le 4 x.mismatches ++
    le 4 x.missing ++ (x.data ++ List.replicate 32 0).take 32) s

end Sys2Proof.Machine
end

