-- ==== Sys2Proof/Machine/Safety.lean ====
section
/-! DEFINITION. Safety functions (chapter 14): the sample of the island with its input pairs, logic, outputs and
deliberate reset, test pulses, axes, the safety configuration, and the commands of class 0x0C. -/

namespace Sys2Proof.Machine

/-! ### Input pairs (R339 to R342) -/

/-- Whether channel A and channel B stand at their on-levels. -/
def onLevels (r : PairRole) (x : InPair) : Bool × Bool :=
  match r with
  | .antivalent => (x.a, !x.b)
  | _ => (x.a, x.b)

/-- One sample of a channel (R340): its level follows the second of two samples that agree. -/
def sampleLevel (raw last level : Bool) : Bool := if raw = last then raw else level

/-- One sample of a pair at sample number `n` (R340 to R342). `fault` tells of a discrepancy fault. -/
def samplePair (r : PairRole) (t n : Nat) (rawA rawB : Bool) (x : InPair) : InPair × Bool :=
  let a := sampleLevel rawA x.rawA x.a
  let b := sampleLevel rawB x.rawB x.b
  let x := { x with changeA := if a != x.a then n - 1 else x.changeA, changeB := if b != x.b then n - 1 else x.changeB,
                    rawA, rawB, a, b }
  let (onA, onB) := onLevels r x
  if r = .off then ({ x with on := false, pendingAt := none }, false)
  else if onA = onB then
    let d := match x.pendingAt with | some s1 => (n - 1 - s1) * 250 | none => x.lastD
    ({ x with pendingAt := none, lastD := d, on := onA && !x.faulted, cleared := x.cleared || (x.faulted && !onA) }, false)
  else
    let s1 := x.pendingAt.getD (n - 1)
    let bad := decide (s1 + t + 1 ≤ n) && !x.faulted
    ({ x with pendingAt := some s1, on := false, faulted := x.faulted || bad, cleared := if bad then false else x.cleared,
              faults := x.faults + (if bad then 1 else 0) }, bad)

/-- The samples of all pairs: circuit tests that failed twice in succession (R340), then the discrepancies. -/
def samplePairs (io : SafetyIO) (s : State) : State :=
  match s.pairCfg with
  | none => s
  | some k =>
    forN 24 (fun n s =>
      let (r, t) := k.pairRole n
      let x := s.inPair n
      let bad := r != .off && ((x.failA && io.testA.getLsbD n) || (x.failB && io.testB.getLsbD n))
      let p := samplePair r t s.saf.samples (io.levelA.getLsbD n) (io.levelB.getLsbD n) x
      let s := updPair n (fun _ => { p.1 with failA := io.testA.getLsbD n, failB := io.testB.getLsbD n }) s
      let s := if bad then safetyFault 3 s else s
      if p.2 then safetyFault 4 s else s) s

/-! ### The logic (R348) -/

/-- One element on the values of the elements before it (new) and after it (as of the last sample). -/
def evalElement (s : State) (vals : List Bool) (e : Nat) (x : Element) : Bool × State :=
  let v := fun (i : Nat) => if i < e then vals.getD i false else s.element i
  let timer := s.saf.timers.find e
  match x with
  | .and ins => (ins.all v, s)
  | .or ins => (ins.any v, s)
  | .not i => (!v i, s)
  | .onDelay i n =>
    if !v i then (false, { s with saf.timers := s.saf.timers.del e })
    else
      let k := timer.getD 0
      (decide (n ≤ k), { s with saf.timers := s.saf.timers.put e (min (k + 1) n) })
  | .offDelay i n =>
    if v i then (true, { s with saf.timers := s.saf.timers.put e 0 })
    else match timer with
      | none => (false, s)
      | some k =>
        if k < n then (true, { s with saf.timers := s.saf.timers.put e (k + 1) })
        else (false, { s with saf.timers := s.saf.timers.del e })
  | .latch i =>
    if v i && !s.saf.latches.contains e then (true, { s with saf.latches := e :: s.saf.latches })
    else (s.saf.latches.contains e, s)
  | .edm _ _ n => (decide ((s.saf.edmWait.getD e 0) ≤ n), s)
  | .pair n => ((s.inPair n).on, s)
  | .shroudBit c byte bit => ((s.connByte c byte).getLsbD bit, s)
  | .shroudLockout c => ((s.conn c).lockFlag, s)
  | .axisViolation x => ((s.axis x).violation, s)
  | .const b => (b, s)

/-- The whole list, once, in list order. -/
def evalLogic (l : List Element) (s : State) : List Bool × State :=
  forAll l (fun x (acc : List Bool × State) =>
    let r := evalElement acc.2 acc.1 acc.1.length x
    (acc.1 ++ [r.1], r.2)) ([], s)

def State.elementOpt (s : State) (e : Option Nat) : Bool := match e with | some e => s.element e | none => false

/-- External device monitoring (R348): the feedback stands at the level opposite to its output within the element's
time, and is there already when the output is demanded on. -/
def checkEdm (k : SafetyCfg) (demandWas : List Bool) (s : State) : State :=
  forAll k.logic.zipIdx (fun x s =>
    match x.1 with
    | .edm fb out n =>
      let on := (s.safeOut out).demand
      let wrong := s.element fb == on
      let rose := on && !demandWas.getD out false
      let c := if wrong then (s.saf.edmWait.getD x.2 0) + 1 else 0
      let s := { s with saf.edmWait := s.saf.edmWait.put x.2 (min c (n + 2)) }
      if (rose && !s.element fb) || c = n + 1 then safetyFault 6 s else s
    | _ => s) s

/-! ### Effects of the logic (R349, R350) -/

/-- The switches' read-back against the states commanded (R344): two samples in succession are a fault. -/
def checkReadback (k : SafetyCfg) (io : SafetyIO) (s : State) : State :=
  forN 12 (fun m s =>
    let c := k.outCfg m
    let x := s.safeOut m
    let hi := io.highOn.getLsbD m
    let lo := io.lowOn.getLsbD m
    let badH := x.pulse.isNone && !c.seriesHigh && hi != x.high
    let badL := x.pulse.isNone && !c.seriesLow && lo != x.low
    let bad := (badH && x.disagreeHigh) || (badL && x.disagreeLow)
    let cur := match io.current.find? fun y => y.1 == m with | some y => y.2 | none => x.current
    let s := updOut m (fun x =>
      { x with readHigh := hi, readLow := lo, disagreeHigh := badH, disagreeLow := badL, stands := bad, faulted := x.faulted || bad,
               current := cur }) s
    if bad && !x.stands then safetyFault 5 s else s) s

/-- The outputs that the logic permits, outside lock-out, CONFIRMING and the modes of R336. -/
def followOutputs (k : SafetyCfg) (s : State) : State :=
  forN 12 (fun m s =>
    let want := s.elementOpt (k.outCfg m).element
    let s := if want then s else updOut m (fun x => { x with overload := false }) s
    setOutput m (want && s.saf.state = .run && !heldOff s.saf.heldMode) s) s

/-- Demands on the axes (R349, R354): STO, SS1 and the limit selected. -/
def axisDemands (k : SafetyCfg) (s : State) : State :=
  forAll k.axes.zipIdx (fun y s =>
    let c := y.1
    let x := y.2
    let index := (c.selSls.zipIdx.map fun e => if s.element e.1 then 2 ^ e.2 else 0).sum % 4
    updAxis x (fun a =>
      let ss1 := s.elementOpt c.selSs1 || (a.violation && c.ss1OnViolation)
      let a := { a with slsIndex := index,
                        ss1 := if ss1 then some (a.ss1.getD (s.saf.evals, fAbs a.vA, fAbs a.vB)) else none,
                        ss1Done := ss1 && a.ss1Done }
      { a with sto := s.elementOpt c.selSto || (s.inLockout && k.lockAxes.contains x) ||
                 (a.violation && !c.ss1OnViolation) || a.ss1Done || a.fails ≥ 2 }) s) s

/-- The element whose demand is the last that rose with this sample (point 290). -/
def lastDemand (k : SafetyCfg) (was now : List Bool) : Option Nat :=
  let fell := fun (e : Nat) => was.getD e false && !now.getD e false
  let rose := fun (e : Nat) => !was.getD e false && now.getD e false
  let outs := (k.outputs.filterMap (·.element)).filter fell
  let axes := (k.axes.flatMap fun a => a.selSto.toList ++ a.selSs1.toList).filter rose
  let others := (k.forceOff.map (·.2) ++ k.holds.map (·.2) ++ k.lockout.toList).filter rose
  (outs ++ axes ++ others).getLast?

/-- The logic and its effects at a sample. -/
def sampleLogic (k : SafetyCfg) (s : State) : State :=
  let was := s.saf.logic
  let r := evalLogic k.logic s
  let s := { r.2 with saf.logic := r.1, saf.demand := (lastDemand k was r.1).getD r.2.saf.demand }
  let demandWas := (List.range 12).map fun m => (s.safeOut m).demand
  let s := followOutputs k s
  let lock := if s.inLockout then k.lockStages else []
  let s := forceStages (((k.forceOff.filter fun x => s.element x.2).map (·.1) ++ lock).eraseDups) s
  let s := { s with saf.holds := ((k.holds.filter fun x => s.element x.2).map (·.1)).eraseDups,
                    saf.flags := BitVec.ofNat 32 (bitsFrom 32 fun b => k.flags.any fun f => f.1 == b && s.element f.2) }
  let s := axisDemands k s
  let s := checkEdm k demandWas s
  if s.elementOpt k.lockout && !(k.lockout.any fun e => was.getD e false) then safetyFault 13 s else s

/-! ### Axes (R351 to R354) -/

/-- Position in units and speed of a source from its newest frame and the one before (R353). -/
def axisSource (scale : F32) (c : Nat) (s : State) : F32 × F32 :=
  let d := (s.conn c).data
  let p := (s.conn c).prevData
  let pos := fun (l : List Byte) => (BitVec.ofNat 32 (rd l 0 4)).toInt
  let dt := (rd d 4 4 + 2 ^ 32 - rd p 4 4) % 2 ^ 32
  let v := if p.isEmpty || dt = 0 then BitVec.ofNat 32 (Config.unstated 50 [c, rd d 0 4, rd d 4 4])
    else fDiv (fMul (fOfInt (pos d - pos p)) scale) (fDiv (fOfNat dt) (fOfNat 1000000))
  (fMul (fOfInt (pos d)) scale, v)

/-- The limits an axis has to meet (R354), on both sources. -/
def limitsMet (c : AxisCfg) (a : Axis) : Bool :=
  let both := fun (p : F32 → F32 → Bool) => p a.pA a.vA && p a.pB a.vB
  (c.selSls.isEmpty || both fun _ v => fLe (fAbs v) (at0 c.sls a.slsIndex)) &&
    (!c.slpOn || both fun p _ => fLe c.slpLo p && fLe p c.slpHi) &&
    (c.sdi = 0 || (fLe a.againstA c.sdiTol && fLe a.againstB c.sdiTol))

/-- Motion against the permitted direction since the evaluation before. -/
def against (sdi : Nat) (last : Option F32) (p sum : F32) : F32 :=
  match last with
  | none => sum
  | some q =>
    let d := if sdi = 2 then fSub p q else fSub q p
    if sdi != 0 && fLt 0 d then fAdd sum d else sum

/-- SS1 has come to STO (R354): standstill, time run out, or the monitored deceleration missed. -/
def ss1Over (c : AxisCfg) (evals : Nat) (a : Axis) : Bool :=
  match a.ss1 with
  | none => false
  | some (t0, vA, vB) =>
    let ms := evals - t0
    let t := fDiv (fOfNat ms) (fOfNat 1000)
    let lim := fun (v0 : F32) => fAdd (fSub v0 (fMul c.ss1Decel t)) c.tolSpeed
    a.ss1Done || (fLe (fAbs a.vA) c.vStill && fLe (fAbs a.vB) c.vStill) || ms ≥ c.ss1Time ||
      (fLt 0 c.ss1Decel && (fLt (lim vA) (fAbs a.vA) || fLt (lim vB) (fAbs a.vB)))

/-- One evaluation of an axis (R353, R354). -/
def evalAxis (c : AxisCfg) (x : Nat) (s : State) : State :=
  let a := axisSource c.scale c.srcA s
  let b := axisSource c.scale c.srcB s
  let ok := fun (src : Nat) => (s.connByte src 8).getLsbD 0
  let fail := fLt c.tolPos (fAbs (fSub a.1 b.1)) || fLt c.tolSpeed (fAbs (fSub a.2 b.2)) || !ok c.srcA || !ok c.srcB
  let s := updAxis x (fun y =>
    let y := { y with pA := a.1, vA := a.2, pB := b.1, vB := b.2, compareFail := fail, fails := if fail then y.fails + 1 else 0,
                      faulted := y.faulted || (fail && y.fails ≥ 1),
                      againstA := against c.sdi y.lastA a.1 y.againstA, againstB := against c.sdi y.lastB b.1 y.againstB,
                      lastA := some a.1, lastB := some b.1 }
    { y with violation := y.violation || !limitsMet c y, ss1Done := ss1Over c s.saf.evals y }) s
  if (s.axis x).fails = 2 then safetyFault 7 s else s

/-- AXIS_EVALUATION (R353): every axis, once per 1 ms of island time. -/
def axisEvaluationEffect (s : State) : State :=
  match s.safetyCfg with
  | none => s
  | some k =>
    let s := { s with saf.evals := s.saf.evals + 1 }
    mirrorIsland (axisDemands k (forAll k.axes.zipIdx (fun y s => evalAxis y.1 y.2 s) s))

/-! ### Deliberate reset (R358, R359) -/

/-- A safety fault is present at the sample (R358): one found at it, or one whose condition still stands: a supply or monitor out
of its limits, a read-back that disagrees, a failed EDM element, the demand for lock-out. -/
def State.standing (s : State) (k : SafetyCfg) : Bool :=
  s.faultPresent || s.saf.supplyBad || s.elementOpt k.lockout || (s.saf.outs.cells.any fun x => x.2.stands) ||
    k.logic.zipIdx.any fun x => match x.1 with | .edm _ _ n => decide (n < s.saf.edmWait.getD x.2 0) | _ => false

/-- Why a reset of a length in samples is refused; 0 where it is accepted. -/
def resetReason (k : SafetyCfg) (samples : Nat) (s : State) : Nat :=
  if samples < 400 then 1
  else if samples > 20000 then 2
  else if s.standing k then 3
  else if s.saf.pairs.cells.any fun x => x.2.faulted && !x.2.cleared then 4
  else if k.axes.zipIdx.any fun x => (s.axis x.2).faulted && (s.axis x.2).compareFail then 5
  else 0

/-- An accepted reset (R354, R359): lock-out, latches, faulted pairs and outputs, and the violations of axes that meet
every limit, are cleared. -/
def acceptReset (k : SafetyCfg) (s : State) : State :=
  let s := note 1 .resetAccepted [] s
  let lift := fun (x : Nat) (a : Axis) =>
    let a := { a with againstA := 0, againstB := 0, faulted := false }
    { a with violation := a.violation && !((k.axes.drop x).head?.any (limitsMet · a)) }
  let s : State := { s with
    saf.latches := [], saf.resetBad := 0,
    saf.pairs := ⟨s.saf.pairs.cells.map fun x => (x.1, { x.2 with faulted := false, cleared := false })⟩,
    saf.outs := ⟨s.saf.outs.cells.map fun x => (x.1, { x.2 with faulted := false })⟩,
    saf.axes := ⟨s.saf.axes.cells.map fun x => (x.1, lift x.1 x.2)⟩ }
  if !s.inLockout then s
  else if s.saf.state = .lockout then { s with saf.state := .run, saf.lockEvents := s.saf.lockEvents ++ [false] }
  else { s with saf.before := .run, saf.lockEvents := s.saf.lockEvents ++ [false] }

/-- The reset input at a sample: a pulse begins, or its fall is confirmed and judged (R358). -/
def sampleReset (k : SafetyCfg) (s : State) : State :=
  match (List.range 24).find? fun n => (k.pairRole n).1 == .reset with
  | none => s
  | some n =>
    let x := s.inPair n
    let high := x.a && x.b
    let was := s.saf.resetLevel
    let s := { s with saf.resetLevel := high }
    if high && !was then { s with saf.resetHigh := some (max x.changeA x.changeB) }
    else if !high && was then
      match s.saf.resetHigh with
      | none => s
      | some rise =>
        let s := { s with saf.resetHigh := none }
        match resetReason k (s.saf.samples - 1 - rise) s with
        | 0 => acceptReset k s
        | r => note 1 .resetRefused [r] { s with saf.resetBad := r, saf.refused := s.saf.refused + 1 }
    else s

/-! ### Confirmation (R361) -/

/-- The pairs of the confirmation pattern of an image. -/
def confirmPattern (image : List Byte) (k : SafetyCfg) : List Nat :=
  (((image.drop 26).take 6).map (·.toNat) ++ k.confirmTail).take (rd image 24 1)

/-- The pattern is complete: the configuration is written and the island enters lock-out with cause 0x0E. -/
def finishConfirm (image : List Byte) (crc : U32) (k : SafetyCfg) (s : State) : State :=
  let box := s.saf.confirmBox
  let s := note 1 .safetyStep [0x0C15, 0, s.saf.crc.toNat, crc.toNat] s
  let s := { s with
    saf.cfg := some k, saf.image := image, saf.crc := crc, saf.build := BitVec.ofNat 32 (rd image 20 4), saf.pending := none,
    saf.pairs := {}, saf.logic := [], saf.timers := {}, saf.latches := [], saf.edmWait := {}, saf.axes := {}, saf.holds := [],
    saf.flags := 0, saf.confirmBox := none, saf.confirmStep := 0, saf.confirmOn := false, saf.resetHigh := none,
    saf.resetLevel := false,
    shr.conns := ⟨s.shr.conns.cells.map fun x => (x.1, ({ outSeq := x.2.outSeq } : Conn))⟩ }
  let s := lockOut 14 s
  match box with
  | some m => completeRequest m .done [] s
  | none => s

/-- One sample of the confirmation pattern: pairs go ON and OFF in its order. -/
def sampleConfirm (onWas : List Bool) (s : State) : State :=
  match s.saf.state, s.saf.pending with
  | .confirming, some (image, crc, k) =>
    let pattern := confirmPattern image k
    let want := pattern.getD s.saf.confirmStep 24
    let rose := (List.range 24).filter fun n => (s.inPair n).on && !onWas.getD n false
    if rose.any fun n => n != want || s.saf.confirmOn then endConfirming .badArg s
    else if rose.contains want then { s with saf.confirmOn := true }
    else if s.saf.confirmOn && !(s.inPair want).on then
      if s.saf.confirmStep + 1 ≥ pattern.length then finishConfirm image crc k s
      else { s with saf.confirmOn := false, saf.confirmStep := s.saf.confirmStep + 1 }
    else s
  | _, _ => s

/-- CONFIRMATION_TIMEOUT (R361): 30 s after 0x0C.15. -/
def confirmTimeoutEffect (s : State) : State :=
  if s.saf.state = .confirming && s.sys.opNs - s.saf.confirmAt ≥ 30000000000 then mirrorIsland (endConfirming .timeout s) else s

/-! ### The sample (R340, R344, R348) -/

/-- SAFETY_SAMPLE: pairs, connections, read-back, logic and effects, reset and confirmation, in this order. -/
def safetySampleEffect (io : SafetyIO) (s : State) : State :=
  let s := { s with saf.samples := s.saf.samples + 1, saf.faultNow := false, saf.supplyBad := io.supplyBad }
  let onWas := (List.range 24).map fun n => (s.inPair n).on
  let s := samplePairs io s
  let s := sampleConns s
  let s := match s.safetyCfg with
    | none => outputsOff s
    | some k => sampleReset k (sampleLogic k (checkReadback k io s))
  mirrorIsland (sampleConfirm onWas s)

/-! ### Test pulses and overloads (R344, R346, R347) -/

/-- The switch the next pulse of an output tests, where one may be tested. -/
def pulseSwitch (c : OutCfg) (nextHigh : Bool) : Option Bool :=
  if !c.test || (c.seriesHigh && c.seriesLow) then none
  else if c.seriesHigh then some false else if c.seriesLow then some true else some nextHigh

/-- TEST_PULSE (R346). -/
def testPulseEffect (m : Nat) (s : State) : State :=
  match s.safetyCfg with
  | none => s
  | some k =>
    let x := s.safeOut m
    match pulseSwitch (k.outCfg m) x.nextHigh with
    | none => s
    | some high =>
      if x.pulse.isSome then s
      else
        let dark := x.high && x.low
        let s := updOut m (fun x => { x with pulse := some { high, dark } }) s
        if dark then driveSwitches m (!high) high s else driveSwitches m high (!high) s

/-- TEST_PULSE_END (R346, R347): the check, then the commanded state. -/
def testPulseEndEffect (m : Nat) (ok : Bool) (s : State) : State :=
  match (s.safeOut m).pulse with
  | none => s
  | some p =>
    let on := p.dark || (s.safeOut m).pendingOn
    let s := updOut m (fun x => { x with pulse := none, pendingOn := false, nextHigh := !p.high, tests := x.tests + 1 }) s
    if ok then driveSwitches m on on s
    else safetyFault 5 (driveSwitches m false false (updOut m (fun x => { x with faulted := true }) s))

/-- SAFETY_OUTPUT_OVERLOAD (R344). -/
def overloadEffect (m : Nat) (s : State) : State :=
  if (s.safeOut m).high || (s.safeOut m).low then
    mirrorIsland (outputOff m (updOut m (fun x => { x with overload := true, overloads := x.overloads + 1 }) s))
  else s

/-! ### The island's own faults (R335 to R338) -/

/-- A fault that the island's monitors find. -/
def islandFaultEffect (cause : Nat) (s : State) : State := mirrorIsland (safetyFault cause s)

/-- VSAFE_FAULT (R338): VSAFE is evaluated from 100 ms after power-good (R469). -/
def vsafeFaultEffect (s : State) : State :=
  if s.sys.opNs - s.sys.opSinceGood < 100000000 then s else islandFaultEffect 9 s

/-- ISLAND_SCRUB (R338, point 319): every 10 s. -/
def islandScrubEffect (memoryOk configOk : Bool) (s : State) : State :=
  let s := { s with saf.rounds := s.saf.rounds + 1 }
  mirrorIsland (if memoryOk && configOk then s else safetyFault 2 s)

/-- ISLAND_WATCHDOG (R23, R335, R338): the restart is a fault with cause 0x0B. -/
def islandWatchdogEffect (s : State) : State := mirrorIsland (safetyFault 11 (islandRestart s))

/-! ### The configuration image (R360, R361, R369) -/

/-- Limits of one element (R348). -/
def elementFits : Element → Bool
  | .and ins => ins.length ≤ 8 && !ins.isEmpty
  | .or ins => ins.length ≤ 8 && !ins.isEmpty
  | .onDelay _ n => 1 ≤ n && n ≤ 240000
  | .offDelay _ n => 1 ≤ n && n ≤ 240000
  | .edm _ m _ => m < 12
  | .pair n => n < 24
  | .shroudBit c byte bit => c < 64 && byte < 32 && bit < 8
  | .shroudLockout c => c < 64
  | .axisViolation x => x < 32
  | _ => true

/-- Limits of one axis (R351, R369): three distinct connections of the lengths of R352. -/
def axisFits (k : SafetyCfg) (a : AxisCfg) : Bool :=
  let is := fun (c : Nat) (input : Bool) (n : Nat) => k.conns.any fun x => x.number == c && x.input == input && x.length == n
  is a.srcA true 12 && is a.srcB true 12 && is a.drive false 4 && a.srcA != a.srcB && a.sls.length = 4 && a.sdi ≤ 2 &&
    10 ≤ a.ss1Time && a.ss1Time ≤ 30000

/-- Limits of one connection (R369). -/
def connFits (own : U32) (k : SafetyCfg) (period : Nat) (c : ConnCfg) : Bool :=
  c.number < 64 && c.identity != 0 && c.identity != own && 1 ≤ c.length && c.length ≤ 32 &&
    2 ≤ c.window && c.window ≤ 1000 && 2 * period ≤ c.window * 1000 && (c.field.isNone || !c.dual) && (c.input || !c.opt) &&
    (match c.field with | some p => p < 48 | none => true) &&
    (k.conns.filter fun x => x.identity == c.identity || x.number == c.number ||
      (c.field.isSome && x.field == c.field && x.input == c.input)).length = 1

/-- A configuration lies within the limits of chapters 14 and 15. -/
def cfgFits (own : U32) (period : Nat) (k : SafetyCfg) : Bool :=
  k.logic.length ≤ 512 && k.logic.all elementFits && k.pairs.length ≤ 24 && k.outputs.length ≤ 12 && k.axes.length ≤ 32 &&
    k.conns.length ≤ 64 && k.pairs.all (fun p => p.1 = .off || (20 ≤ p.2 && p.2 ≤ 8000)) &&
    (k.pairs.filter fun p => p.1 == .reset).length ≤ 1 &&
    k.outputs.all (fun o => 100 ≤ o.pulse && o.pulse ≤ 300) && k.axes.all (axisFits k) && k.conns.all (connFits own k period)

/-- The first field of an image that fails its check: its offset (R360). -/
def imageOffset (own : U32) (len period : Nat) (b : List Byte) : Option Nat :=
  let flaws : List (Bool × Nat) :=
    [(rd b 0 4 != 0x5AFE9648, 0), (rd b 4 2 != 1, 4), (rd b 6 2 != 32, 6), (rd b 8 4 != own.toNat, 8),
     (rd b 14 2 != 0, 14), (rd b 16 4 != len || len < 36 || len > 262144, 16), (rd b 24 1 < 1 || rd b 24 1 > 8, 24),
     (rd b 25 1 != 0, 25), (((b.drop 26).take (min 6 (rd b 24 1))).any (·.toNat ≥ 24), 26),
     (crc32c (b.take (len - 4)) != rd b (len - 4) 4, len - 4),
     (match Config.safetyBody b with | none => true | some k => !cfgFits own period k, (Config.safetyReason b).1)]
  (flaws.find? (·.1)).map (·.2)

/-! ### Commands of class 0x0C (R361, R362, R366) -/

/-- An open session of the mailbox (R361, R366). -/
def State.inSession (s : State) (q : Issued) : Bool := s.saf.session.any fun x => x.1 == q.mailbox

/-- A step of R361 writes an audit record: opcode, status, mailbox, and the CRCs of old and new configuration. -/
def safetyAudit (q : Issued) (opcode : Nat) (st : Status) (s : State) : State :=
  let new := match s.saf.pending with | some (_, c, _) => c.toNat | none => 0
  note 8 .safetyStep [opcode, st.code, q.mailbox, s.saf.crc.toNat, new] s

def checkGetSafetyStatus (q : Issued) (_ : State) : Bad := firstBad [lenBad q 0]
def runGetSafetyStatus (q : Issued) (s : State) : Reply :=
  let s := reachIsland q s
  say ((List.range 22).flatMap (fun i => le 4 (islandPoint s (272 + i))) ++ le 8 s.saf.lockTick ++ le 4 s.saf.faults ++
    le 4 s.saf.refused) s

def PairRole.code : PairRole → Nat
  | .off => 0 | .equivalent => 1 | .antivalent => 2 | .reset => 3

def checkGetInputPair (q : Issued) (_ : State) : Bad := firstBad [lenBad q 1, (q.u8 0 ≥ 24, .badArg)]
def runGetInputPair (q : Issued) (s : State) : Reply :=
  let s := reachIsland q s
  let x := s.inPair (q.u8 0)
  let r := match s.pairCfg with | some k => k.pairRole (q.u8 0) | none => (.off, 0)
  say (le 1 (PairRole.code r.1) ++ leBool x.a ++ leBool x.b ++ leBool x.on ++ leBool x.faulted ++ le 4 (r.2 * 250) ++
    le 4 x.lastD ++ le 4 x.faults) s

def checkGetSafetyOutput (q : Issued) (_ : State) : Bad := firstBad [lenBad q 1, (q.u8 0 ≥ 12, .badArg)]
def runGetSafetyOutput (q : Issued) (s : State) : Reply :=
  let s := reachIsland q s
  let x := s.safeOut (q.u8 0)
  let c := match s.safetyCfg with
    | some k => k.outCfg (q.u8 0)
    | none => { element := none, test := true, pulse := 200, seriesHigh := false, seriesLow := false }
  say (leBool x.demand ++ leBool x.high ++ leBool x.low ++ leBool c.test ++ le 2 c.pulse ++ le 8 x.tests ++
    le 4 x.overloads ++ leF x.current) s

def checkGetAxis (q : Issued) (_ : State) : Bad := firstBad [lenBad q 1, (q.u8 0 ≥ 32, .badArg)]
def runGetAxis (q : Issued) (s : State) : Reply :=
  let s := reachIsland q s
  let x := s.axis (q.u8 0)
  say (leF x.pA ++ leF x.pB ++ leF x.vA ++ leF x.vB ++ le 1 x.slsIndex ++ le 1 (driveCommand s (q.u8 0)) ++
    leBool x.violation ++ leBool x.compareFail) s

def checkGetConfigInfo (q : Issued) (_ : State) : Bad := firstBad [lenBad q 0]
def runGetConfigInfo (q : Issued) (s : State) : Reply :=
  let s := reachIsland q s
  let new := match s.saf.pending with | some (_, c, _) => c.toNat | none => 0
  say (le 4 s.sys.fuses.safetyIdentity.toNat ++ le 2 (rd s.saf.image 12 2) ++ le 4 s.saf.crc.toNat ++ le 4 s.saf.build.toNat ++
    leBool s.saf.password.isSome ++ le 4 new) s

def checkReadConfig (q : Issued) (s : State) : Bad :=
  firstBad [lenBad q 6, (q.u16 4 < 1 || q.u16 4 > 4064, .badArg), (q.u32 0 + q.u16 4 > s.saf.image.length, .badArg)]
def runReadConfig (q : Issued) (s : State) : Reply :=
  let s := reachIsland q s
  say ((s.saf.image.drop (q.u32 0)).take (q.u16 4)) s

/-- A password fits (R362): none set accepts only the empty one. -/
def State.passwordFits (s : State) (p : List Byte) : Bool :=
  match s.saf.password with
  | none => p.isEmpty
  | some (salt, digest) => unle (sha256 (le 16 salt.toNat ++ p)) == digest.toNat

/-- Five wrong passwords in a row refuse every 0x0C.10 for 60 s (R361). -/
def State.passwordBlocked (s : State) : Bool := s.saf.wrong ≥ 5 && s.sys.opNs - s.saf.wrongAt < 60000000000

def checkOpenSession (q : Issued) (_ : State) : Bad := firstBad [(q.len < 1, .badArg), lenBad q (1 + q.u8 0), (q.u8 0 > 32, .badArg)]
def runOpenSession (q : Issued) (s : State) : Reply :=
  let s := reachIsland q s
  if s.passwordBlocked then { st := safetyAudit q 0x0C10 .refusedRight s, status := .refusedRight }
  else if s.passwordFits (q.bytes 1 (q.u8 0)) then
    done (safetyAudit q 0x0C10 .done { s with saf.session := some (q.mailbox, s.sys.opNs), saf.wrong := 0 })
  else
    let wrong := if s.saf.wrong ≥ 5 then 1 else s.saf.wrong + 1
    { st := safetyAudit q 0x0C10 .refusedRight { s with saf.wrong := wrong, saf.wrongAt := s.sys.opNs }, status := .refusedRight }

def checkCloseSession (q : Issued) (s : State) : Bad := firstBad [(!s.inSession q, .refusedRight), lenBad q 0]
def runCloseSession (q : Issued) (s : State) : Reply :=
  let s := reachIsland q s
  done (safetyAudit q 0x0C11 .done { s with saf.session := none })

def checkConfigBegin (q : Issued) (s : State) : Bad :=
  firstBad [(!s.inSession q || s.saf.password.isNone, .refusedRight), lenBad q 4, (q.u32 0 < 36 || q.u32 0 > 262144, .badArg)]
/-- 0x0C.12 (R361): a load of the same length is resumed. -/
def runConfigBegin (q : Issued) (s : State) : Reply :=
  let s := reachIsland q s
  let l : Load := match s.saf.load with
    | some l => if l.len = q.u32 0 then l else { len := q.u32 0, id := 0 }
    | none => { len := q.u32 0, id := 0 }
  done (safetyAudit q 0x0C12 .done { s with saf.load := some l })

def checkConfigData (q : Issued) (s : State) : Bad :=
  firstBad [(!s.inSession q, .refusedRight), (q.len < 6, .badArg), lenBad q (6 + q.u16 4), (q.u16 4 < 1 || q.u16 4 > 4064, .badArg),
    (match s.saf.load with | none => true | some l => q.u32 0 + q.u16 4 > l.len, .badArg)]
def runConfigData (q : Issued) (s : State) : Reply :=
  let s := reachIsland q s
  done (safetyAudit q 0x0C13 .done
    { s with saf.load := s.saf.load.map fun l => { l with data := l.data.putList (q.u32 0) (q.bytes 6 (q.u16 4)) } })

def checkConfigCheck (q : Issued) (s : State) : Bad :=
  firstBad [(!s.inSession q, .refusedRight), lenBad q 0, (s.saf.load.isNone, .badArg), (s.saf.state = .confirming, .busy)]
/-- 0x0C.14: accepted; the check follows as a long-running command. -/
def runConfigCheck (q : Issued) (s : State) : Reply := acceptedReply (reachIsland q s)

/-- The end of 0x0C.14 (R361): the image is refused with offset and reason, or waits for confirmation. -/
def configCheckDone (q : Issued) (s : State) : Status × List Byte × State :=
  match s.saf.load with
  | none => (.badArg, [], s)
  | some l =>
    let b := l.bytes 23
    match imageOffset s.sys.fuses.safetyIdentity l.len s.cfg.periodUs b, Config.safetyBody b with
    | none, some k =>
      let crc := rd b (l.len - 4) 4
      let s := { s with saf.pending := some (b, BitVec.ofNat 32 crc, k), saf.load := none }
      (.done, le 4 crc, mirrorIsland (safetyAudit q 0x0C14 .done s))
    | off, _ =>
      (.badArg, le 4 (off.getD 0) ++ le 2 (Config.safetyReason b).2, safetyAudit q 0x0C14 .badArg s)

def checkConfirm (q : Issued) (s : State) : Bad :=
  firstBad [(!s.inSession q, .refusedRight), lenBad q 4, (s.saf.state = .confirming, .busy),
    (match s.saf.pending with | none => true | some (_, c, _) => c.toNat != q.u32 0, .badArg)]
/-- 0x0C.15 (R361): the island enters CONFIRMING and all safety outputs go off. -/
def runConfirm (q : Issued) (s : State) : Reply :=
  let s := reachIsland q s
  let s := safetyAudit q 0x0C15 .accepted s
  acceptedReply (mirrorIsland (outputsOff
    { s with saf.before := s.saf.state, saf.state := .confirming, saf.confirmAt := s.sys.opNs, saf.confirmStep := 0,
             saf.confirmOn := false, saf.confirmBox := some q.mailbox }))

/-- The new password of a 0x0C.16 begins after the old one and its length byte. -/
def newLen (q : Issued) : Nat := q.u8 (1 + q.u8 0)

def checkSetPassword (q : Issued) (s : State) : Bad :=
  firstBad [(!s.inSession q, .refusedRight), (q.len < 2 || q.len < 2 + q.u8 0, .badArg), lenBad q (2 + q.u8 0 + newLen q), (newLen q < 8 || newLen q > 32, .badArg),
    (if s.saf.password.isNone then q.u8 0 != 0 else q.u8 0 < 8 || q.u8 0 > 32, .badArg)]
def runSetPassword (q : Issued) (s : State) : Reply :=
  let s := reachIsland q s
  if !s.passwordFits (q.bytes 1 (q.u8 0)) then { st := safetyAudit q 0x0C16 .refusedRight s, status := .refusedRight }
  else
    let (n, s) := takeFree s
    let salt := Config.salt n
    let digest := unle (sha256 (le 16 salt.toNat ++ q.bytes (2 + q.u8 0) (newLen q)))
    done (safetyAudit q 0x0C16 .done { s with saf.password := some (salt, BitVec.ofNat 256 digest) })

def checkSafetyDiscardPending (q : Issued) (s : State) : Bad :=
  firstBad [(!s.inSession q, .refusedRight), lenBad q 0, (s.saf.state = .confirming, .busy)]
def runSafetyDiscardPending (q : Issued) (s : State) : Reply :=
  let s := safetyAudit q 0x0C17 .done (reachIsland q s)
  done (mirrorIsland { s with saf.pending := none, saf.load := none })

/-- SESSION_TIMEOUT (R361): 600 s without a request. -/
def sessionTimeoutEffect (s : State) : State :=
  match s.saf.session with
  | some (_, t) =>
    if s.sys.opNs - t ≥ 600000000000 then note 8 .safetyStep [0x0C11, 10] { s with saf.session := none } else s
  | none => s

/-- The exit from SERVICE ends the session (R361). -/
def endSession (s : State) : State :=
  if s.saf.session.isSome then note 8 .safetyStep [0x0C11, 0] { s with saf.session := none } else s

end Sys2Proof.Machine
end

