-- ==== Sys2Proof/Machine/Time.lean ====
section
/-! DEFINITION. Tick, time and ordering (chapter 2): sources and time states, steps and slews, the base period, Halyard,
the field-side gPTP, and the commands of class 0x02. -/

namespace Sys2Proof.Machine

/-! ### Sources (R28, R29) -/

def State.gptp (s : State) (u : Nat) : Gptp := if u = 0 then s.time.gptp0 else s.time.gptp1

/-- The order of sources of the time role (R28): 1 gPTP U0, 2 gPTP U1, 3 Halyard. -/
def sourceOrder (role : Nat) : List Nat := if role ≤ 1 then [1, 2] else [3, 1, 2]

def State.sourceValid (s : State) (k : Nat) : Bool :=
  match k with
  | 1 => s.time.gptp0.valid | 2 => s.time.gptp1.valid && s.cfg.u1Enabled | 3 => s.time.halValid | _ => false

def State.sourceOffset (s : State) (k : Nat) : Int :=
  match k with
  | 1 => s.time.gptp0.offset | 2 => s.time.gptp1.offset | 3 => s.time.halOffset | _ => 0

/-- The source in use: the first valid in the order. -/
def State.bestSource (s : State) : Option Nat := (sourceOrder s.cfg.timeRole).find? s.sourceValid

/-! ### Time states (R30 to R33) -/

/-- A change of time state writes a record (R30). -/
def setTimeState (x : TimeState) (s : State) : State :=
  if s.time.state = x then s
  else
    note 9 .timeState [s.time.state.code, x.code]
      { s with time.state := x, time.good := 0, time.holdSince := if x = .holdover then s.sys.opNs else s.time.holdSince }

def oneMs : Int := 1000000

/-- The offset is slewed out from here on (R31). -/
def slewBy (off : Int) (s : State) : State := { s with time.slew := off, time.step := none }

/-- A step to the source at the next boundary of the new grid (R31). -/
def stepTo (off : Int) (s : State) : State := { s with time.stepNow := some off, time.step := none, time.slew := 0, time.good := 0 }

/-- A step is pending (R30). -/
def awaitStep (off : Int) (s : State) : State := setTimeState .unaligned { s with time.step := some off, time.slew := 0 }

/-- The measurements of a converging or slewing unit: 16 consecutive within 50 ns lock it. -/
def countGood (off : Int) (s : State) : State :=
  let s := { s with time.good := if off.natAbs ≤ 50 then s.time.good + 1 else 0 }
  if s.time.good ≥ 16 then setTimeState .locked { s with time.slew := 0 } else s

/-- A transition of R33 with no valid source. -/
def noSource (s : State) : State :=
  let s := { s with time.source := 0, time.slew := 0 }
  match s.time.state with
  | .acquiring => setTimeState .free { s with time.stepNow := none }
  | .unaligned => setTimeState .free { s with time.step := none }
  | .locked | .slewing => setTimeState .holdover s
  | _ => s

/-- A transition of R33 with a valid source `k` at offset `off`: `fresh` at a measurement of it, `changed` where it was
not in use before. -/
def withSource (off : Int) (fresh changed : Bool) (s : State) : State :=
  let far := decide (off.natAbs > 1000000)
  match s.time.state with
  | .free =>
    if s.sys.mode.steps then setTimeState .acquiring (stepTo off s)
    else if far then awaitStep off s else setTimeState .acquiring (slewBy off s)
  | .acquiring =>
    if s.sys.mode.steps && (far || changed) then stepTo off s
    else if s.time.stepNow.isSome then s
    else if far then awaitStep off s
    else if fresh then countGood off (slewBy off s) else slewBy off s
  | .locked =>
    if far then awaitStep off s
    else if off.natAbs > 200 then setTimeState .slewing (slewBy off s) else s
  | .slewing =>
    if far then awaitStep off s
    else if fresh then countGood off (slewBy off s) else slewBy off s
  | .holdover => if far then awaitStep off s else setTimeState .slewing (slewBy off s)
  | .unaligned => if far then { s with time.step := some off } else setTimeState .slewing (slewBy off s)

/-- The time state after a measurement of source `fresh` (0 where none), or a change of validity. -/
def evalTime (fresh : Nat) (s : State) : State :=
  match s.bestSource with
  | none => noSource s
  | some k =>
    let off := s.sourceOffset k
    let changed := s.time.source != k
    if !changed && fresh != k && fresh != 0 then s
    else withSource off (fresh == k) changed { s with time.source := k, time.offset := off, time.good := if changed then 0 else s.time.good }

/-- A change of T takes effect (R36): what counts in ticks of the old grid goes on in those of the new one, the frames of
Halyard under way begin anew, and the stream states the new T in a CONFIG record (R44, R288). -/
def useNewGrid (periodUs fastN : Nat) (s : State) : State :=
  { s with time.periodUs := periodUs, time.fastN := fastN, time.change := none, time.txBits := [], time.halPos := none,
           time.halBits := [], time.halTicks := s.time.halTicks * s.time.periodUs / periodUs, acq.configDue := true }

/-- A step to another time lands beyond the instant of a pending change of T: the new grid is then in force (R36). -/
def stepGrid (target : Nat) (s : State) : State :=
  match s.time.change with
  | some (p, n, e) => if e * p * 1000 ≤ target then useNewGrid p n s else s
  | none => s

/-- A step of tool time takes place at a boundary (R31, R32): tool time moves to the first boundary of the grid at or
after the source's value. Where the module no longer steps, an offset within 1 ms is slewed out and a larger one awaits its
step (R33). The Halyard frame being sent goes on from the new index (R46). -/
def takeStep (s : State) : State :=
  match s.time.stepNow with
  | none => s
  | some off =>
    let s := { s with time.stepNow := none }
    if !s.sys.mode.steps then if off.natAbs > 1000000 then awaitStep off s else slewBy off s
    else
      let target := ((s.toolNs : Int) + off).toNat
      let before : Int := s.toolNs
      let s := stepGrid target s
      let tick := boundaryFrom s.periodNs target
      let moved : Int := ((tick * s.periodNs : Nat) - before) / s.periodNs
      let s := match s.upd.schedule with
        | some _ => note 0 .scheduleEnded [] { s with upd.schedule := none }
        | none => s
      let s := { s with
        time.tick := tick, time.offset := 0, time.good := 0, time.slew := 0, time.txBits := [],
        time.gptp0.offset := s.time.gptp0.offset - off, time.gptp1.offset := s.time.gptp1.offset - off,
        time.halOffset := s.time.halOffset - off, time.halTicks := s.time.halTicks - moved }
      acqTimeStep (note 9 .timeStep [(off % (2 ^ 64 : Int)).toNat] s)

/-- A pending step is taken (R31, R33): on entry to CONFIGURE and by 0x02.20. -/
def takePending (s : State) : State :=
  match s.time.step with
  | some off => setTimeState .acquiring (stepTo off s)
  | none => s

/-- A slew proceeds by at most 50 ppm of the base period a tick (R31). -/
def slewTick (s : State) : State :=
  let most : Int := s.periodNs / 20000
  let x := s.time.slew
  { s with time.slew := if x.natAbs ≤ most.natAbs then 0 else if x > 0 then x - most else x + most }

/-! ### gPTP on the uplinks (R29) -/

def setGptp (u : Nat) (f : Gptp → Gptp) (s : State) : State :=
  if u = 0 then { s with time.gptp0 := f s.time.gptp0 } else { s with time.gptp1 := f s.time.gptp1 }

/-- The tool time that a PTP timestamp names (R27): seconds × 10⁹ + nanoseconds, with its correction. -/
def ptpNs (p : PtpStamp) : Int := p.seconds * 1000000000 + p.nanos + p.correction

/-- The timestamp of a Sync (R29): its own where it is one-step, that of its Follow_Up where it is two-step. -/
def syncStamp (m : SyncMessage) : Option PtpStamp := if m.twoStep then m.followUp else some m.origin

/-- The Sync interval in ns, where it is one the module supports: 2⁻⁵ s to 1 s (R29). -/
def syncIntervalNs (m : SyncMessage) : Option Nat :=
  if -5 ≤ m.logInterval ∧ m.logInterval ≤ 0 then some (1000000000 / 2 ^ (-m.logInterval).toNat) else none

/-- Source time minus tool time as a Sync measures it (R33): its timestamp and the peer delay of its uplink, less the tool
time at which it was received. -/
def State.syncOffset (s : State) (u : Nat) (p : PtpStamp) (rxSub : Nat) : Int :=
  ptpNs p + (s.gptp u).peerDelay - ((s.toolNs + rxSub : Nat) : Int)

/-- What a valid Sync leaves of its source: the offset, and the interval from which its time-out runs (R29). -/
def Gptp.synced (g : Gptp) (offset : Int) (m : SyncMessage) (interval now : Nat) : Gptp :=
  { g with valid := true, offset, grandmaster := m.grandmaster, interval, lastSync := now }

/-- A Sync is heard: it is of the configured domain, on an uplink that is up and in use (R29). -/
def State.hearsSync (s : State) (u : Nat) (m : SyncMessage) : Bool :=
  m.domain.toNat == s.cfg.gptpDomain && s.uplinkUp u && (u != 1 || s.cfg.u1Enabled)

/-- SYNC_RECEIVED (R29, R33): a Sync of the configured domain measures the offset. A two-step Sync without its Follow_Up and
one of an interval that the module does not support measure nothing. -/
def syncEffect (u : Nat) (m : SyncMessage) (s : State) : State :=
  let s := if s.uplinkUp u then heardOn u (if m.twoStep && m.followUp.isSome then 2 else 1) s else s
  match syncStamp m, syncIntervalNs m with
  | some p, some interval =>
    if !s.hearsSync u m then s
    else evalTime (u + 1) (setGptp u (fun g => g.synced (s.syncOffset u p m.rxSub) m interval (s.sys.opNs + m.rxSub)) s)
  | _, _ => s

/-- A gPTP source has had no valid Sync for 3 Sync intervals (R29). -/
def State.syncLost (s : State) (u : Nat) : Bool := s.sys.opNs - (s.gptp u).lastSync ≥ 3 * (s.gptp u).interval

/-- GPTP_SOURCE_TIMEOUT (R29): 3 Sync intervals have passed with no valid Sync, or the announce receipt timeout of the
network has. -/
def gptpTimeoutEffect (u : Nat) (announce : Bool) (s : State) : State :=
  if (s.gptp u).valid && (announce || s.syncLost u) then evalTime 0 (setGptp u (fun g => { g with valid := false }) s) else s

/-- PEER_DELAY_MEASUREMENT (R29). -/
def peerDelayEffect (u delayNs : Nat) (s : State) : State :=
  if !s.uplinkUp u then s
  else emit (.peerDelay u) (setGptp u (fun g => { g with peerDelay := delayNs, exchanges := g.exchanges + 1 })
    (heardOn u 1 (sentOn u 1 s)))

/-! ### gPTP on the field ports (R129) -/

/-- One two-step Sync on a field port (R129): the Sync and its Follow_Up, which carries the tool time as a PTP timestamp
(R27). -/
def sendSync (n : Nat) (s : State) : State :=
  if s.portSends n then
    emit (.followUp n (s.time.syncSeq % 65536) (s.toolNs / 1000000000) (s.toolNs % 1000000000))
      (emit (.sync n (s.time.syncSeq % 65536)) s)
  else s

/-- FIELD_SYNC_SEND: one two-step Sync on every linked port. -/
def fieldSyncEffect (s : State) : State :=
  let t := forN 48 sendSync s
  { t with time.syncSent := s.time.syncSent + 1, time.syncSeq := s.time.syncSeq + 1 }

/-- The gPTP ports that answer a peer delay request: a linked field port (R129), and U0 and U1 as end station (R29). -/
def State.answersPdelay (s : State) : PortId → Option Nat
  | .field n => if s.portSends n then some n else none
  | .uplink u => if u.val < 2 && s.uplinkUp u && (u.val != 1 || s.cfg.u1Enabled) then some (48 + u) else none
  | .service => none

/-- PDELAY_REQUEST is answered (R29, R129). -/
def pdelayEffect (p : PortId) (s : State) : State :=
  match s.answersPdelay p with
  | some n =>
    let s := emit (.pdelayResponse n) { s with time.pdelay := s.time.pdelay.upd n 0 (· + 1) }
    match p with | .uplink u => heardOn u 1 (sentOn u 1 s) | _ => s
  | none => s

/-! ### Halyard received (R46 to R48) -/

/-- The unit listens to HAL_TICK: a FOLLOWER, or a BACKUP_MASTER that does not drive. -/
def State.listens (s : State) : Bool := s.cfg.timeRole ≥ 2 && !s.time.driving

/-- The fields of a frame's positions 1 to 95: tick index, T, unit, time state and CRC (R46). -/
structure HalFrame where
  tick : Nat
  period : Nat
  unit : Nat
  state : Nat
  good : Bool

def halFrame (bits : List Bool) : HalFrame :=
  let f := fun (from' n : Nat) => ofBits ((bits.drop from').take n)
  { tick := f 0 64, period := f 64 16, unit := f 80 4, state := f 84 3, good := crc8 (bits.take 87) == f 87 8 }

/-- Halyard stops being a valid source. -/
def halInvalid (s : State) : State := { s with time.halValid := false }

/-- A whole frame has come (R47); `tick` is the unit's own index of its marker. -/
def takeFrameBits (tick : Nat) (phase : Int) (s : State) : State :=
  let f := halFrame s.time.halBits.reverse
  if !f.good then s
  else
    let s := { s with time.masterUnit := f.unit, time.masterTime := f.state }
    let lead : Int := (f.tick : Int) - tick
    if f.period != s.time.periodUs then halInvalid (note 9 .halPeriodMismatch [f.period] s)
    else if s.time.halValid && lead != s.time.halTicks then halInvalid s
    else { s with time.halValid := true, time.halTicks := lead, time.halOffset := lead * s.periodNs + phase }

/-- HALYARD_EDGE (R47, R48): a driver that sees a foreign edge stops driving; a listener's phase follows the edge, which
also carries a bit of the frame. -/
def halyardEdgeEffect (e : HalEdge) (s : State) : State :=
  let s := { s with time.halEdgeAt := some s.sys.opNs }
  if s.time.driving then
    if s.cfg.timeRole = 1 then
      evalTime 0 (halInvalid (note 9 .halConflict [] { s with time.driving := false, time.conflict := true }))
    else
      note 9 .halMaster [0] { s with time.driving := false, time.halPos := none, time.halBits := [], acq.halArmOut := false,
                                     acq.armAt := none }
  else if !s.listens then s
  else
    let phase : Int := s.cfg.halDelay - e.offsetNs
    let s := { s with time.halOffset := s.time.halTicks * s.periodNs + phase }
    let s := match e.width, s.time.halPos with
      | .marker, _ => { s with time.halPos := some 0, time.halBits := [] }
      | _, none => s
      | w, some p =>
        let s := { s with time.halPos := some (p + 1),
                          time.halBits := if p < 95 then decide (w = .one) :: s.time.halBits else s.time.halBits }
        if p + 1 = 95 then takeFrameBits (s.time.tick - 95) phase s else s
    evalTime 3 s

/-- No edge has been seen for `n` base periods of operating time, which steps of tool time do not move. -/
def State.halSilent (s : State) (n : Nat) : Bool := s.time.halEdgeAt.any fun t => s.sys.opNs ≥ t + n * s.periodNs

/-- HALYARD_TIMEOUT (R47): no edge within 2·T of the last one. -/
def halyardTimeoutEffect (s : State) : State :=
  if s.listens && s.halSilent 2 then
    evalTime 0 (halInvalid { s with time.halPos := none, time.halBits := [] })
  else s

/-- BACKUP_MASTER_TAKEOVER (R48): no edge for 3·T; the unit drives from the next boundary on, with HAL_ARM low. -/
def takeoverEffect (s : State) : State :=
  if s.cfg.timeRole = 2 && !s.time.driving && (s.time.halEdgeAt.isNone || s.halSilent 3) then
    evalTime 0 (note 9 .halMaster [1]
      { s with time.driving := true, time.halValid := false, time.halPos := none, time.txBits := [],
               acq.halArmOut := false, acq.armAt := none, time.halArm := false, acq.armNext := some false })
  else s

/-! ### Halyard sent (R46) -/

/-- Positions 1 to 127 of the frame of a marker tick. -/
def frameBits (marker : Nat) (s : State) : List Bool :=
  let head := bitsOf 64 marker ++ bitsOf 16 s.time.periodUs ++ bitsOf 4 s.cfg.unit ++ bitsOf 3 s.time.state.code
  head ++ bitsOf 8 (crc8 head) ++ List.replicate 32 false

/-- The pulse at the boundary of the tick that begins. -/
def driveHalyard (s : State) : State :=
  if !s.time.driving then s
  else
    let p := s.time.tick % 128
    let s := if p = 0 || s.time.txBits.isEmpty then { s with time.txBits := frameBits (s.time.tick - p) s } else s
    emit (.halTick (if p = 0 then .marker else if s.time.txBits.getD (p - 1) false then .one else .zero)) s

/-! ### The base period (R36 to R39) -/

/-- The next tick begins: the next of the grid in force, or the first of a new grid that lies ahead. Operating time goes on by
the length of the tick that ends. -/
def nextTick (s : State) : State :=
  match s.periodDue with
  | some (t, n, _) =>
    let b := s.nextBoundary
    let s := { s with sys.opNs := s.sys.opNs + (b.2 - s.toolNs) }
    { useNewGrid t n s with time.tick := b.1 }
  | none => { s with time.tick := s.time.tick + 1, sys.opNs := s.sys.opNs + s.periodNs }

/-! ### Commands of class 0x02 (R51) -/

def checkGetTime (q : Issued) (_ : State) : Bad := firstBad [lenBad q 0]
def runGetTime (_ : Issued) (s : State) : Reply :=
  say (le 8 s.toolNs ++ le 8 s.time.tick ++ le 1 s.time.state.code ++ le 1 s.time.source ++ le 2 s.time.periodUs ++
    le 1 s.time.fastN) s

/-- The state of a gPTP source in 0x02.02. -/
def State.gptpCode (s : State) (u : Nat) : Nat :=
  if u = 1 && !s.cfg.u1Enabled then 0
  else if !(s.gptp u).valid then 1 else if s.time.source = u + 1 then 3 else 2

def State.halyardCode (s : State) : Nat :=
  if s.cfg.timeRole = 0 then 0 else if s.time.driving then 4
  else if !s.time.halValid then 1 else if s.time.source = 3 then 3 else 2

def checkGetTimeDetail (q : Issued) (_ : State) : Bad := firstBad [lenBad q 0]
/-- GET_TIME_DETAIL (R51). DESIGN CHOICE (notes/assumptions/30): where the source in use is no gPTP source, grandmaster_id is the
one of U0; master_unit and master_time_state of a unit that is itself the driving master are those of the last good frame
it received, or 0. -/
def runGetTimeDetail (_ : Issued) (s : State) : Reply :=
  let held := if s.time.state = .holdover then (s.sys.opNs - s.time.holdSince) / 1000000 else 0
  let gm := if s.time.source = 2 then s.time.gptp1.grandmaster else s.time.gptp0.grandmaster
  say (leInt 8 s.time.offset ++ leInt 8 s.time.slew ++ leInt 8 (s.time.step.getD (s.time.stepNow.getD 0)) ++
    le 4 (sat32 held) ++ be 8 gm.toNat ++ le 1 (s.gptpCode 0) ++ le 1 (s.gptpCode 1) ++ le 1 s.halyardCode ++
    le 1 s.time.masterUnit ++ le 1 s.time.masterTime) s

/-- R38: T ÷ N is a whole number of nanoseconds, at least 5,000. -/
def divisorBad (t n : Nat) : Bool := n < 2 || n > 20 || t * 1000 % max n 1 != 0 || t * 1000 / max n 1 < 5000

/-- The index on the new grid of its first boundary (R36). -/
def effectiveTick (a old new : Nat) : Nat := ((a + 1) * old * 1000 + 1000000 + new * 1000 - 1) / (new * 1000)

def checkSetTick (q : Issued) (s : State) : Bad :=
  let t := q.u16 0
  firstBad [lenBad q 3, (t < 50 || t > 1000, .badArg), (s.paired && t < 80, .badArg), (divisorBad t (q.u8 2), .badArg),
    (s.cfg.ports.cells.any fun p => portTimingBad p.2 t, .badArg),
    (rateBad t (q.u8 2) s.cfg.stream.divisor s.cfg.fastSet.length s.cfg.excluded s, .badArg)]
/-- SET_TICK (R36, R51). DESIGN CHOICE (notes/assumptions/30): a second SET_TICK while a change is still pending replaces the pending
change. -/
def runSetTick (q : Issued) (s : State) : Reply :=
  let e := effectiveTick q.tick s.time.periodUs (q.u16 0)
  say (le 8 e) { s with cfg.periodUs := q.u16 0, cfg.fastN := q.u8 2, cfg.any := true, time.change := some (q.u16 0, q.u8 2, e) }

def checkSetTimeRole (q : Issued) (_ : State) : Bad :=
  firstBad [lenBad q 5, (q.u8 0 > 3, .badArg), (q.u8 1 > 15, .badArg), (q.u16 2 > 500, .badArg), (q.u8 4 > 1, .badArg)]

/-- The time role takes effect: a MASTER drives HAL_TICK, every other role does not; what the unit learned of Halyard is
dropped with the role (R28, R48). DESIGN CHOICE (notes/assumptions/30): a MASTER that a conflict has stopped drives again only when
a role is set anew or at a start. -/
def useTimeRole (s : State) : State :=
  let master := s.cfg.timeRole = 1
  evalTime 0 { s with
    time.driving := master, time.conflict := false, time.halValid := false, time.halPos := none, time.halBits := [],
    time.halEdgeAt := some s.sys.opNs, time.txBits := [], acq.halArmOut := master && s.acq.halArmOut,
    acq.armed := if s.cfg.timeRole = 0 || master then s.acq.armed else s.time.halArm }
def runSetTimeRole (q : Issued) (s : State) : Reply :=
  let was := s.cfg.timeRole
  let s := { s with cfg.timeRole := q.u8 0, cfg.unit := q.u8 1, cfg.halDelay := q.u16 2, cfg.freeRun := q.u8 4 == 1,
                    cfg.any := true }
  done (if was = q.u8 0 then s else useTimeRole s)

def checkSetGptp (q : Issued) (_ : State) : Bad := firstBad [lenBad q 2, (q.u8 0 > 127, .badArg), (q.u8 1 > 1, .badArg)]
/-- SET_GPTP (R29, R51). DESIGN CHOICE (notes/assumptions/30): a change of the domain makes both gPTP sources invalid at once. -/
def runSetGptp (q : Issued) (s : State) : Reply :=
  let moved := s.cfg.gptpDomain != q.u8 0
  let s := { s with cfg.gptpDomain := q.u8 0, cfg.u1Enabled := q.u8 1 == 1, cfg.any := true }
  let s := if moved then { s with time.gptp0.valid := false, time.gptp1.valid := false } else s
  done (evalTime 0 s)

def checkStepTime (q : Issued) (_ : State) : Bad := firstBad [lenBad q 0]
/-- STEP_TIME (R31, R51). DESIGN CHOICE (notes/assumptions/30): a step that is already under way to the next boundary is no longer
pending, so that STEP_TIME answers step_ns 0 although GET_TIME_DETAIL still shows it. -/
def runStepTime (_ : Issued) (s : State) : Reply := say (leInt 8 (s.time.step.getD 0)) (takePending s)

end Sys2Proof.Machine
end

