-- ==== Sys2Proof/Machine/Ecdsa.lean ====
section
/-! DEFINITION. Verification of an ECDSA P-384 signature over a SHA-384 digest (R7, R412) as FIPS 186 defines it, on
natural numbers. notes/assumptions/10. -/

namespace Sys2Proof.Machine

def p384P : Nat := 0xfffffffffffffffffffffffffffffffffffffffffffffffffffffffffffffffeffffffff0000000000000000ffffffff
def p384N : Nat := 0xffffffffffffffffffffffffffffffffffffffffffffffffc7634d81f4372ddf581a0db248b0a77aecec196accc52973
def p384B : Nat := 0xb3312fa7e23ee7e4988e056be3f82d19181d9c6efe8141120314088f5013875ac656398d8a2ed19d2a85c8edd3ec2aef
def p384G : Nat × Nat :=
  (0xaa87ca22be8b05378eb1c71ef320ad746e1d3b628ba79b9859f741e082542a385502f25dbf55296c3a545e3872760ab7,
   0x3617de4a96262c6f5d9e98bf9292dc29f8f41dbd289a147ce9da3113b5f0b8c00a60b1ce1d7e819d7a431d7c90ea0e5f)

/-- `b ^ e mod m` by the low `n` bits of `e`. -/
def powMod (m : Nat) : Nat → Nat → Nat → Nat → Nat
  | 0, _, _, acc => acc
  | n + 1, b, e, acc => powMod m n (b * b % m) (e / 2) (if e % 2 = 1 then acc * b % m else acc)

/-- The inverse modulo a prime below 2 ^ 384. -/
def invMod (m a : Nat) : Nat := powMod m 384 a (m - 2) 1

/-- Sum of two points; none is the point at infinity. -/
def p384Add : Option (Nat × Nat) → Option (Nat × Nat) → Option (Nat × Nat)
  | none, q => q
  | p, none => p
  | some (x1, y1), some (x2, y2) =>
    if x1 = x2 ∧ (y1 + y2) % p384P = 0 then none
    else
      let l := if x1 = x2 then (3 * x1 * x1 + p384P - 3) * invMod p384P (2 * y1 % p384P) % p384P
        else (y2 + p384P - y1) * invMod p384P ((x2 + p384P - x1) % p384P) % p384P
      let x := (l * l + 2 * p384P - x1 - x2) % p384P
      some (x, (l * (x1 + p384P - x) + p384P - y1) % p384P)

/-- A multiple of a point, by the low bits of the factor. -/
def p384Mul : Nat → Nat → Option (Nat × Nat) → Option (Nat × Nat) → Option (Nat × Nat)
  | 0, _, _, acc => acc
  | n + 1, k, p, acc => p384Mul n (k / 2) (p384Add p p) (if k % 2 = 1 then p384Add acc p else acc)

/-- Whether a public key of 96 bytes (x and y, most significant byte first) is a point of the curve. -/
def p384OnCurve (x y : Nat) : Bool :=
  x < p384P && y < p384P && y * y % p384P == (x * x * x + (p384P - 3) * x + p384B) % p384P

/-- Whether the 96-byte signature (r and s) under the 96-byte public key fits the digest. -/
def ecdsaVerify (key sig digest : List Byte) : Bool :=
  let x := unbe (key.take 48)
  let y := unbe (key.drop 48)
  let r := unbe (sig.take 48)
  let s := unbe (sig.drop 48)
  let z := unbe digest
  if !p384OnCurve x y || r = 0 || s = 0 || r ≥ p384N || s ≥ p384N then false
  else
    let w := invMod p384N s
    match p384Add (p384Mul 384 (z * w % p384N) (some p384G) none) (p384Mul 384 (r * w % p384N) (some (x, y)) none) with
    | none => false
    | some (px, _) => px % p384N == r

end Sys2Proof.Machine
end

