-- ==== Sys2Proof/Machine/Update.lean ====
section
/-! DEFINITION. Firmware update and settings migration (chapter 17): slots, verification, receiving an image, scheduled
activation, confirmation and return, and the commands of class 0x0E. -/

namespace Sys2Proof.Machine

/-! ### Images (R410 to R413) -/

def mib : Nat := 1048576
def maxImage : Nat := 128 * mib

def SlotState.code : SlotState → Nat
  | .empty => 0 | .partly => 1 | .received => 2 | .verified => 3 | .failed => 4 | .confirmed => 5 | .unconfirmed => 6
  | .rejected => 7 | .blocked => 8

/-- A section: kind, island_rollback, offset, length and whether its reserved fields are zero. -/
structure FwSection where
  kind : Nat
  island : Nat
  offset : Nat
  length : Nat
  clean : Bool

def sectionsOf (b : List Byte) : List FwSection :=
  (List.range (rd b 22 2)).map fun i =>
    let o := 256 + 16 * i
    { kind := rd b o 1, island := rd b (o + 2) 2, offset := rd b (o + 4) 4, length := rd b (o + 8) 4,
      clean := rd b (o + 1) 1 == 0 && rd b (o + 12) 4 == 0 }

/-- The header fields of an image. -/
def headerOf (b : List Byte) : ImageHeader :=
  let four := (sectionsOf b).find? fun x => x.kind == 4
  { version := rd b 8 4, rollback := rd b 12 2, mirror := rd b 14 2, mirrorMin := rd b 16 2, settings := rd b 18 2,
    settingsMin := rd b 20 2, len := rd b 24 4, crc := crc32c b, island := (four.map (·.island)).getD 0,
    hasIsland := four.isSome }

/-- Two sections share no byte. -/
def apart (x y : FwSection) : Bool := x.offset + x.length ≤ y.offset || y.offset + y.length ≤ x.offset

/-- Check 1: magic, format, header_len, counts, image_len, and reserved fields zero. -/
def headerBad (b : List Byte) : Bool :=
  let n := rd b 22 2
  rd b 0 4 != 0x7E529648 || rd b 4 2 != 1 || rd b 6 2 != 256 || n < 1 || n > 16 || rd b 12 2 > 64 ||
    rd b 24 4 != b.length || b.length > maxImage || b.length < 256 + 16 * n + 96 ||
    ((b.drop 129).take 127).any (· != 0) ||
    (sectionsOf b).any fun x =>
      !x.clean || x.kind < 1 || x.kind > 5 || (if x.kind = 4 then x.island > 64 else x.island != 0)

/-- Check 2: every section inside the image, none overlapping, exactly one of kind 1. -/
def sectionsBad (b : List Byte) : Bool :=
  let l := sectionsOf b
  l.any (fun x => x.offset + x.length > b.length) ||
    l.zipIdx.any (fun x => (l.drop (x.2 + 1)).any fun y => !apart x.1 y) ||
    (l.filter fun x => x.kind == 1).length != 1

/-- Check 3: the public key's digest is the boot key hash of the fuses. -/
def keyBad (hash : BitVec 384) (b : List Byte) : Bool := unle (sha384 ((b.drop 32).take 97)) != hash.toNat

/-- Check 4: the signature over the image but for its last 96 bytes. -/
def signatureBad (b : List Byte) : Bool :=
  rd b 32 1 != 4 || !ecdsaVerify ((b.drop 33).take 96) (b.drop (b.length - 96)) (sha384 (b.take (b.length - 96)))

/-- The first of checks 1 to 4 that an image fails, or 0. -/
def imageReason (hash : BitVec 384) (b : List Byte) : Nat :=
  if headerBad b then 1 else if sectionsBad b then 2 else if keyBad hash b then 3 else if signatureBad b then 4 else 0

/-- Check 5 fails: an index below its rollback counter. -/
def State.rolledBack (s : State) (h : ImageHeader) : Bool :=
  h.rollback < s.sys.fuses.rollbackModule || (h.hasIsland && h.island < s.sys.fuses.rollbackIsland)

/-- The first failing check of a slot, or 0 (R412). -/
def State.slotReason (s : State) (x : FwSlot) : Nat :=
  if x.reason != 0 then x.reason else if s.rolledBack x.header then 5 else 0

/-- A slot that holds no whole image. -/
def FwSlot.hollow (x : FwSlot) : Bool := x.state = .empty || x.state = .partly

/-! ### Receiving an image (R414, R415) -/

/-- The number of blocks of the image being received, and the length of one of them. -/
def State.stageCount (s : State) : Nat := (s.upd.stageLen + mib - 1) / mib
def State.blockLen (s : State) (i : Nat) : Nat := min mib (s.upd.stageLen - i * mib)

/-- Offset of the first byte of the first block not yet committed. -/
def State.committed (s : State) : Nat :=
  match (List.range s.stageCount).find? fun i => !s.upd.stageBlocks.contains i with
  | some i => i * mib
  | none => s.upd.stageLen

def eraseStage (s : State) : State :=
  { s with upd.stage := {}, upd.stageLen := 0, upd.stageHash := [], upd.stageData := {}, upd.stageBlocks := [] }

/-- Blocks of which every byte has come are committed; with the last one STAGE is RECEIVED. -/
def commitBlocks (s : State) : State :=
  let full := fun (i : Nat) => (List.range (s.blockLen i)).all fun j => s.upd.stageData.has (i * mib + j)
  let blocks := (List.range s.stageCount).filter fun i => s.upd.stageBlocks.contains i || full i
  let s := { s with upd.stageBlocks := blocks }
  if blocks.length = s.stageCount && s.upd.stage.state = .partly then
    let b := s.upd.stageData.range 0 s.upd.stageLen 0
    { s with upd.stage := { state := .received, header := headerOf b, bytes := b } }
  else s

/-- A restart loses the bytes of blocks not committed (R432). -/
def keepCommitted (s : State) : State :=
  { s with upd.stageData := ⟨s.upd.stageData.cells.filter fun x => s.upd.stageBlocks.contains (x.1 / mib)⟩ }

/-- The state of STAGE after a verification, with its reason. -/
def judgeStage (s : State) : Nat × State :=
  let b := s.upd.stage.bytes
  let first := if sha384 b != s.upd.stageHash then 6 else imageReason s.sys.fuses.bootKeyHash b
  let reason := if first != 0 then first else if s.rolledBack s.upd.stage.header then 5 else 0
  (reason, { s with upd.stage.state := if reason = 0 then .verified else .failed,
                    upd.stage.reason := if reason = 5 then 0 else reason })

/-! ### Readiness and schedule (R417 to R420, R430) -/

/-- Two mirror schemas with the lowest that each firmware pairs with are compatible (R430). -/
def schemasFit (a aMin b bMin : Nat) : Bool := a == b || (if a < b then a ≥ bMin else b ≥ aMin)

def popcount (n : Nat) : Nat := ((List.range 16).filter fun i => n.testBit i).length

/-- The defer reason of R420 that stands against readiness, or 0 (R418). -/
def State.notReady (s : State) (members : Nat) : Nat :=
  let h := s.upd.stage.header
  let peerIn := s.par.peerInfo.isSome && members.testBit s.par.peerUnit
  let fits := match s.par.peerInfo with
    | some p => schemasFit h.mirror h.mirrorMin p.schema.toNat p.compatMin.toNat
    | none => false
  if s.upd.stage.state != .verified then 1
  else if h.settingsMin > s.upd.schema then 8
  else if s.paired && !peerIn && !fits then 7
  else if popcount members > 1 && !s.synced then 9
  else 0

def State.deadline (s : State) (x : Schedule) : Nat := x.at_ - s.ticksOfMs 500

/-- A member that does not proceed ends its schedule with an audit record of the reason (R420). -/
def deferActivation (rank reason : Nat) (s : State) : State :=
  note rank .deferral [reason] { s with upd.schedule := none, upd.lastDefer := reason }

/-- Readiness at and after the deadline tick (R419). -/
def trackReady (s : State) : State :=
  match s.upd.schedule with
  | none => s
  | some x =>
    if s.time.tick < s.deadline x || x.proceeding then s
    else
      let ready := s.notReady x.members.toNat = 0
      { s with upd.schedule := some { x with judged := true, readyNow := ready && (x.readyNow || !x.judged) } }

/-- ACTIVATION_DEADLINE. -/
def activationDeadlineEffect (s : State) : State := trackReady s

/-- A sequence RUNNING, ABORTING or held (R419). The hold that every sequence carries in LOCKOUT is none, since a unit may proceed
there. -/
def State.seqHinders (s : State) (q : Sequence) : Bool :=
  q.running || q.allHold || q.cmdHold || q.pauseHold || (q.safetyHold && s.sys.mode != .lockout)

/-- Why a unit does not proceed at the boundary of tick a_t − 1, or 0 (R419). -/
def State.whyDefer (s : State) (x : Schedule) : Nat :=
  let bad := s.notReady x.members.toNat
  if bad != 0 then bad
  else if !x.judged || !x.readyNow || (popcount x.members.toNat > 1 && !x.groupOk) then 2
  else
    let m := s.sys.mode
    if !(m = .service || m = .configure || m = .idle || m = .standby || m = .lockout) then
      if m = .run || m = .hold then 3 else 4
    else if m != .standby && (List.range 16).any fun i => s.seqHinders (s.seq i) then 3
    else 0

/-- ACTIVATION_PROCEED (R419): at the boundary of tick a_t − 1. -/
def activationProceedEffect (s : State) : State :=
  match s.upd.schedule with
  | none => s
  | some x =>
    if x.proceeding || s.time.tick + 1 != x.at_ then s
    else match s.whyDefer x with
      | 0 => { s with upd.schedule := some { x with proceeding := true } }
      | r => deferActivation 0 r s

/-- ACTIVATION_RESTART (R419, R420): at the boundary of a_t a unit that proceeds restarts, unless it has been promoted or,
on Halyard, has stamped no HAL_ACT of a master of the group. A permanent fault ends the schedule (R434). -/
def activationRestartEffect (s : State) : State :=
  match s.upd.schedule with
  | none => s
  | some x =>
    if !x.proceeding || s.time.tick != x.at_ then s
    else if s.sys.mode = .halt then note 0 .scheduleEnded [] { s with upd.schedule := none }
    else if s.effMode = .handover then deferActivation 0 6 s
    else if s.cfg.timeRole != 0 && !s.time.driving && x.members.getLsbD s.time.masterUnit && s.time.masterUnit != s.cfg.unit &&
        s.time.halAct != some (x.at_ - 1) then deferActivation 0 5 s
    else
      let s := note 0 .updateStep [0x0E20, 4] (giveUp 0 2 s)
      orderReset 6 { s with upd.schedule := none, upd.journal := some 0, upd.auto := x.auto, upd.autoHold := x.hold }

/-- HAL_ACT_DRIVE (R420): the unit that drives HAL_TICK, while it proceeds in a group. -/
def halActDriveEffect (s : State) : State :=
  match s.upd.schedule with
  | some x =>
    if x.proceeding && s.time.driving && s.time.tick + 1 = x.at_ then
      emit (.halAct (s.periodNs / 4) (3 * s.periodNs / 4)) s
    else s
  | none => s

/-- HAL_ACT_EDGE (R49, R420): a follower stamps the rising edge. -/
def halActEdgeEffect (s : State) : State :=
  if s.cfg.timeRole != 0 && !s.time.driving then { s with time.halAct := some s.time.tick } else s

/-! ### The activation copy (R421) and the start of a slot (R408, R424, R426) -/

/-- The bytes of the island firmware section of an image. -/
def islandSection (b : List Byte) : List Byte :=
  match (sectionsOf b).find? fun x => x.kind == 4 with
  | some x => (b.drop x.offset).take x.length
  | none => []

/-- ACTIVATION_COPY_COMPLETE (R421, R426): RUN has become FALLBACK and STAGE has become RUN; the half of the settings that
the old RUN used is FALLBACK's, and the new firmware's half is not written yet. The module restarts into BOOT. -/
def activationCopyEffect (s : State) : State :=
  if s.sys.mode != .activate then s
  else
    let old := s.upd.run
    let new := s.upd.stage
    let half := if s.upd.slot = 1 then s.upd.other else s.cfg
    let differs := new.header.hasIsland && islandSection new.bytes != islandSection old.bytes
    let s := eraseStage { s with
      upd.fallback := old, upd.run := { new with state := .unconfirmed }, upd.starts := 0, upd.window := none,
      upd.goodSince := none, upd.journal := none, upd.other := half, cfg := {}, upd.sourceDigest := 0,
      upd.otherSchema := (if s.upd.slot = 1 then s.upd.otherSchema else s.upd.schema),
      upd.otherDigest := (if s.upd.slot = 1 then s.upd.otherDigest else s.upd.sourceDigest), upd.slot := 0, upd.migrate := true,
      sys.firmwareDefer := s.sys.firmwareDefer || differs }
    orderReset 6 s

/-- RUN becomes REJECTED with an audit record (R424). -/
def rejectRun (rank : Nat) (s : State) : State :=
  note rank .rejected [s.upd.run.header.version] { s with upd.run.state := .rejected, upd.window := none }

/-- The settings half in use follows the slot started (R425): RUN and FACTORY read one half, FALLBACK the other. -/
def useHalf (slot : Nat) (s : State) : State :=
  if (s.upd.slot = 1) = (slot = 1) then { s with upd.slot := slot }
  else
    { s with upd.slot := slot, cfg := s.upd.other, upd.other := s.cfg, upd.schema := s.upd.otherSchema,
             upd.otherSchema := s.upd.schema, upd.sourceDigest := s.upd.otherDigest, upd.otherDigest := s.upd.sourceDigest }

/-- A start of the UNCONFIRMED RUN is counted; the third before its window has opened rejects it (R424). -/
def countStart (s : State) : State :=
  if s.upd.run.state != .unconfirmed || s.slotReason s.upd.run != 0 then s
  else
    let s := { s with upd.starts := s.upd.starts + 1 }
    if s.upd.starts ≥ 3 && s.upd.window.isNone then rejectRun 0 s else s

/-- The slot that starts: RUN, else FALLBACK, else FACTORY, else none (R408, R412, R413). -/
def State.bootSlot (s : State) : Option Nat :=
  if s.upd.run.state != .rejected && !s.upd.run.hollow && s.slotReason s.upd.run = 0 then some 0
  else if !s.upd.fallback.hollow && s.slotReason s.upd.fallback = 0 then some 1
  else if !s.upd.factory.hollow && s.upd.factory.reason = 0 then some 2
  else none

/-- A FALLBACK below the counter is BLOCKED (R413). -/
def blockFallback (s : State) : State :=
  if !s.upd.fallback.hollow && s.upd.fallback.reason = 0 && s.rolledBack s.upd.fallback.header then
    { s with upd.fallback.state := .blocked }
  else s

/-- What BOOT does with the slots: STAGE found RECEIVED is verified again (R432), and a slot is chosen. -/
def bootSlots (s : State) : Option Nat × State :=
  let s := if s.upd.stage.state = .received then
      let r := judgeStage s
      note 0 .updateStep [0x0E12, r.1] r.2
    else s
  let s := blockFallback (countStart s)
  match s.bootSlot with
  | some k => (some k, useHalf k s)
  | none => (none, s)

/-- SETTINGS_MIGRATION (R426, R427): the new firmware has built its half, or has found an item that it cannot convert and
goes back to FALLBACK. -/
def migrationEffect (load : State → State) (failing : Option U32) (s : State) : State :=
  if !s.upd.migrate || s.upd.slot != 0 || s.sys.mode = .boot || s.sys.mode = .activate then s
  else
    let low := s.upd.otherSchema < s.upd.run.header.settingsMin
    match (if low then some (failing.getD 0) else failing) with
    | some item =>
      orderReset 6 (rejectRun 0 (note 0 .migrationFailed [item.toNat] { s with upd.migrate := false }))
    | none =>
      load { s with cfg := s.upd.other, upd.migrate := false, upd.schema := s.upd.run.header.settings,
                    upd.sourceDigest := Config.settingsDigest s.upd.other }

/-! ### Confirmation (R422 to R424) -/

/-- Modes in which RUN can be confirmed. -/
def State.confirmMode (s : State) : Bool := s.sys.mode.live || s.sys.mode = .standby

/-- RUN is running and UNCONFIRMED. -/
def State.onTrial (s : State) : Bool := s.upd.slot = 0 && s.upd.run.state = .unconfirmed

/-- The window opens at the first IDLE or STANDBY, and the time at grade 5 or more is kept. -/
def trackWindow (s : State) : State :=
  if !s.onTrial then s
  else
    let open' := s.upd.window.isNone && (s.sys.mode = .idle || s.sys.mode = .standby)
    let w := if open' then some s.sys.opNs else s.upd.window
    let good := w.isSome && s.confirmMode && s.gradeNow ≥ 5
    { s with upd.window := w, upd.goodSince := if good then some (s.upd.goodSince.getD s.sys.opNs) else none }

/-- Confirmation (R423): the counters rise to the image's indices, RUN is CONFIRMED, and an audit record is written. -/
def confirmRun (rank : Nat) (s : State) : State :=
  let h := s.upd.run.header
  let s := { s with
    sys.fuses.rollbackModule := max s.sys.fuses.rollbackModule h.rollback,
    sys.fuses.rollbackIsland := if h.hasIsland then max s.sys.fuses.rollbackIsland h.island else s.sys.fuses.rollbackIsland,
    upd.run.state := .confirmed, upd.window := none, upd.starts := 0, upd.goodSince := none }
  blockFallback (note rank .confirmed [h.version] s)

/-- The condition of automatic confirmation. -/
def State.autoDue (s : State) : Bool :=
  s.onTrial && s.upd.auto && s.upd.window.isSome &&
    s.upd.goodSince.any fun t => s.sys.opNs - t ≥ s.upd.autoHold * 1000000000

/-- AUTO_CONFIRM. -/
def autoConfirmEffect (s : State) : State := if s.autoDue then confirmRun 8 s else s

def windowNsLong : Nat := 600000000000

/-- CONFIRMATION_WINDOW_CLOSE (R424, R434): a confirmation due in the same tick comes first. -/
def windowCloseEffect (s : State) : State :=
  if !s.upd.window.any (fun w => s.sys.opNs - w ≥ windowNsLong) || s.upd.run.state != .unconfirmed then s
  else if s.autoDue then confirmRun 8 s else rejectRun 8 s

/-! ### Island firmware (R421) -/

/-- ISLAND_FIRMWARE_RESTART: the island checks its new part and starts it in lock-out, or stays as it is with an audit
record of the failed check. -/
def islandFirmwareEffect (s : State) : State :=
  if !s.sys.firmwareDefer then s
  else
    let run := s.upd.run
    let s := { s with sys.firmwareDefer := false }
    let check := if run.reason != 0 then run.reason else if run.header.island < s.sys.fuses.rollbackIsland then 5 else 0
    if check != 0 then note 1 .islandFirmware [check] s
    else
      note 1 .islandFirmware [0]
        (islandWatchdogEffect { s with saf.firmware := BitVec.ofNat 32 (Config.unstated 64 [run.header.crc]) })

/-! ### Commands of class 0x0E (R416, R435) -/

def entry24 (x : FwSlot) : List Byte :=
  let h := x.header
  le 1 x.state.code ++ [0] ++ le 2 h.rollback ++ le 4 h.version ++ le 2 h.mirror ++ le 2 h.mirrorMin ++ le 2 h.settings ++
    le 2 h.settingsMin ++ le 4 h.len ++ le 4 h.crc

/-- The schedule field of 0x0E.01. -/
def State.scheduleCode (s : State) : Nat :=
  match s.upd.schedule with
  | none => 0
  | some x =>
    if x.proceeding then 4
    else if s.notReady x.members.toNat != 0 || (x.judged && !x.readyNow) then 1
    else if x.groupOk then 3 else 2

/-- Milliseconds left of the confirmation window. -/
def State.windowLeft (s : State) : Nat :=
  match s.upd.window with
  | none => 0xFFFFFFFF
  | some w => (windowNsLong - (s.sys.opNs - w)) / 1000000

def State.confirmCode (s : State) : Nat :=
  match s.upd.run.state with
  | .unconfirmed => 1 | .rejected => 2 | _ => 0

def checkGetUpdateStatus (q : Issued) (_ : State) : Bad := firstBad [lenBad q 0]
def runGetUpdateStatus (_ : Issued) (s : State) : Reply :=
  say (le 1 s.upd.slot ++ le 1 s.confirmCode ++ le 4 s.windowLeft ++ le 1 (sat8 s.upd.starts) ++
    le 1 s.sys.fuses.rollbackModule ++ le 1 s.sys.fuses.rollbackIsland ++ le 4 s.committed ++ le 1 s.scheduleCode ++
    le 8 ((s.upd.schedule.map (·.at_)).getD 0) ++ le 1 s.upd.lastDefer ++
    [s.upd.run, s.upd.stage, s.upd.fallback, s.upd.factory].flatMap entry24) s

def checkStageBegin (q : Issued) (s : State) : Bad :=
  firstBad [lenBad q 52, (q.u32 0 = 0 || q.u32 0 > maxImage, .badArg), (s.upd.schedule.isSome, .busy)]
def runStageBegin (q : Issued) (s : State) : Reply :=
  let same := s.upd.stage.state = .partly && s.upd.stageLen = q.u32 0 && s.upd.stageHash = q.bytes 4 48
  let s := if same then s
    else { eraseStage s with upd.stage := { state := .partly }, upd.stageLen := q.u32 0, upd.stageHash := q.bytes 4 48 }
  say (le 4 s.committed) s

def checkStageData (q : Issued) (s : State) : Bad :=
  firstBad [(q.len < 6, .badArg), lenBad q (6 + q.u16 4), (q.u16 4 < 1 || q.u16 4 > 4064, .badArg),
    (!(s.upd.stage.state = .partly || s.upd.stage.state = .received), .badArg),
    (q.u32 0 + q.u16 4 > s.upd.stageLen, .badArg)]
def runStageData (q : Issued) (s : State) : Reply :=
  let s := commitBlocks { s with upd.stageData := s.upd.stageData.putList (q.u32 0) (q.bytes 6 (q.u16 4)) }
  let s := if s.upd.stage.state = .received then
      let b := s.upd.stageData.range 0 s.upd.stageLen 0
      { s with upd.stage.bytes := b, upd.stage.header := headerOf b }
    else s
  say (le 4 s.committed) s

def checkStageVerify (q : Issued) (_ : State) : Bad := firstBad [lenBad q 0]
def runStageVerify (_ : Issued) (s : State) : Reply := acceptedReply s

/-- The end of 0x0E.12 (R412, R435). -/
def stageVerifyDone (s : State) : Status × List Byte × State :=
  if s.upd.stage.hollow then (.badArg, [7], s)
  else
    let r := judgeStage s
    if r.1 = 0 then (.done, entry24 r.2.upd.stage, r.2) else (.badArg, le 1 r.1, r.2)

def checkStageDiscard (q : Issued) (s : State) : Bad := firstBad [lenBad q 0, (s.upd.schedule.isSome, .busy)]
def runStageDiscard (_ : Issued) (s : State) : Reply := done (eraseStage s)

/-- The activation tick of a tool time: the first boundary at or after it. -/
def State.activationTick (s : State) (t : Nat) : Nat := (t + s.periodNs - 1) / s.periodNs

def checkScheduleActivation (q : Issued) (s : State) : Bad :=
  let lead := (s.activationTick (q.u64 0) - s.time.tick) * s.periodNs
  firstBad [lenBad q 17, (lead < 1000000000 || lead > 86400000000000, .badArg), (s.upd.schedule.isSome, .badArg),
    (!(q.u16 12).testBit s.cfg.unit, .badArg), (q.u8 14 > 1, .badArg),
    (q.u8 14 = 1 && (q.u16 15 < 10 || q.u16 15 > 540), .badArg)]
def runScheduleActivation (q : Issued) (s : State) : Reply :=
  let x : Schedule := { at_ := s.activationTick (q.u64 0), group := BitVec.ofNat 32 (q.u32 8),
                        members := BitVec.ofNat 16 (q.u16 12), auto := q.u8 14 == 1, hold := q.u16 15 }
  let r := s.notReady (q.u16 12)
  say (le 8 x.at_ ++ leBool (r == 0) ++ le 1 r) { s with upd.schedule := some x }

def checkGroupReady (q : Issued) (s : State) : Bad :=
  firstBad [lenBad q 6, (!s.upd.schedule.any (fun x => x.group.toNat == q.u32 0), .badArg)]
def runGroupReady (q : Issued) (s : State) : Reply :=
  match s.upd.schedule with
  | none => done s
  | some x =>
    let all := x.members &&& BitVec.ofNat 16 (q.u16 4) == x.members
    let ok := x.groupOk || (all && s.time.tick ≤ s.deadline x)
    done { s with upd.schedule := some { x with groupOk := ok } }

def checkCancelActivation (q : Issued) (s : State) : Bad := firstBad [lenBad q 0, (s.proceeding, .busy)]
def runCancelActivation (_ : Issued) (s : State) : Reply :=
  done (if s.upd.schedule.isSome then deferActivation 8 10 s else s)

def checkUpdateConfirm (q : Issued) (s : State) : Bad :=
  firstBad [lenBad q 0, (s.upd.run.state != .unconfirmed, .badArg), (!s.upd.window.any (fun w => s.sys.opNs - w < windowNsLong), .badArg), (s.gradeNow < 5, .badArg)]
def runUpdateConfirm (_ : Issued) (s : State) : Reply := done (confirmRun 8 s)

def checkReject (q : Issued) (s : State) : Bad := firstBad [lenBad q 0, (s.upd.run.state != .unconfirmed, .badArg)]
/-- 0x0E.31 (R424): RUN is REJECTED and the module restarts 10 ms after its DONE. -/
def runReject (_ : Issued) (s : State) : Reply :=
  let s := rejectRun 8 s
  done { s with sys.restart := some (5, s.sys.opNs + 10000000) }

end Sys2Proof.Machine
end

