-- ==== Sys2Proof/Machine/Modes.lean ====
section
/-! DEFINITION. Operating modes (R73 to R75): what each entry does, LOCKOUT and HALT; start of the module and the
whole-module reset (R436 to R442, R23); and the commands of class 0x01 (R76). -/

namespace Sys2Proof.Machine

/-! ### Entries to modes (R74) -/

/-- Loops, programs and scheduled starts end with the modes in which they may run (R165, R255, R238). -/
def stopAll (s : State) : State := stopPrograms (stopAllLoops (forN 16 cancelStart s))

/-- Stages take at once what the mode gives them (R204). -/
def settleStages (s : State) : State := applyStages 0 s

/-- A lid below −10 °C keeps a T9648-AX warming in CONFIGURE (R438). -/
def lidCold (lidCenti : Int) : Bool := lidCenti < -1000

/-- What every entry to CONFIGURE does: uplink settings and mailbox port come into use (R143, 0x01.32), a pending step of
tool time is taken (R31), a cold T9648-AX warms (R438), and outputs go to their idle states. -/
def onConfigure (s : State) : State :=
  settleStages (takePending { s with
    mbx.udpPort := s.cfg.udpPort, fld.inUse := s.cfg.uplinks, sys.warming := lidCold s.sys.lidCenti && s.sys.fuses.screenAX })

/-- Entry to CONFIGURE. -/
def enterConfigure (rank cause : Nat) (s : State) : State := onConfigure (setMode rank .configure cause (stopAll s))

/-- The compatibility bits that the settings, or COMPAT_N while there is none, give (R484). -/
def State.compatSet (s : State) : Byte :=
  s.cfg.compat.getD (if s.sys.straps.compatN = .tied then 0x0F else 0)

/-- What comes into force as the unit leaves CONFIGURE for IDLE or SYNC: owners and formats (R83), sequence bindings
(R225), compatibility bits (R484), tasks (R255, R264) and ramps (R192). A digital input whose point is unassigned from then on
keeps VALID clear (R492). -/
def leaveConfigure (s : State) : State :=
  let s := { s with pts.inForce := s.cfg.points, sqn.bound := s.cfg.seqs, sys.compat := s.compatSet }
  let s := forN 64 (fun d s =>
    if (s.ownerNow (208 + d)).owner = 0 && !(s.cfg.dio.getD d {}).output then updPoint (208 + d) (fun e => { e with valid := false }) s
    else s) s
  startRamps (startPrograms s)

/-- Entry to IDLE from CONFIGURE (R74); `role` is the pair role that goes with it. -/
def enterIdle (role : PairMode) (cause : Nat) (s : State) : State :=
  leaveConfigure (setMode 8 .idle cause { s with par.role := role })

/-- Entry to SYNC from CONFIGURE (R397). -/
def enterSync (cause : Nat) (s : State) : State := leaveConfigure (toSync 8 cause s)

/-- Entry to SERVICE (R74). -/
def enterService (cause : Nat) (s : State) : State :=
  let s := giveUp 8 8 s
  let down := if s.sys.serviceLink then none else some s.sys.opNs
  settleStages (setMode 8 .service cause (stopAll { s with sys.serviceUsed := s.sys.opNs, sys.serviceDown := down }))

/-- The settings store is read again as SERVICE is left (R74, R488): what follows it from there on; what a rule lets come into use
at an entry to CONFIGURE or IDLE, or at a start, does so there. -/
def reloadSettings (s : State) : State :=
  loadSupervision { s with mbx.bindings := s.cfg.bindings, pts.inForce := s.cfg.points, sqn.bound := s.cfg.seqs }

/-- Exit from SERVICE (R74): CONFIGURE, or LOCKOUT while the island holds a lock-out. -/
def State.afterService (s : State) : Mode := if s.inLockout then .lockout else .configure
def leaveService (rank cause : Nat) (s : State) : State :=
  if s.sys.mode != .service then s
  else
    let s := reloadSettings (endSession s)
    if s.inLockout then settleStages (setMode rank .lockout cause { s with sys.lockoutFrom := .service })
    else enterConfigure rank cause s

/-- SERVICE_TIMEOUT (R74): the service link down for 10 s, or 600 s without a request on mailboxes 0 to 3. -/
def serviceTimeoutEffect (s : State) : State :=
  let down := s.sys.serviceDown.any fun t => s.sys.opNs - t ≥ 10000000000
  let idle := s.sys.opNs - s.sys.serviceUsed ≥ 600000000000
  if down || idle then leaveService 9 (EventKind.code (if down then .portEvent else .modeChange)) s else s

/-- SERVICE_LINK_DOWN (R74). -/
def serviceDownEffect (s : State) : State :=
  { s with sys.serviceLink := false, sys.serviceDown := if s.sys.serviceLink then some s.sys.opNs else s.sys.serviceDown }

/-! ### LOCKOUT at rank 1 (R74, R75, R357, R359) -/

/-- The modes from which a lock-out of the island takes the module into LOCKOUT. -/
def Mode.locks (m : Mode) : Bool := !(m = .boot || m = .activate || m = .lockout || m = .halt)

/-- The module follows a lock-out. -/
def enterLockout (s : State) : State :=
  if s.sys.mode.locks then
    let s := if s.sys.mode = .service then endSession s else s
    setMode 1 .lockout (EventKind.code .safetyFault) { s with sys.lockoutFrom := s.sys.mode }
  else s

/-- The module follows the end of a lock-out: the safety hold of each sequence becomes a hold by command. -/
def exitLockout (s : State) : State :=
  if s.sys.mode != .lockout then s
  else
    let cause := EventKind.code .resetAccepted
    let from' := s.sys.lockoutFrom
    let s := lockoutHolds s
    match from' with
    | .service | .configure => enterConfigure 1 cause s
    | .sync | .standby | .handover => toSync 1 cause (setMode 1 .sync cause s)
    | _ =>
      let busy := (List.range 16).any fun i => (s.seq i).running
      seqMode 1 cause (setMode 1 (if busy then .hold else .idle) cause s)

/-- The lock-outs that the mode has yet to follow, in order; those raised in BOOT and ACTIVATE wait for CONFIGURE. -/
def followLocks (s : State) : State :=
  if s.sys.mode = .boot || s.sys.mode = .activate then s
  else
    let l := s.saf.lockEvents
    forAll l (fun on s => if on then enterLockout s else exitLockout s) { s with saf.lockEvents := [] }

/-! ### HALT (R457, R458) -/

/-- HALT is entered with a cause. -/
def enterHalt (cause : Nat) (s : State) : State :=
  let s := note 2 .haltCause [cause] (giveUp 2 2 { s with sys.haltDue := 0 })
  if s.sys.mode = .halt then s
  else
    let s := setMode 2 .halt (EventKind.code .haltCause) (stopAll (endSession { s with sys.haltCause := cause }))
    settleStages { s with par.role := if s.par.role = .givenUp then .givenUp else .unpaired, par.split := false }

/-! ### Whole-module reset and start (R23, R436 to R442, R71, R327) -/

/-- A whole-module reset begins: its entry in the history and the escalation of R445, the count of pending records is
saved (R327), an activation schedule ends (R417), and all SRAM and DRAM is cleared. MRAM, NAND, fuses, the island and the
claim composer stay as they are: what the island forces off stays forced off (R14), and every retirement stands (R456). -/
def clearModule (cause : Nat) (s : State) : State :=
  let ends := s.upd.schedule.isSome
  let s := endSession (keepCommitted (enterReset 0 0 cause { s with upd.schedule := none }))
  let own := cause = 2 || cause = 3 || cause = 7
  let r := if own then escalate 3600 s.sys.opNs s.sys.moduleResets else (s.sys.moduleResets, false)
  (if ends then note 0 .scheduleEnded [] else id) <| showRetired <| forAll s.saf.forced (setForced · true)
  { pending := s.pending, out := s.out, cfg := s.cfg,
    sys := { s.sys with
      mode := .boot, prevMode := s.sys.mode, since := 0, lockoutFrom := .idle, compat := 0, coldHold := false,
      warming := false, nonces := [], restart := none, moduleResets := r.1, haltAtStart := s.sys.haltAtStart || r.2,
      haltDue := 0, resetDue := none, haltCause := 0, toRetire := [], supUp := true, engineUp := true, engineBack := 0,
      acqUp := true, ecc := {}, serviceLink := false, serviceDown := none, serviceUsed := s.sys.opNs,
      keyRecord := if s.sys.fuses.keySet then s.sys.keyRecord else none },
    ain := { bankDown := s.ain.bankDown },
    prg := { live := s.prg.live, shadow := s.prg.shadow, liveSeq := s.prg.liveSeq, liveSet := s.prg.liveSet,
             blocks := s.prg.blocks.filter (·.retentive) },
    acq := { spill := s.acq.spill, spillDead := s.acq.spillDead, budget := s.acq.budget },
    rcd := { seq := s.rcd.committed, committed := s.rcd.committed, general := s.rcd.general, audit := s.rcd.audit,
             auditLost := s.rcd.auditLost, atLoss := s.rcd.queue.length },
    stg := { margin := s.stg.margin }, saf := { s.saf with lockEvents := [], confirmBox := none }, shr := s.shr,
    par := { own := BitVec.ofNat 8 s.unitBit, words := s.par.words },
    upd := { s.upd with goodSince := none } }

/-- The strap lands as read at a start, with a record that names those that read neither open nor tied (R439). -/
def readStraps (lands : Straps) (s : State) : State :=
  let odd := bitsFrom 8 fun i => decide ((Straps.list lands)[i]? = some .neither)
  let s := { s with sys.lands := lands, sys.straps := lands }
  if odd = 0 then s else note 0 .strapUndefined [odd] s

/-- A line of the start-up trace: milliseconds since power-good and the name of the stage (R483). While debug_lock reads
as set the monitor prints none. -/
def traceLine (text : String) (s : State) : State :=
  let line := toString ((s.sys.opNs - s.sys.opSinceGood) / 1000000) ++ " " ++ text
  let s := { s with mon.trace := s.mon.trace ++ [line] }
  if s.debugLocked then s else emit (.monitor (line ++ "\r\n")) s

def strapText (x : Straps) : String :=
  let d := fun (v : StrapLevel) => if v = .tied then "1" else "0"
  "STRAPS unit_b=" ++ d x.unitB ++ " almsel=" ++
    String.join ((List.range 6).map fun b => d (x.almsel.getD (5 - b) .openLand)) ++ " compat_n=" ++ d x.compatN

/-- A start of the module (R71, R74, R319): the start count rises, BOOT is entered, straps and lid are read, and
MODULE_START is written. -/
def startModule (cause : Nat) (s : State) : State :=
  let s := { s with sys.startCount := s.sys.startCount + 1, sys.inReset := false, sys.powered := true, sys.mode := .boot,
                    sys.cause := EventKind.code .moduleStart,
                    sys.coldHold := lidCold s.sys.lidCenti && !s.sys.fuses.screenAX }
  let s := note 0 .moduleStart [s.sys.startCount, cause % 256, s.rcd.atLoss, s.rcd.committed - 1] s
  let s := note 0 .modeChange [s.sys.prevMode.code, 0, EventKind.code .moduleStart] s
  let s := readStraps s.sys.lands s
  { traceLine (strapText s.sys.straps) s with par.own := BitVec.ofNat 8 s.unitBit }

/-- A whole-module reset with the start that follows it at once. A module in HALT leaves it only by a power cycle
(R458). -/
def moduleReset (cause : Nat) (s : State) : State :=
  if s.sys.mode = .halt then { s with sys.resetDue := none } else startModule cause (clearModule cause s)

/-- POWER_GOOD (R436): the module and its island start (R335, R437). A power cycle ends every retirement but those of DRAM pages (R456, R451). -/
def powerGoodEffect (lands : Straps) (r : StartReading) (s : State) : State :=
  if s.sys.powered then s
  else
    let s := { s with
      sys.powerCycles := s.sys.powerCycles + 1, sys.opSinceGood := s.sys.opNs, sys.lands := lands, sys.lidCenti := r.lidCenti,
      sys.memoryFails := !r.memoryReady,
      sys.retired := s.sys.retired.filter (fun x => resKind x.resource == 11), ain.bankDown := [], mon.trace := [] }
    startModule 3 (traceLine "POWER_GOOD" (mirrorIsland (islandRestart s)))

/-- VIN_BELOW_17V (R327, R436, R391). -/
def below17Effect (s : State) : State :=
  if s.sys.inReset || !s.sys.powered then s else giveUp 2 3 { s with rcd.atLoss := s.rcd.queue.length }

/-- VIN_BELOW_16V (R436, R440): the module is held in reset until power-good. -/
def below16Effect (s : State) : State :=
  if !s.sys.powered then s
  else driveStages { clearModule 3 s with sys.inReset := true, sys.powered := false }

/-- RESET_N_LOW (R440): a pulse shorter than 10 µs is ignored. -/
def resetLowEffect (heldNs : Nat) (s : State) : State :=
  if heldNs < 10000 || s.sys.inReset then s else moduleReset 2 s

/-- DELAYED_RESTART (R440, R76): the reset that 0x01.16 or 0x0E.31 ordered, 10 ms after its DONE. -/
def delayedRestartEffect (s : State) : State :=
  match s.sys.restart with
  | some (cause, due) => if s.sys.opNs + s.periodNs ≥ due then orderReset cause { s with sys.restart := none } else s
  | none => s

/-! ### BOOT (R74, R408, R424, R438, R445, R483) -/

/-- The settings in use follow the store (R488): at a start, and once migration has written the half. -/
def loadSettings (s : State) : State :=
  let s := { s with
    mbx.bindings := s.cfg.bindings, pts.inForce := s.cfg.points, sqn.bound := s.cfg.seqs, sys.compat := s.compatSet,
    time.tick := s.toolNs / (s.cfg.periodUs * 1000), time.periodUs := s.cfg.periodUs, time.fastN := s.cfg.fastN,
    par.role := .unpaired }
  startStream (loadSupervision (newTickAnalogue (useTimeRole s)))

/-- The lock-out an island holds as the module comes up is followed at the first boundary (R337, R429). -/
def lockAtStart (s : State) : State :=
  if s.inLockout && s.saf.lockEvents.isEmpty then { s with saf.lockEvents := [true] } else s

def slotName : Nat → String
  | 0 => "RUN" | 1 => "FALLBACK" | _ => "FACTORY"

/-- The trace of the verification of the slots considered (R412, R483). -/
def traceSlots (k : Option Nat) (s : State) : State :=
  forN (match k with | some k => k + 1 | none => 3) (fun i s =>
    let x := if i = 0 then s.upd.run else if i = 1 then s.upd.fallback else s.upd.factory
    let bad := s.slotReason x
    traceLine ("VERIFY " ++ slotName i ++ (if some i = k || bad = 0 then "" else " " ++ toString bad)) s) s

/-- The permanent fault whose cause is still present at a start (R458): the escalation of R445, the spare pages used up
(R451) or a read-only SLC store (R453). -/
def State.standingFault (s : State) : Option Nat :=
  if s.sys.memoryFails then some 2
  else if s.sys.haltAtStart then some 3
  else if s.sys.pagesOut then some 4
  else if s.sys.slcReadOnly then some 5
  else none

/-- BOOT_COMPLETE (R74, R457, R458). -/
def bootCompleteEffect (s : State) : State :=
  if s.sys.mode != .boot || s.sys.coldHold || s.sys.inReset then s
  else match s.standingFault, s.upd.journal with
    | some cause, _ => traceLine ("HALT " ++ toString cause) (enterHalt cause { s with sys.haltAtStart := false })
    | none, some block => traceLine ("ACTIVATE " ++ toString block) (setMode 0 .activate (EventKind.code .updateStep) s)
    | none, none =>
      let r := bootSlots s
      let s := traceSlots r.1 r.2
      match r.1 with
      | none => traceLine "HALT 1" (enterHalt 1 s)
      | some _ =>
        let s := traceLine "SETTINGS" (checkCalibrations (loadSet (replayRetentive (loadSettings s))))
        let s := if s.upd.migrate then traceLine "MIGRATE" s else s
        lockAtStart (traceLine "CONFIGURE" (onConfigure (setMode 0 .configure (EventKind.code .moduleStart) s)))

/-- LID_TEMP_RECHECK (R438). -/
def lidRecheckEffect (lidCenti : Int) (s : State) : State :=
  if !s.sys.coldHold then s
  else
    let s := { s with sys.lidCenti := lidCenti }
    if lidCold lidCenti then s else note 9 .coldHold [] { s with sys.coldHold := false }

/-- LID_WARM_REACHED (R438). -/
def lidWarmEffect (s : State) : State :=
  if s.sys.warming then { s with sys.warming := false, sys.lidCenti := max s.sys.lidCenti (-1000) } else s

/-! ### Commands of class 0x01 (R76) -/

/-- The firmware version of the slot that was started. -/
def State.runningVersion (s : State) : Nat :=
  match s.upd.slot with
  | 0 => s.upd.run.header.version
  | 1 => s.upd.fallback.header.version
  | _ => s.upd.factory.header.version

/-- The ordering code (R5). -/
def State.orderingCode (s : State) : String := if s.sys.fuses.screenAX then "T9648-AX" else "T9648-A"

def checkIdentify (q : Issued) (_ : State) : Bad := firstBad [lenBad q 0]
def runIdentify (_ : Issued) (s : State) : Reply :=
  say (ascii 16 s.orderingCode ++ le 16 Config.serial.toNat ++ le 4 s.runningVersion ++ le 1 s.upd.slot ++
    le 4 s.sys.startCount ++ le 4 s.sys.powerCycles ++ le 8 (s.sys.opNs / 1000000 % 2 ^ 48) ++ le 1 s.cfg.unit ++
    [s.sys.compat]) s

def checkGetMode (q : Issued) (_ : State) : Bad := firstBad [lenBad q 0]
def runGetMode (_ : Issued) (s : State) : Reply :=
  let run := ((List.range 16).map s.seq).filter (·.running)
  let hold := s.sys.mode = .lockout || (List.range 16).any fun i => (s.seq i).safetyHold
  say (le 1 s.sys.mode.code ++ le 1 s.sys.prevMode.code ++ le 8 s.sys.since ++ le 2 s.sys.cause ++ le 1 run.length ++
    le 1 (run.filter (·.held)).length ++ leBool hold ++ le 1 s.par.role.code) s

def checkGetMailbox (q : Issued) (_ : State) : Bad := firstBad [lenBad q 1, (q.u8 0 > 63, .badArg)]
def runGetMailbox (q : Issued) (s : State) : Reply :=
  let m := q.u8 0
  let b := s.box m
  let g := s.binding m
  say (le 4 (s.statusWord m) ++ le 2 b.tag.toNat ++ le 1 g.role.code ++ le 4 g.addr.toNat ++ le 4 g.mask.toNat ++
    le 2 g.port.toNat ++ le 4 b.requests ++ le 4 b.dropped) s

def checkGetDrops (q : Issued) (_ : State) : Bad := firstBad [lenBad q 0]
def runGetDrops (_ : Issued) (s : State) : Reply :=
  say (le 4 s.mbx.badHeader ++ le 4 s.mbx.badCrc ++ le 4 s.mbx.wrongTransport ++ le 4 s.mbx.unbound ++
    le 4 s.mbx.sourceRefused ++ le 4 s.mbx.fragments) s

def checkGetChallenge (q : Issued) (_ : State) : Bad := firstBad [lenBad q 0]
/-- 0x01.10: a nonce, good for 60 s and one use. -/
def runGetChallenge (_ : Issued) (s : State) : Reply :=
  let (k, s) := takeFree s
  let nonce := Config.nonce k
  say (nonceBytes nonce)
    { s with sys.nonces := (s.sys.nonces.filter fun x => nonceFresh x.2 s.sys.opNs) ++ [(nonce, s.sys.opNs)] }

/-- The nonce under which the hmac of a 0x01.11 fits (R76). -/
def State.serviceNonce (s : State) (q : Issued) : Option (BitVec 256 × Nat) :=
  if !s.keyGood then none
  else s.sys.nonces.find? fun x =>
    nonceFresh x.2 s.sys.opNs && hmacSha256 s.key (nonceBytes x.1 ++ le 1 q.mailbox) == q.bytes 0 32

def checkEnterService (q : Issued) (s : State) : Bad :=
  firstBad [((List.range 16).any fun i => (s.seq i).running, .refusedMode), lenBad q 32,
    (s.sys.fuses.keySet && (s.serviceNonce q).isNone, .refusedRight)]
def runEnterService (q : Issued) (s : State) : Reply :=
  let used := s.serviceNonce q
  done (enterService 0x0111 { s with sys.nonces := s.sys.nonces.filter fun x => some x != used })

def checkLeaveService (q : Issued) (_ : State) : Bad := firstBad [lenBad q 0]
/-- 0x01.12: the answer goes out before the change (R76). -/
def runLeaveService (q : Issued) (s : State) : Reply :=
  { st := s, payload := le 1 s.afterService.code, post := fun s => leaveService 8 0x0112 (sendBefore q.mailbox s) }

def checkEnterConfigure (q : Issued) (_ : State) : Bad := firstBad [lenBad q 0]
def runEnterConfigure (_ : Issued) (s : State) : Reply := done (enterConfigure 8 0x0113 (giveUp 8 8 s))

/-- What was built for another base period stands against 0x01.14 (R37, R271). -/
def State.periodMismatch (s : State) : Bool :=
  let t := s.time.periodUs
  let odd := fun (o : Option Image) => o.any fun x => x.period != t
  (List.range 16).any (fun i => odd (s.seq i).active || odd (s.seq i).pending) ||
    s.cfg.program.any (fun p => p.period != t) || s.cfg.ramps.cells.any fun x => x.2.period.any (· != t)

/-- A witness reports that its node obeys a claim other than 0 and the unit's own (R397). -/
def State.otherObeyed (s : State) : Bool :=
  s.cfg.pair.witnesses.any fun n => (s.port n).seen.any fun f => f.claim != 0 && f.claim.toNat % 2 != s.unitBit

/-- The reason of a BAD_ARG of 0x01.14 to which the manual gives no code: 1 time state (R35), 2 a pair check (R386),
3 peer active (R397). -/
def idleReason (k : Nat) : List Byte := le 2 (Config.unstated 75 [k])

def checkGoIdle (q : Issued) (s : State) : Bad :=
  if q.len != 0 then some (.badArg, [])
  else if s.upd.slot = 2 then some (.badArg, le 2 0x0F01)
  else if s.sys.warming then some (.badArg, le 2 0x0F02)
  else if s.periodMismatch then some (.badArg, le 2 0x0F03)
  else if !s.cfg.freeRun && s.time.state != .locked && s.time.state != .slewing then some (.badArg, idleReason 1)
  else if s.paired && (s.par.peerInfo.any fun p => pairCheck p s != 0) then some (.badArg, idleReason 2)
  else if s.paired && s.lostBoth && s.otherObeyed then some (.badArg, idleReason 3)
  else none
/-- 0x01.14 (R74, R397). A pair member whose peer sends no claim words but heartbeats goes to SYNC beside an active peer. -/
def runGoIdle (_ : Issued) (s : State) : Reply :=
  let s :=
    if !s.paired then enterIdle .unpaired 0x0114 s
    else
      let s := runPairChecks 8 s
      if s.claimValid then
        if s.par.peer.getLsbD 4 then enterSync 0x0114 s else enterIdle .active 0x0114 s
      else if s.lostBoth then
        enterIdle .active 0x0114 (note 8 .pairRole [1, 1] { s with par.solo := true })
      else if s.par.peerRole = 1 then enterSync 0x0114 s else enterIdle .active 0x0114 s
  say (le 1 s.sys.mode.code) s

def checkRestartSupervisor (q : Issued) (_ : State) : Bad := firstBad [lenBad q 0]
def runRestartSupervisor (_ : Issued) (s : State) : Reply := { st := s, post := supervisorReset 0x0104 }

def checkRestartModule (q : Issued) (_ : State) : Bad := firstBad [lenBad q 0]
def runRestartModule (_ : Issued) (s : State) : Reply :=
  done { s with sys.restart := some (s.sys.restart.getD (4, s.sys.opNs + 10000000)) }

def checkSetCompat (q : Issued) (_ : State) : Bad := firstBad [lenBad q 1, (q.u8 0 > 15, .badArg)]
def runSetCompat (q : Issued) (s : State) : Reply :=
  done { s with cfg.compat := some (BitVec.ofNat 8 (q.u8 0)), cfg.any := true }

/-- A binding as 0x01.30 gives it (R66). -/
def bindingBad (m role : Nat) : Bool :=
  m > 63 || match Role.ofCode role with
    | none => true
    | some .service | some .safety => m ≥ 4
    | some _ => false

def checkSetBinding (q : Issued) (_ : State) : Bad := firstBad [lenBad q 12, (bindingBad (q.u8 0) (q.u8 1), .badArg)]
def runSetBinding (q : Issued) (s : State) : Reply :=
  let b : Binding := { role := (Role.ofCode (q.u8 1)).getD .unbound, addr := BitVec.ofNat 32 (q.u32 2),
                       mask := BitVec.ofNat 32 (q.u32 6), port := BitVec.ofNat 16 (q.u16 10) }
  done (note 8 .bindingSet [q.u8 0, q.u8 1, q.u32 2, q.u32 6, q.u16 10]
    { s with cfg.bindings := s.cfg.bindings.put (q.u8 0) b, cfg.any := true,
             mbx.bindings := s.mbx.bindings.put (q.u8 0) b })

def checkGetBindings (q : Issued) (_ : State) : Bad := firstBad [lenBad q 0]
def runGetBindings (_ : Issued) (s : State) : Reply :=
  say ((List.range 64).flatMap fun m =>
    let g := s.binding m
    le 1 g.role.code ++ le 4 g.addr.toNat ++ le 4 g.mask.toNat ++ le 2 g.port.toNat) s

def checkSetMailboxPort (q : Issued) (_ : State) : Bad := firstBad [lenBad q 2, (q.u16 0 < 1024, .badArg)]
def runSetMailboxPort (q : Issued) (s : State) : Reply := done { s with cfg.udpPort := q.u16 0, cfg.any := true }

end Sys2Proof.Machine
end

