-- ==== Sys2Proof/Machine/Monitor.lean ====
section
/-! DEFINITION. The Amest monitor (R480 to R483): what it prints. It changes nothing but its own running TICK output. -/

namespace Sys2Proof.Machine

/-! ### Text -/

/-- `n` hexadecimal digits of a number. -/
def hexText (n v : Nat) : String :=
  String.ofList ((List.range n).map fun i => Nat.digitChar (v / 16 ^ (n - 1 - i) % 16)) |>.toUpper

/-- `n` decimal digits of a number. -/
def padText (n v : Nat) : String :=
  String.ofList ((List.range n).map fun i => Nat.digitChar (v / 10 ^ (n - 1 - i) % 10))

/-- A binary32 value with six decimals and its sign. -/
def floatText (x : F32) : String :=
  let m := (fToInt (fAbs x) 1000000).toNat
  (if fSign x then "-" else "+") ++ toString (m / 1000000) ++ "." ++ padText 6 (m % 1000000)

/-- A point's value in its format (R78). -/
def valueText (format : Byte) (v : U32) : String :=
  if format = 0 then floatText v
  else if format = 1 then toString v.toInt
  else toString v.toNat

def pairText (l : List (String × String)) : String := " ".intercalate (l.map fun x => x.1 ++ "=" ++ x.2)

/-- ASCII bytes as text; zero bytes end it. -/
def asciiText (l : List Byte) : String := String.ofList ((l.takeWhile (· != 0)).map fun b => Char.ofNat b.toNat)

/-! ### Serving (R480 to R482) -/

/-- The monitor is silent while the supervisor or the module is in reset (R481). -/
def State.monitorServes (s : State) : Bool := s.sys.supUp && !s.sys.inReset && s.sys.powered

/-- A reply line ends in CR LF (R480). -/
def endLine (l : String) : String := l ++ "\r\n"

def monPrint (lines : List String) (s : State) : State :=
  forAll (lines.map endLine ++ ["amest> "]) (fun l => emit (.monitor l)) s

/-- A line typed to the monitor: the TICK output ends with its first character, and a command other than HELP and ID is
locked while debug_lock reads as set. In BOOT and ACTIVATE the commands whose Modes column leaves those modes out are
answered with no line. -/
def monCommand (locked allModes : Bool) (reply : State → List String) (s : State) : State :=
  if !s.monitorServes then s
  else
    let s := { s with mon.ticking := false }
    if locked && s.debugLocked then monPrint ["ERR locked"] s
    else if !allModes && (s.sys.mode = .boot || s.sys.mode = .activate) then monPrint [] s
    else monPrint (reply s) s

/-- The tick whose resolution the monitor's reads follow (R481). -/
def State.lastTick (s : State) : Nat := s.time.tick - 1

def allNames : List String := ["HELP", "ID", "MODE", "HEALTH", "TICK", "PT", "REC", "TRACE"]

/-- HELP, and what the monitor answers to a line it does not take. -/
def monHelpEffect (l : MonitorLine) (s : State) : State :=
  match l with
  | .known =>
    let dark := s.sys.mode = .boot || s.sys.mode = .activate
    let names := if s.debugLocked then ["HELP", "ID"] else if dark then ["HELP", "ID", "MODE", "TRACE"] else allNames
    monCommand false true (fun _ => [" ".intercalate names]) s
  | .unknown => monCommand false true (fun _ => ["ERR unknown"]) s
  | .tooLong => monCommand false true (fun _ => ["ERR long"]) s

/-- ID: the fields of 0x01.01 in table order. -/
def idText (s : State) : String :=
  pairText
    [("ordering_code", s.orderingCode), ("serial", asciiText (le 16 Config.serial.toNat)),
     ("firmware_version", toString s.runningVersion), ("slot", toString s.upd.slot),
     ("start_count", toString s.sys.startCount), ("power_cycles", toString s.sys.powerCycles),
     ("operating_ms", toString (s.sys.opNs / 1000000 % 2 ^ 48)), ("unit_number", toString s.cfg.unit),
     ("compat_bits", toString s.sys.compat.toNat)]

def monIdEffect (s : State) : State := monCommand false true (fun s => [idText s]) s

def modeText (s : State) : String :=
  pairText
    [("mode", toString s.sys.mode.code), ("previous_mode", toString s.sys.prevMode.code),
     ("since_tick", toString s.sys.since), ("time_state", toString s.time.state.code),
     ("pair_role", toString s.par.role.code), ("tick", toString s.lastTick)]

def monModeEffect (s : State) : State := monCommand true true (fun s => [modeText s]) s

/-- HEALTH: the fields of 0x0F.01. -/
def healthText (s : State) : String :=
  let x := s.sys.sensors
  pairText
    [("vin_v", floatText x.vin), ("vsafe_v", floatText x.vsafe), ("lid_c", floatText x.lid), ("die_c", floatText x.die),
     ("power_w", floatText x.power), ("retired_count", toString s.sys.retired.length),
     ("halt_cause", toString s.sys.haltCause),
     ("escalation", toString [s.escalationCount 600 s.sys.supResets, s.coreEscalation,
        s.escalationCount 600 s.sys.engineResets, s.escalationCount 3600 s.sys.moduleResets]),
     ("tick", toString s.lastTick)]

def monHealthEffect (s : State) : State := monCommand true false (fun s => [healthText s]) s

/-- TICK: the output of one line a second begins. -/
def monTickEffect (s : State) : State :=
  let dark := s.sys.mode = .boot || s.sys.mode = .activate
  if !s.monitorServes || s.debugLocked || dark then monCommand true false (fun _ => []) s
  else { s with mon.ticking := true, mon.lineAt := none }

/-- A line of TICK is due: the first, and then one every 1 s of tool time, which a step may have moved back. -/
def State.lineDue (s : State) : Bool :=
  match s.mon.lineAt with
  | none => true
  | some t => decide (s.toolNs < t) || decide (t + 1000000000 ≤ s.toolNs + s.periodNs)

/-- MONITOR_TICK_LINE: tick index and time state. -/
def monTickLineEffect (s : State) : State :=
  if s.mon.ticking && s.monitorServes && s.lineDue then
    emit (.monitor (endLine ("TICK " ++ toString s.lastTick ++ " " ++ toString s.time.state.code)))
      { s with mon.lineAt := some s.toolNs }
  else s

/-- MONITOR_CHARACTER_RECEIVED: any character ends it. -/
def monCharacterEffect (s : State) : State :=
  if !s.mon.ticking then s else monPrint [] { s with mon.ticking := false }

/-- One line of PT, under the number the command used (R487). -/
def pointText (s : State) (n : Nat) : List String :=
  match s.nativePoint n with
  | none => []
  | some p =>
    let e := s.entryBefore p
    let o := s.ownerNow p
    ["PT " ++ toString n ++ " tick=" ++ toString s.lastTick ++ " value=" ++ valueText o.format e.value ++ " status=0x" ++
      hexText 2 e.status.toNat ++ " owner=0x" ++ hexText 2 o.owner.toNat]

/-- A count of 1 to 16. -/
def countBad (n : Nat) : Bool := n < 1 || n > 16

def monPtEffect (point : Nat) (count : Option Nat) (s : State) : State :=
  monCommand true false (fun s =>
    let n := count.getD 1
    if countBad n || (s.nativePoint point).isNone then ["ERR unknown"]
    else (rangeOf point n).flatMap (pointText s)) s

def monRecEffect (count : Option Nat) (s : State) : State :=
  monCommand true false (fun s =>
    let n := count.getD 4
    if countBad n then ["ERR unknown"]
    else (s.rcd.general.reverse.take n).map fun r => hexText 128 (unbe r.bytes)) s

def monTraceEffect (s : State) : State := monCommand true true (fun s => s.mon.trace) s

end Sys2Proof.Machine
end

