-- ==== Sys2Proof/Machine/Commands.lean ====
section
/-! DEFINITION. The handlers of the mailbox commands: for each the checks of its arguments, retirement, ownership and
serving block (R64), and what it does and answers. -/

namespace Sys2Proof

/-- The argument checks of a command (R64). -/
def Op.check (op : Op) (q : Machine.Issued) (s : Machine.State) : Machine.Bad :=
  match op with
  | .identify => Machine.checkIdentify q s
  | .getMode => Machine.checkGetMode q s
  | .getMailbox => Machine.checkGetMailbox q s
  | .getDrops => Machine.checkGetDrops q s
  | .getChallenge => Machine.checkGetChallenge q s
  | .enterService => Machine.checkEnterService q s
  | .leaveService => Machine.checkLeaveService q s
  | .enterConfigure => Machine.checkEnterConfigure q s
  | .goIdle => Machine.checkGoIdle q s
  | .restartSupervisor => Machine.checkRestartSupervisor q s
  | .restartModule => Machine.checkRestartModule q s
  | .setCompat => Machine.checkSetCompat q s
  | .setBinding => Machine.checkSetBinding q s
  | .getBindings => Machine.checkGetBindings q s
  | .setMailboxPort => Machine.checkSetMailboxPort q s
  | .getTime => Machine.checkGetTime q s
  | .getTimeDetail => Machine.checkGetTimeDetail q s
  | .setTick => Machine.checkSetTick q s
  | .setTimeRole => Machine.checkSetTimeRole q s
  | .setGptp => Machine.checkSetGptp q s
  | .stepTime => Machine.checkStepTime q s
  | .readPoints => Machine.checkReadPoints q s
  | .readRange => Machine.checkReadRange q s
  | .takeSnapshot => Machine.checkTakeSnapshot q s
  | .readSnapshot => Machine.checkReadSnapshot q s
  | .freeSnapshot => Machine.checkFreeSnapshot q s
  | .writePoints => Machine.checkWritePoints q s
  | .setForce => Machine.checkSetForce q s
  | .removeForce => Machine.checkRemoveForce q s
  | .listForces => Machine.checkListForces q s
  | .setPointConfig => Machine.checkSetPointConfig q s
  | .getPointConfig => Machine.checkGetPointConfig q s
  | .getWriteFaults => Machine.checkGetWriteFaults q s
  | .getChannelStatus => Machine.checkGetChannelStatus q s
  | .getGroupStatus => Machine.checkGetGroupStatus q s
  | .setChannelConfig => Machine.checkSetChannelConfig q s
  | .getChannelConfig => Machine.checkGetChannelConfig q s
  | .setEnable => Machine.checkSetEnable q s
  | .readCalibration => Machine.checkReadCalibration q s
  | .setUserTrim => Machine.checkSetUserTrim q s
  | .setFaultThreshold => Machine.checkSetFaultThreshold q s
  | .releaseGroup => Machine.checkReleaseGroup q s
  | .clearCounters => Machine.checkClearCounters q s
  | .getPortStatus => Machine.checkGetPortStatus q s
  | .getUplinkStatus => Machine.checkGetUplinkStatus q s
  | .setPortConfig => Machine.checkSetPortConfig q s
  | .getPortConfig => Machine.checkGetPortConfig q s
  | .releaseNode => Machine.checkReleaseNode q s
  | .writeNodeParams => Machine.checkWriteNodeParams q s
  | .readNodeParams => Machine.checkReadNodeParams q s
  | .setPortFaultThreshold => Machine.checkSetPortFaultThreshold q s
  | .releasePort => Machine.checkReleasePort q s
  | .clearPortCounters => Machine.checkClearPortCounters q s
  | .setUplink => Machine.checkSetUplink q s
  | .getUplinkConfig => Machine.checkGetUplinkConfig q s
  | .releaseUplink => Machine.checkReleaseUplink q s
  | .getLoopConfig => Machine.checkGetLoopConfig q s
  | .getLoopStatus => Machine.checkGetLoopStatus q s
  | .getEngineLoad => Machine.checkGetEngineLoad q s
  | .setLoopWiring => Machine.checkSetLoopWiring q s
  | .writeBank => Machine.checkWriteBank q s
  | .readBank => Machine.checkReadBank q s
  | .setSwapGroup => Machine.checkSetSwapGroup q s
  | .swap => Machine.checkSwap q s
  | .cancelSwap => Machine.checkCancelSwap q s
  | .copyActive => Machine.checkCopyActive q s
  | .startLoops => Machine.checkStartLoops q s
  | .stopLoops => Machine.checkStopLoops q s
  | .setStartState => Machine.checkSetStartState q s
  | .releaseLoop => Machine.checkReleaseLoop q s
  | .setLoopFaultThreshold => Machine.checkSetLoopFaultThreshold q s
  | .setSupervision => Machine.checkSetSupervision q s
  | .getSupervision => Machine.checkGetSupervision q s
  | .returnClosed => Machine.checkReturnClosed q s
  | .enterFallback => Machine.checkEnterFallback q s
  | .setRampConfig => Machine.checkSetRampConfig q s
  | .getRamp => Machine.checkGetRamp q s
  | .setRampTarget => Machine.checkSetRampTarget q s
  | .setRampLimits => Machine.checkSetRampLimits q s
  | .setRepConfig => Machine.checkSetRepConfig q s
  | .getRepStatus => Machine.checkGetRepStatus q s
  | .setRepState => Machine.checkSetRepState q s
  | .snapshotRepMemory => Machine.checkSnapshotRepMemory q s
  | .readRepMemory => Machine.checkReadRepMemory q s
  | .writeRepMemory => Machine.checkWriteRepMemory q s
  | .commitRepMemory => Machine.checkCommitRepMemory q s
  | .clearRepMemory => Machine.checkClearRepMemory q s
  | .freeRepSnapshot => Machine.checkFreeRepSnapshot q s
  | .getClStatus => Machine.checkGetClStatus q s
  | .getFaoStatus => Machine.checkGetFaoStatus q s
  | .getDioStatus => Machine.checkGetDioStatus q s
  | .setClConfig => Machine.checkSetClConfig q s
  | .getStageConfig => Machine.checkGetStageConfig q s
  | .setClAlarm => Machine.checkSetClAlarm q s
  | .setFaoConfig => Machine.checkSetFaoConfig q s
  | .setDioConfig => Machine.checkSetDioConfig q s
  | .runTestLoad => Machine.checkRunTestLoad q s
  | .releaseStage => Machine.checkReleaseStage q s
  | .setStageFaultThreshold => Machine.checkSetStageFaultThreshold q s
  | .getSequenceStatus => Machine.checkGetSequenceStatus q s
  | .getSequenceConfig => Machine.checkGetSequenceConfig q s
  | .loadBegin => Machine.checkLoadBegin q s
  | .loadData => Machine.checkLoadData q s
  | .loadCommit => Machine.checkLoadCommit q s
  | .discardPending => Machine.checkDiscardPending q s
  | .readImage => Machine.checkReadImage q s
  | .start => Machine.checkStart q s
  | .hold => Machine.checkHold q s
  | .resume => Machine.checkResume q s
  | .jump => Machine.checkJump q s
  | .abort => Machine.checkAbort q s
  | .setSequenceBinding => Machine.checkSetSequenceBinding q s
  | .setSequencePoints => Machine.checkSetSequencePoints q s
  | .getTaskStatus => Machine.checkGetTaskStatus q s
  | .getCoreLoad => Machine.checkGetCoreLoad q s
  | .getProgramInfo => Machine.checkGetProgramInfo q s
  | .programLoadBegin => Machine.checkProgramLoadBegin q s
  | .programLoadData => Machine.checkProgramLoadData q s
  | .programLoadCommit => Machine.checkProgramLoadCommit q s
  | .discardStaged => Machine.checkDiscardStaged q s
  | .installStaged => Machine.checkInstallStaged q s
  | .onlineChange => Machine.checkOnlineChange q s
  | .stopTask => Machine.checkStopTask q s
  | .startTask => Machine.checkStartTask q s
  | .resetCore => Machine.checkResetCore q s
  | .setVarForce => Machine.checkSetVarForce q s
  | .removeVarForce => Machine.checkRemoveVarForce q s
  | .listVarForces => Machine.checkListVarForces q s
  | .readVariables => Machine.checkReadVariables q s
  | .clearTaskCounters => Machine.checkClearTaskCounters q s
  | .setStartKind => Machine.checkSetStartKind q s
  | .clearRetentive => Machine.checkClearRetentive q s
  | .getStreamStatus => Machine.checkGetStreamStatus q s
  | .getTriggerStatus => Machine.checkGetTriggerStatus q s
  | .getSegmentStatus => Machine.checkGetSegmentStatus q s
  | .setStreamConfig => Machine.checkSetStreamConfig q s
  | .setRecordSet => Machine.checkSetRecordSet q s
  | .setFastSet => Machine.checkSetFastSet q s
  | .getStreamConfig => Machine.checkGetStreamConfig q s
  | .setTrigger => Machine.checkSetTrigger q s
  | .getTrigger => Machine.checkGetTrigger q s
  | .enableTriggers => Machine.checkEnableTriggers q s
  | .hostMark => Machine.checkHostMark q s
  | .setArm => Machine.checkSetArm q s
  | .setSegmentConfig => Machine.checkSetSegmentConfig q s
  | .readSegmentHeader => Machine.checkReadSegmentHeader q s
  | .readSegmentData => Machine.checkReadSegmentData q s
  | .clearSegments => Machine.checkClearSegments q s
  | .readSkewTable => Machine.checkReadSkewTable q s
  | .getRecorderStatus => Machine.checkGetRecorderStatus q s
  | .openCursor => Machine.checkOpenCursor q s
  | .readWindow => Machine.checkReadWindow q s
  | .closeCursor => Machine.checkCloseCursor q s
  | .getCodeInfo => Machine.checkGetCodeInfo q s
  | .setRateLimit => Machine.checkSetRateLimit q s
  | .getClearChallenge => Machine.checkGetClearChallenge q s
  | .clearAudit => Machine.checkClearAudit q s
  | .getSafetyStatus => Machine.checkGetSafetyStatus q s
  | .getInputPair => Machine.checkGetInputPair q s
  | .getSafetyOutput => Machine.checkGetSafetyOutput q s
  | .getAxis => Machine.checkGetAxis q s
  | .getConfigInfo => Machine.checkGetConfigInfo q s
  | .readConfig => Machine.checkReadConfig q s
  | .getShroudConnection => Machine.checkGetShroudConnection q s
  | .openSession => Machine.checkOpenSession q s
  | .closeSession => Machine.checkCloseSession q s
  | .configBegin => Machine.checkConfigBegin q s
  | .configData => Machine.checkConfigData q s
  | .configCheck => Machine.checkConfigCheck q s
  | .confirm => Machine.checkConfirm q s
  | .setPassword => Machine.checkSetPassword q s
  | .safetyDiscardPending => Machine.checkSafetyDiscardPending q s
  | .getPairStatus => Machine.checkGetPairStatus q s
  | .getHealthReport => Machine.checkGetHealthReport q s
  | .getWitnesses => Machine.checkGetWitnesses q s
  | .setPairConfig => Machine.checkSetPairConfig q s
  | .getPairConfig => Machine.checkGetPairConfig q s
  | .handover => Machine.checkHandover q s
  | .resync => Machine.checkResync q s
  | .getUpdateStatus => Machine.checkGetUpdateStatus q s
  | .stageBegin => Machine.checkStageBegin q s
  | .stageData => Machine.checkStageData q s
  | .stageVerify => Machine.checkStageVerify q s
  | .stageDiscard => Machine.checkStageDiscard q s
  | .scheduleActivation => Machine.checkScheduleActivation q s
  | .groupReady => Machine.checkGroupReady q s
  | .cancelActivation => Machine.checkCancelActivation q s
  | .updateConfirm => Machine.checkUpdateConfirm q s
  | .reject => Machine.checkReject q s
  | .getHealth => Machine.checkGetHealth q s
  | .getResetHistory => Machine.checkGetResetHistory q s
  | .listRetired => Machine.checkListRetired q s
  | .getFaultCounter => Machine.checkGetFaultCounter q s
  | .getEccStatus => Machine.checkGetEccStatus q s
  | .listRetiredPages => Machine.checkListRetiredPages q s
  | .resetDomain => Machine.checkResetDomain q s
  | .clearFaultCounter => Machine.checkClearFaultCounter q s
  | .getFuses => Machine.checkGetFuses q s
  | .getStraps => Machine.checkGetStraps q s
  | .setCommissioningKey => Machine.checkSetCommissioningKey q s
  | .setDebugLock => Machine.checkSetDebugLock q s

/-- What a command that passed its checks does, with its answer. -/
def Op.run (op : Op) (q : Machine.Issued) (s : Machine.State) : Machine.Reply :=
  match op with
  | .identify => Machine.runIdentify q s
  | .getMode => Machine.runGetMode q s
  | .getMailbox => Machine.runGetMailbox q s
  | .getDrops => Machine.runGetDrops q s
  | .getChallenge => Machine.runGetChallenge q s
  | .enterService => Machine.runEnterService q s
  | .leaveService => Machine.runLeaveService q s
  | .enterConfigure => Machine.runEnterConfigure q s
  | .goIdle => Machine.runGoIdle q s
  | .restartSupervisor => Machine.runRestartSupervisor q s
  | .restartModule => Machine.runRestartModule q s
  | .setCompat => Machine.runSetCompat q s
  | .setBinding => Machine.runSetBinding q s
  | .getBindings => Machine.runGetBindings q s
  | .setMailboxPort => Machine.runSetMailboxPort q s
  | .getTime => Machine.runGetTime q s
  | .getTimeDetail => Machine.runGetTimeDetail q s
  | .setTick => Machine.runSetTick q s
  | .setTimeRole => Machine.runSetTimeRole q s
  | .setGptp => Machine.runSetGptp q s
  | .stepTime => Machine.runStepTime q s
  | .readPoints => Machine.runReadPoints q s
  | .readRange => Machine.runReadRange q s
  | .takeSnapshot => Machine.runTakeSnapshot q s
  | .readSnapshot => Machine.runReadSnapshot q s
  | .freeSnapshot => Machine.runFreeSnapshot q s
  | .writePoints => Machine.runWritePoints q s
  | .setForce => Machine.runSetForce q s
  | .removeForce => Machine.runRemoveForce q s
  | .listForces => Machine.runListForces q s
  | .setPointConfig => Machine.runSetPointConfig q s
  | .getPointConfig => Machine.runGetPointConfig q s
  | .getWriteFaults => Machine.runGetWriteFaults q s
  | .getChannelStatus => Machine.runGetChannelStatus q s
  | .getGroupStatus => Machine.runGetGroupStatus q s
  | .setChannelConfig => Machine.runSetChannelConfig q s
  | .getChannelConfig => Machine.runGetChannelConfig q s
  | .setEnable => Machine.runSetEnable q s
  | .readCalibration => Machine.runReadCalibration q s
  | .setUserTrim => Machine.runSetUserTrim q s
  | .setFaultThreshold => Machine.runSetFaultThreshold q s
  | .releaseGroup => Machine.runReleaseGroup q s
  | .clearCounters => Machine.runClearCounters q s
  | .getPortStatus => Machine.runGetPortStatus q s
  | .getUplinkStatus => Machine.runGetUplinkStatus q s
  | .setPortConfig => Machine.runSetPortConfig q s
  | .getPortConfig => Machine.runGetPortConfig q s
  | .releaseNode => Machine.runReleaseNode q s
  | .writeNodeParams => Machine.runWriteNodeParams q s
  | .readNodeParams => Machine.runReadNodeParams q s
  | .setPortFaultThreshold => Machine.runSetPortFaultThreshold q s
  | .releasePort => Machine.runReleasePort q s
  | .clearPortCounters => Machine.runClearPortCounters q s
  | .setUplink => Machine.runSetUplink q s
  | .getUplinkConfig => Machine.runGetUplinkConfig q s
  | .releaseUplink => Machine.runReleaseUplink q s
  | .getLoopConfig => Machine.runGetLoopConfig q s
  | .getLoopStatus => Machine.runGetLoopStatus q s
  | .getEngineLoad => Machine.runGetEngineLoad q s
  | .setLoopWiring => Machine.runSetLoopWiring q s
  | .writeBank => Machine.runWriteBank q s
  | .readBank => Machine.runReadBank q s
  | .setSwapGroup => Machine.runSetSwapGroup q s
  | .swap => Machine.runSwap q s
  | .cancelSwap => Machine.runCancelSwap q s
  | .copyActive => Machine.runCopyActive q s
  | .startLoops => Machine.runStartLoops q s
  | .stopLoops => Machine.runStopLoops q s
  | .setStartState => Machine.runSetStartState q s
  | .releaseLoop => Machine.runReleaseLoop q s
  | .setLoopFaultThreshold => Machine.runSetLoopFaultThreshold q s
  | .setSupervision => Machine.runSetSupervision q s
  | .getSupervision => Machine.runGetSupervision q s
  | .returnClosed => Machine.runReturnClosed q s
  | .enterFallback => Machine.runEnterFallback q s
  | .setRampConfig => Machine.runSetRampConfig q s
  | .getRamp => Machine.runGetRamp q s
  | .setRampTarget => Machine.runSetRampTarget q s
  | .setRampLimits => Machine.runSetRampLimits q s
  | .setRepConfig => Machine.runSetRepConfig q s
  | .getRepStatus => Machine.runGetRepStatus q s
  | .setRepState => Machine.runSetRepState q s
  | .snapshotRepMemory => Machine.runSnapshotRepMemory q s
  | .readRepMemory => Machine.runReadRepMemory q s
  | .writeRepMemory => Machine.runWriteRepMemory q s
  | .commitRepMemory => Machine.runCommitRepMemory q s
  | .clearRepMemory => Machine.runClearRepMemory q s
  | .freeRepSnapshot => Machine.runFreeRepSnapshot q s
  | .getClStatus => Machine.runGetClStatus q s
  | .getFaoStatus => Machine.runGetFaoStatus q s
  | .getDioStatus => Machine.runGetDioStatus q s
  | .setClConfig => Machine.runSetClConfig q s
  | .getStageConfig => Machine.runGetStageConfig q s
  | .setClAlarm => Machine.runSetClAlarm q s
  | .setFaoConfig => Machine.runSetFaoConfig q s
  | .setDioConfig => Machine.runSetDioConfig q s
  | .runTestLoad => Machine.runRunTestLoad q s
  | .releaseStage => Machine.runReleaseStage q s
  | .setStageFaultThreshold => Machine.runSetStageFaultThreshold q s
  | .getSequenceStatus => Machine.runGetSequenceStatus q s
  | .getSequenceConfig => Machine.runGetSequenceConfig q s
  | .loadBegin => Machine.runLoadBegin q s
  | .loadData => Machine.runLoadData q s
  | .loadCommit => Machine.runLoadCommit q s
  | .discardPending => Machine.runDiscardPending q s
  | .readImage => Machine.runReadImage q s
  | .start => Machine.runStart q s
  | .hold => Machine.runHold q s
  | .resume => Machine.runResume q s
  | .jump => Machine.runJump q s
  | .abort => Machine.runAbort q s
  | .setSequenceBinding => Machine.runSetSequenceBinding q s
  | .setSequencePoints => Machine.runSetSequencePoints q s
  | .getTaskStatus => Machine.runGetTaskStatus q s
  | .getCoreLoad => Machine.runGetCoreLoad q s
  | .getProgramInfo => Machine.runGetProgramInfo q s
  | .programLoadBegin => Machine.runProgramLoadBegin q s
  | .programLoadData => Machine.runProgramLoadData q s
  | .programLoadCommit => Machine.runProgramLoadCommit q s
  | .discardStaged => Machine.runDiscardStaged q s
  | .installStaged => Machine.runInstallStaged q s
  | .onlineChange => Machine.runOnlineChange q s
  | .stopTask => Machine.runStopTask q s
  | .startTask => Machine.runStartTask q s
  | .resetCore => Machine.runResetCore q s
  | .setVarForce => Machine.runSetVarForce q s
  | .removeVarForce => Machine.runRemoveVarForce q s
  | .listVarForces => Machine.runListVarForces q s
  | .readVariables => Machine.runReadVariables q s
  | .clearTaskCounters => Machine.runClearTaskCounters q s
  | .setStartKind => Machine.runSetStartKind q s
  | .clearRetentive => Machine.runClearRetentive q s
  | .getStreamStatus => Machine.runGetStreamStatus q s
  | .getTriggerStatus => Machine.runGetTriggerStatus q s
  | .getSegmentStatus => Machine.runGetSegmentStatus q s
  | .setStreamConfig => Machine.runSetStreamConfig q s
  | .setRecordSet => Machine.runSetRecordSet q s
  | .setFastSet => Machine.runSetFastSet q s
  | .getStreamConfig => Machine.runGetStreamConfig q s
  | .setTrigger => Machine.runSetTrigger q s
  | .getTrigger => Machine.runGetTrigger q s
  | .enableTriggers => Machine.runEnableTriggers q s
  | .hostMark => Machine.runHostMark q s
  | .setArm => Machine.runSetArm q s
  | .setSegmentConfig => Machine.runSetSegmentConfig q s
  | .readSegmentHeader => Machine.runReadSegmentHeader q s
  | .readSegmentData => Machine.runReadSegmentData q s
  | .clearSegments => Machine.runClearSegments q s
  | .readSkewTable => Machine.runReadSkewTable q s
  | .getRecorderStatus => Machine.runGetRecorderStatus q s
  | .openCursor => Machine.runOpenCursor q s
  | .readWindow => Machine.runReadWindow q s
  | .closeCursor => Machine.runCloseCursor q s
  | .getCodeInfo => Machine.runGetCodeInfo q s
  | .setRateLimit => Machine.runSetRateLimit q s
  | .getClearChallenge => Machine.runGetClearChallenge q s
  | .clearAudit => Machine.runClearAudit q s
  | .getSafetyStatus => Machine.runGetSafetyStatus q s
  | .getInputPair => Machine.runGetInputPair q s
  | .getSafetyOutput => Machine.runGetSafetyOutput q s
  | .getAxis => Machine.runGetAxis q s
  | .getConfigInfo => Machine.runGetConfigInfo q s
  | .readConfig => Machine.runReadConfig q s
  | .getShroudConnection => Machine.runGetShroudConnection q s
  | .openSession => Machine.runOpenSession q s
  | .closeSession => Machine.runCloseSession q s
  | .configBegin => Machine.runConfigBegin q s
  | .configData => Machine.runConfigData q s
  | .configCheck => Machine.runConfigCheck q s
  | .confirm => Machine.runConfirm q s
  | .setPassword => Machine.runSetPassword q s
  | .safetyDiscardPending => Machine.runSafetyDiscardPending q s
  | .getPairStatus => Machine.runGetPairStatus q s
  | .getHealthReport => Machine.runGetHealthReport q s
  | .getWitnesses => Machine.runGetWitnesses q s
  | .setPairConfig => Machine.runSetPairConfig q s
  | .getPairConfig => Machine.runGetPairConfig q s
  | .handover => Machine.runHandover q s
  | .resync => Machine.runResync q s
  | .getUpdateStatus => Machine.runGetUpdateStatus q s
  | .stageBegin => Machine.runStageBegin q s
  | .stageData => Machine.runStageData q s
  | .stageVerify => Machine.runStageVerify q s
  | .stageDiscard => Machine.runStageDiscard q s
  | .scheduleActivation => Machine.runScheduleActivation q s
  | .groupReady => Machine.runGroupReady q s
  | .cancelActivation => Machine.runCancelActivation q s
  | .updateConfirm => Machine.runUpdateConfirm q s
  | .reject => Machine.runReject q s
  | .getHealth => Machine.runGetHealth q s
  | .getResetHistory => Machine.runGetResetHistory q s
  | .listRetired => Machine.runListRetired q s
  | .getFaultCounter => Machine.runGetFaultCounter q s
  | .getEccStatus => Machine.runGetEccStatus q s
  | .listRetiredPages => Machine.runListRetiredPages q s
  | .resetDomain => Machine.runResetDomain q s
  | .clearFaultCounter => Machine.runClearFaultCounter q s
  | .getFuses => Machine.runGetFuses q s
  | .getStraps => Machine.runGetStraps q s
  | .setCommissioningKey => Machine.runSetCommissioningKey q s
  | .setDebugLock => Machine.runSetDebugLock q s

/-- Every command, in table order. -/
def Op.part0 : List Op := [.identify, .getMode, .getMailbox, .getDrops, .getChallenge, .enterService, .leaveService, .enterConfigure]
def Op.part1 : List Op := [.goIdle, .restartSupervisor, .restartModule, .setCompat, .setBinding, .getBindings, .setMailboxPort, .getTime]
def Op.part2 : List Op := [.getTimeDetail, .setTick, .setTimeRole, .setGptp, .stepTime, .readPoints, .readRange, .takeSnapshot]
def Op.part3 : List Op := [.readSnapshot, .freeSnapshot, .writePoints, .setForce, .removeForce, .listForces, .setPointConfig, .getPointConfig]
def Op.part4 : List Op := [.getWriteFaults, .getChannelStatus, .getGroupStatus, .setChannelConfig, .getChannelConfig, .setEnable, .readCalibration, .setUserTrim]
def Op.part5 : List Op := [.setFaultThreshold, .releaseGroup, .clearCounters, .getPortStatus, .getUplinkStatus, .setPortConfig, .getPortConfig, .releaseNode]
def Op.part6 : List Op := [.writeNodeParams, .readNodeParams, .setPortFaultThreshold, .releasePort, .clearPortCounters, .setUplink, .getUplinkConfig, .releaseUplink]
def Op.part7 : List Op := [.getLoopConfig, .getLoopStatus, .getEngineLoad, .setLoopWiring, .writeBank, .readBank, .setSwapGroup, .swap]
def Op.part8 : List Op := [.cancelSwap, .copyActive, .startLoops, .stopLoops, .setStartState, .releaseLoop, .setLoopFaultThreshold, .setSupervision]
def Op.part9 : List Op := [.getSupervision, .returnClosed, .enterFallback, .setRampConfig, .getRamp, .setRampTarget, .setRampLimits, .setRepConfig]
def Op.part10 : List Op := [.getRepStatus, .setRepState, .snapshotRepMemory, .readRepMemory, .writeRepMemory, .commitRepMemory, .clearRepMemory, .freeRepSnapshot]
def Op.part11 : List Op := [.getClStatus, .getFaoStatus, .getDioStatus, .setClConfig, .getStageConfig, .setClAlarm, .setFaoConfig, .setDioConfig]
def Op.part12 : List Op := [.runTestLoad, .releaseStage, .setStageFaultThreshold, .getSequenceStatus, .getSequenceConfig, .loadBegin, .loadData, .loadCommit]
def Op.part13 : List Op := [.discardPending, .readImage, .start, .hold, .resume, .jump, .abort, .setSequenceBinding]
def Op.part14 : List Op := [.setSequencePoints, .getTaskStatus, .getCoreLoad, .getProgramInfo, .programLoadBegin, .programLoadData, .programLoadCommit, .discardStaged]
def Op.part15 : List Op := [.installStaged, .onlineChange, .stopTask, .startTask, .resetCore, .setVarForce, .removeVarForce, .listVarForces]
def Op.part16 : List Op := [.readVariables, .clearTaskCounters, .setStartKind, .clearRetentive, .getStreamStatus, .getTriggerStatus, .getSegmentStatus, .setStreamConfig]
def Op.part17 : List Op := [.setRecordSet, .setFastSet, .getStreamConfig, .setTrigger, .getTrigger, .enableTriggers, .hostMark, .setArm]
def Op.part18 : List Op := [.setSegmentConfig, .readSegmentHeader, .readSegmentData, .clearSegments, .readSkewTable, .getRecorderStatus, .openCursor, .readWindow]
def Op.part19 : List Op := [.closeCursor, .getCodeInfo, .setRateLimit, .getClearChallenge, .clearAudit, .getSafetyStatus, .getInputPair, .getSafetyOutput]
def Op.part20 : List Op := [.getAxis, .getConfigInfo, .readConfig, .getShroudConnection, .openSession, .closeSession, .configBegin, .configData]
def Op.part21 : List Op := [.configCheck, .confirm, .setPassword, .safetyDiscardPending, .getPairStatus, .getHealthReport, .getWitnesses, .setPairConfig]
def Op.part22 : List Op := [.getPairConfig, .handover, .resync, .getUpdateStatus, .stageBegin, .stageData, .stageVerify, .stageDiscard]
def Op.part23 : List Op := [.scheduleActivation, .groupReady, .cancelActivation, .updateConfirm, .reject, .getHealth, .getResetHistory, .listRetired]
def Op.part24 : List Op := [.getFaultCounter, .getEccStatus, .listRetiredPages, .resetDomain, .clearFaultCounter, .getFuses, .getStraps, .setCommissioningKey]
def Op.part25 : List Op := [.setDebugLock]
def Op.all : List Op :=
  List.flatten [Op.part0, Op.part1, Op.part2, Op.part3, Op.part4, Op.part5, Op.part6, Op.part7, Op.part8,
    Op.part9, Op.part10, Op.part11, Op.part12, Op.part13, Op.part14, Op.part15, Op.part16, Op.part17,
    Op.part18, Op.part19, Op.part20, Op.part21, Op.part22, Op.part23, Op.part24, Op.part25]

/-- The command of a class and opcode, or none where the running firmware defines none. -/
def Op.ofCode (cls opcode : Byte) : Option Op := Op.all.find? fun o => o.desc.cls == cls && o.desc.opcode == opcode

end Sys2Proof
end

