-- ==== Sys2Proof/Machine/Receive.lean ====
section
/-! DEFINITION. The path of a mailbox request (chapter 3): header, transport and binding (R56), start count (R71), tag
rules (R60), the checks of R64, issue, resolution at rank 8 (R68), long-running commands and notices (R61). -/

namespace Sys2Proof.Machine

/-! ### Header, transport and binding (R54 to R57, R485) -/

/-- The bytes of a request's header that its CRC covers (R57, R485). -/
def requestHead (cls opcode : Byte) (d : Datagram) : List Byte :=
  le 2 d.magic.toNat ++ [d.version, d.mailbox] ++ le 2 d.tag.toNat ++ [cls, opcode, d.flags, d.reserved] ++
    le 2 d.length.toNat ++ (if d.version = 1 then [] else le 4 d.startCount.toNat)

/-- The header is one of version 2, or of version 1 with compatibility bit 1 in force. -/
def headerGood (d : Datagram) (s : State) : Bool :=
  d.length.toNat = d.payload.length && d.reserved = 0 &&
    ((d.magic = 0x9648 && d.version = 2 && d.payload.length ≤ 4076) ||
     (d.magic = 0x7024 && d.version = 1 && s.sys.compat.getLsbD 1 && d.payload.length ≤ 1008))

def crcGood (cls opcode : Byte) (d : Datagram) : Bool := crc32c (requestHead cls opcode d ++ d.payload) = d.crc.toNat

/-- A source inside a binding (R66). -/
def Binding.admits (b : Binding) (addr : U32) (port : U16) : Bool :=
  addr &&& b.mask = b.addr &&& b.mask && (b.port = 0 || b.port = port)

/-- The port requests on a path go to (R54, R55). -/
def State.portOf (s : State) (p : Path) : Nat := if p = .service then 50648 else s.mbx.udpPort

/-- The module's own IPv4 address on a path (R55, R143). -/
def State.ownAddr (s : State) (p : Path) : U32 :=
  match Path.uplink p with
  | some u => (s.uplinkNow u).addr
  | none => 0xA9FE6030

/-- A datagram that does not reach the mailboxes at all: the supervisor is being reset, its destination is not the module's
address and port on its path (R54, R55), or its uplink is retired (R144). -/
def State.deaf (s : State) (d : Datagram) : Bool :=
  !s.sys.supUp || d.dstPort.toNat != s.portOf d.path || d.dstAddr != s.ownAddr d.path || s.pathRetired d.path

/-- A dropped datagram is counted for its mailbox. -/
def dropFor (m : Nat) (s : State) : State :=
  if m < 64 then updBox m (fun b => { b with dropped := b.dropped + 1 }) s else s

/-- A drop for binding or transport is recorded (R56). -/
def dropNoted (m reason : Nat) (s : State) : State := note 8 .datagramDropped [m, reason] (dropFor m s)

/-- The request is dropped under R56, or passes R56 in BOOT or ACTIVATE at a mailbox that is not answered there (R75); none where it
goes on. -/
def dropped (cls opcode : Byte) (d : Datagram) (s : State) : Option State :=
  let m := d.mailbox.toNat
  let b := s.binding m
  if !headerGood d s then some (dropFor m { s with mbx.badHeader := s.mbx.badHeader + 1 })
  else if !crcGood cls opcode d then some (dropFor m { s with mbx.badCrc := s.mbx.badCrc + 1 })
  else if !Path.serves d.path m then some (dropNoted m 2 { s with mbx.wrongTransport := s.mbx.wrongTransport + 1 })
  else if b.role = .unbound then some (dropNoted m 3 { s with mbx.unbound := s.mbx.unbound + 1 })
  else if !b.admits d.srcAddr d.srcPort then some (dropNoted m 4 { s with mbx.sourceRefused := s.mbx.sourceRefused + 1 })
  else if s.starting && m ≥ 4 then some s
  else none

/-! ### Answers that are not stored -/

/-- An answer in the layout of its request that leaves the mailbox as it is (R60). -/
def answerNow (cls opcode : Byte) (d : Datagram) (st : Status) (payload : List Byte) (tick : Nat) (s : State) : State :=
  sendBytes d.path d.srcAddr d.srcPort (responseBytes d.version d.mailbox.toNat d.tag cls opcode st payload tick s) s

/-- The stored answer goes to the sender of a repeat or QUERY; one too long for version 1 is answered BAD_ARG (R486). -/
def answerStored (cls opcode : Byte) (d : Datagram) (s : State) : State :=
  let m := d.mailbox.toNat
  if d.version = 1 && (s.box m).payload.length > 1008 then answerNow cls opcode d .badArg [] 0 s
  else sendStored d.version m d.path d.srcAddr d.srcPort s

/-! ### Checks before issue and at resolution (R64, R68, R75) -/

/-- The serving block cannot take a command while its domain is in reset. -/
def State.blockDown (s : State) (op : Op) : Bool :=
  (engineServes op && !s.sys.engineUp) || (acqServesOp op && !s.sys.acqUp)

/-- Mode, arguments, retirement, ownership and serving block, in this order. -/
def State.failure (s : State) (op : Op) (q : Issued) : Bad :=
  if !op.desc.inMode s.sys.mode then some (.refusedMode, [])
  else match op.check q s with
    | some f => some f
    | none => if s.blockDown op then some (.busy, []) else none

/-- A swap takes effect at rank 6 of the tick (R173). -/
def State.swapDue (s : State) : Bool :=
  s.wired.any fun l => match (s.loop l).swap with | some (t, _) => t ≤ s.time.tick | none => false

/-- Commands of the tick that have still to be resolved, or what ranks 1 to 7 do, can change the outcome of the checks, so
that they are decided at resolution (R68, R183, R459). -/
def State.undecided (s : State) (op : Op) : Bool :=
  op.desc.issued &&
    ((s.mbx.issued.any fun q => q.op.desc.role != .observe) || op = .returnClosed ||
      (op.desc.cls = 0x06 && s.swapDue) || ((op = .releaseGroup || op = .releaseLoop || op = .releaseStage || op = .releasePort || op = .releaseUplink) &&
        !s.sys.toRetire.isEmpty))

/-! ### Carrying a command out -/

/-- What goes to the standby when a command has taken effect. -/
def mirrorCommand (q : Issued) (s : State) : State :=
  let s := if bulkOp q.op then sendBulk (.command q.op q.payload) s else s
  if q.op = .swap then
    forAll (List.finRange 1024) (fun l s =>
      match (s.loop l).swap with
      | some (t, r) => if r = some q.ref then sendBulk (.swap l t) s else s
      | none => s) s
  else s

/-- The record of an accepted command that changes the settings store (R319), and of one of class 0x0E (R435). -/
def noteCommand (q : Issued) (st : Status) (s : State) : State :=
  let d := q.op.desc
  let s := if d.setting && (d.role = .engineer || d.role = .safety || d.role = .service) then
      note 8 .settingsChange [d.cls.toNat, d.opcode.toNat, q.mailbox, crc32c q.payload] s
    else s
  if d.cls = 0x0E then note 8 .updateStep [256 * d.cls.toNat + d.opcode.toNat, st.code] s else s

/-- A command whose records the full audit log could not take (R329). -/
def auditBlocked (q : Issued) (before after : State) : Bool :=
  before.auditFull && q.op != .getClearChallenge && q.op != .clearAudit &&
    (after.rcd.waiting.drop before.rcd.waiting.length).any fun x => x.2.kind.audit

/-- A damaged key record met by a check of an hmac (R447). -/
def noteKeyDamage (op : Op) (s : State) : State :=
  if (op = .enterService || op = .clearAudit) && s.sys.fuses.keySet && !s.keyGood then note 8 .keyDamaged [] s else s

/-- A long-running command of a mailbox is ACCEPTED (R61). -/
def sendAccepted (m : Nat) (s : State) : State :=
  let b := s.box m
  if b.state != .opened then s
  else
    let s := updBox m (fun b => { b with state := .accepted, status := .accepted }) s
    forAll ((b.path, b.addr, b.port) :: b.also) (fun x s =>
      if s.pathRetired x.1 then s
      else sendBytes x.1 x.2.1 x.2.2 (responseBytes b.version m b.tag b.req.cls b.req.opcode .accepted [] b.tick s) s) s

/-- The tag's request is still open in its mailbox. -/
def State.holds (s : State) (q : Issued) : Bool := (s.box q.mailbox).isOpen && (s.box q.mailbox).tag = q.tag

/-- A command whose DONE can lie more than 1 ms after its receipt, or whose row gives ACCEPTED first (R61): it is issued
1 µs after its receipt at the earliest, and is answered after the boundary of its tick (R63, R72). -/
def State.waitsLong (s : State) (q : Issued) : Bool :=
  (q.op = .start && q.u64 3 != 0) ||
    match q.op.desc.wait with
    | some (n, us) => (n + s.confirmTicks q.op) * s.time.periodUs + us ≥ 1000
    | none => q.op.desc.issued && (1 + s.confirmTicks q.op) * s.time.periodUs ≥ 1000

/-- The answer of a command that has been carried out; one that has taken effect and waits for the release is confirmed
(R69). -/
def answerReply (q : Issued) (r : Reply) (s : State) : State :=
  let s := if r.later && releaseOps.contains q.op && s.holds q then updBox q.mailbox (fun b => { b with stage := 2 }) s else s
  let s :=
    if r.later then
      if s.holds q then
        let s := updBox q.mailbox (fun b => { b with payload := r.payload }) s
        if s.sys.supUp && s.waitsLong q then sendAccepted q.mailbox s else s
      else s
    else if r.status = .accepted then (if s.sys.supUp && s.holds q then sendAccepted q.mailbox s else s)
    else if r.status = .done && bulkOp q.op then doneTagged q.ref r.payload s
    else completeTagged q.ref r.status r.payload s
  r.post s

/-- A command is carried out on the state it finds: a failed check is its answer and nothing else happens (R64, R68). -/
def carryOut (q : Issued) (s : State) : State :=
  match s.failure q.op q with
  | some (st, p) => completeTagged q.ref st p (noteKeyDamage q.op s)
  | none =>
    let r := q.op.run q s
    let s' := noteCommand q r.status r.st
    if auditBlocked q s s' then completeTagged q.ref .busy [] s
    else if (s.box q.mailbox).version = 1 && s.holds q && r.payload.length > 1008 then completeTagged q.ref .badArg [] s
    else answerReply q r (mirrorCommand q s')

/-! ### Arrival (R60, R61, R64, R68, R71) -/

/-- A new request is taken: the mailbox holds it open (R52, R60). -/
def openRequest (op : Option Op) (cls opcode : Byte) (d : Datagram) (s : State) : State :=
  updBox d.mailbox.toNat (fun b =>
    { b with
      state := .opened, tag := d.tag, req := { op, cls, opcode, payload := d.payload, crc := d.crc }, payload := [], tick := 0,
      path := d.path, addr := d.srcAddr, port := d.srcPort, also := [], version := d.version, noNotice := d.flags.getLsbD 2,
      notices := 0, stage := 0, issued := 0, confirmed := false, opened := s.sys.opNs }) s

/-- The request as its serving block gets it. -/
def requestOf (op : Op) (d : Datagram) (s : State) : Issued :=
  { op, mailbox := d.mailbox.toNat, tag := d.tag, payload := d.payload, tick := s.time.tick, addr := d.srcAddr, port := d.srcPort }

/-- A command is issued to its serving block and assigned to the tick (R40, R68); `now` tells that it is ACCEPTED first where it waits
long (R61). -/
def issueRequest (now : Bool) (q : Issued) (s : State) : State :=
  let s := updBox q.mailbox (fun b => { b with stage := 1, issued := s.time.tick, tick := s.time.tick })
    { s with mbx.issued := s.mbx.issued ++ [q] }
  if now && s.waitsLong q then sendAccepted q.mailbox s else s

/-- A new request is carried on: known, role, mode and arguments, then issued or, where the supervisor serves it, carried
out at once (R64). -/
def takeRequest (op : Option Op) (d : Datagram) (s : State) : State :=
  let m := d.mailbox.toNat
  match op with
  | none => completeRequest m .unknown [] s
  | some op =>
    let q := requestOf op d s
    if !(s.binding m).role.includes op.desc.role then completeRequest m .refusedRight [] s
    else if d.flags.toNat ≥ 8 then
      completeRequest m (if op.desc.inMode s.sys.mode then .badArg else .refusedMode) [] s
    else if !op.desc.issued then carryOut q s
    else match s.failure op q with
      | some (st, p) =>
        if s.undecided op then issueRequest false q s else completeRequest m st p (noteKeyDamage op s)
      | none => issueRequest true q s

/-- A request with QUERY or COMPLETION_ACK set, or a repeat, whose tag the mailbox holds (R60). DEDUCED (notes/assumptions/16): a QUERY that
names an open request is answered as its repeat, ACCEPTED, or not at all while OPEN. -/
def repeatRequest (cls opcode : Byte) (d : Datagram) (s : State) : State :=
  let m := d.mailbox.toNat
  let b := s.box m
  let silent := d.flags.getLsbD 1
  let from' := (d.path, d.srcAddr, d.srcPort)
  match b.state with
  | .empty => s
  | .opened | .accepted =>
    let known := from' = (b.path, b.addr, b.port) || b.also.contains from'
    let s := if known then s else updBox m (fun b => { b with also := b.also ++ [from'] }) s
    if b.state = .accepted && !silent then answerNow b.req.cls b.req.opcode d .accepted [] b.tick s else s
  | .answered | .notifying =>
    let s := updBox m (fun b => { b with state := .answered }) s
    if silent then s else answerStored cls opcode d s

/-- The tag rules (R60). -/
def applyTag (op : Option Op) (cls opcode : Byte) (d : Datagram) (s : State) : State :=
  let m := d.mailbox.toNat
  let b := s.box m
  let marked := d.flags.getLsbD 0 || d.flags.getLsbD 1
  let named := b.state != .empty && d.tag = b.tag
  let same := named && b.req.cls = cls && b.req.opcode = opcode && b.req.payload = d.payload && b.req.crc = d.crc
  if (named && marked) || same then repeatRequest cls opcode d s
  else if named || marked then answerNow cls opcode d .badArg [] 0 s
  else if b.isOpen then answerNow cls opcode d .busy [] 0 s
  else takeRequest op d (openRequest op cls opcode d s)

/-- A whole request arrives (R54 to R75). -/
def receiveWhole (op : Option Op) (cls opcode : Byte) (d : Datagram) (s : State) : State :=
  if s.deaf d then s
  else match dropped cls opcode d s with
    | some s => s
    | none =>
      let m := d.mailbox.toNat
      let s := updBox m (fun b => { b with requests := b.requests + 1 })
        (if m < 4 then { s with sys.serviceUsed := s.sys.opNs } else s)
      if d.version != 1 && d.startCount != 0 && d.startCount.toNat != s.sys.startCount then
        answerNow cls opcode d .restarted (List.replicate 9 0) 0 (updBox m (fun b => { b with restarts := b.restarts + 1 }) s)
      else applyTag op cls opcode d s

/-- The fragments of a datagram are those held of its path, source and identification. -/
def Partial.matches (x : Partial) (d : Datagram) (f : Fragment) : Bool :=
  x.path = d.path && x.addr = d.srcAddr && x.ident = f.ident

/-- The fragments of a datagram that have come. -/
def State.gotOf (s : State) (d : Datagram) (f : Fragment) : List Nat :=
  match s.mbx.parts.find? fun x => x.matches d f with
  | some x => x.got
  | none => []

/-- A fragment completes its datagram: every fragment has come, this one included. -/
def State.completes (s : State) (d : Datagram) (f : Fragment) : Bool :=
  (List.range f.count).all fun i => i = f.index || (s.gotOf d f).contains i

/-- The state without the fragments held of a datagram. -/
def dropParts (d : Datagram) (f : Fragment) (s : State) : State :=
  { s with mbx.parts := s.mbx.parts.filter fun x => !x.matches d f }

/-- A fragment that completes nothing is held from the first one's time on (R54). -/
def holdPart (d : Datagram) (f : Fragment) (s : State) : State :=
  let was := s.mbx.parts.find? fun x => x.matches d f
  let x : Partial := { path := d.path, addr := d.srcAddr, ident := f.ident, got := f.index :: s.gotOf d f,
                       first := (was.map (·.first)).getD s.sys.opNs }
  { dropParts d f s with mbx.parts := (dropParts d f s).mbx.parts ++ [x] }

/-- A request arrives, whole or in IPv4 fragments, which are reassembled up to 4,096 B of UDP payload (R54). Fragments are held by
the network service of the supervisor, which is deaf while it is being reset and on a retired uplink. -/
def receive (op : Option Op) (cls opcode : Byte) (d : Datagram) (s : State) : State :=
  let s := if s.pathRetired d.path then s else { s with mbx.rxFrames := countFrames d.path 1 s.mbx.rxFrames }
  match d.fragment with
  | none => receiveWhole op cls opcode d s
  | some f =>
    if !s.sys.supUp || s.pathRetired d.path || d.payload.length + 20 > 4096 then s
    else if s.completes d f then receiveWhole op cls opcode d (dropParts d f s)
    else holdPart d f s

/-- A request of a command of the tables arrives. -/
def request (op : Op) (d : Datagram) (s : State) : State := receive (some op) op.desc.cls op.desc.opcode d s

/-! ### Rank 8 (R42, R68, R97) -/

/-- The commands of the tick in the order of their resolution: lower mailbox first, then order of issue; reads that
return state as after the whole resolution come last. -/
def State.resolutionOrder (s : State) : List Issued :=
  let l := sortBy (fun (a b : Issued) => decide (a.mailbox < b.mailbox)) s.mbx.issued
  l.filter (fun q => !q.op.desc.late) ++ l.filter (fun q => q.op.desc.late)

/-- Rank 8: every command issued in the tick is resolved. -/
def resolveCommands (s : State) : State :=
  forAll s.resolutionOrder carryOut { s with mbx.issued := [] }

/-! ### Long-running commands (R61) -/

/-- A long-running command that its block has not confirmed within its limit, 1 s, ends TIMEOUT (R63); a check of an image
under way is given up. -/
def longTimeout (op : Op) (b : Mailbox) (conclude : Status → List Byte → State → State) (s : State) : State :=
  if s.sys.opNs - b.opened < 1000000000 then s
  else
    let s := match op with
      | .loadCommit => updSeq (rd b.req.payload 0 1) (fun q => { q with committing := none }) s
      | .programLoadCommit => { s with prg.committing := none }
      | _ => s
    conclude .timeout [] s

/-- 64 frames have not come within 1 s: the port stays retired (R141). -/
def releasePortDone (b : Mailbox) (conclude : Status → List Byte → State → State) (s : State) : State :=
  if s.sys.opNs - b.opened < 1000000000 then s
  else
    let n := rd b.req.payload 0 1
    let held := s.isRetired (resource 7 n)
    conclude .retired []
      (updPort n (fun p => { p with inCheck := false, checking := 0, mode := if held then .retired else p.mode }) s)

/-- The check of an uplink is over (R144): released, or still retired. -/
def uplinkCheckEnd (b : Mailbox) (conclude : Status → List Byte → State → State) (s : State) : State :=
  let u := rd b.req.payload 0 1
  match s.uplinkCheck u with
  | some ok =>
    let r := releaseUplinkDone u ok s
    conclude r.1 [] r.2
  | none => s

/-- The end of the long-running command a mailbox holds, as the world brings it; `conclude` gives its request the final status. -/
def longEnd (op : Op) (b : Mailbox) (m : Nat) (o : LongOutcome) (conclude : Status → List Byte → State → State) (s : State) : State :=
  let p := b.req.payload
  let mirrored := fun (st : Status) (x : List Byte) (s : State) => if st = .done && s.followed then doneTagged (m, b.tag) x s else conclude st x s
  let finish := fun (r : Status × List Byte × State) => conclude r.1 r.2.1 r.2.2
  match o with
  | .timeout =>
    if op = .releasePort then releasePortDone b conclude s
    else if op = .releaseUplink then uplinkCheckEnd b conclude s
    else longTimeout op b conclude s
  | .references results =>
    if op = .releaseGroup then
      let r := releaseGroupDone (rd p 0 1) results s
      conclude r.1 [] r.2
    else s
  | .measured v =>
    match op with
    | .runTestLoad => conclude .done (testLoadDone p v) s
    | .releaseStage =>
      let r := releaseStageDone p v s
      conclude r.1 [] r.2
    | _ => s
  | .finish =>
    match op with
    | .clearAudit =>
      let r := clearAuditDone m b.port.toNat b.addr.toNat (rd p 32 8) s
      conclude .done (le 8 r.1) r.2
    | .releaseUplink => uplinkCheckEnd b conclude s
    | .loadCommit =>
      let r := loadCommitDone p s
      let s := r.2.2
      let q := rd p 0 1
      let s := if r.1 = .done && q < 16 then
          match (s.seq q).pending with
          | some im => sendBulk (.recipe (Fin.ofNat 16 q) false im.bytes) s
          | none => s
        else s
      mirrored r.1 r.2.1 s
    | .programLoadCommit =>
      let r := programCommitDone p s
      let s := r.2.2
      let s := match s.prg.staged with | some x => if r.1 = .done then sendBulk (.program false x.bytes) s else s | none => s
      mirrored r.1 r.2.1 s
    | .releasePort => releasePortDone b conclude s
    | .configCheck => finish (configCheckDone { op, mailbox := m, tag := b.tag, payload := p, tick := b.tick, addr := b.addr, port := b.port } s)
    | .stageVerify => finish (stageVerifyDone s)
    | _ => s

/-- Commands that the end or the limit of their work completes; those that wait for an event of the tables are completed
by it. -/
def longOps : List Op :=
  [.releaseNode, .releasePort, .releaseGroup, .runTestLoad, .releaseStage, .clearAudit, .releaseUplink, .loadCommit, .programLoadCommit, .configCheck,
   .stageVerify]

/-- Commands that a plan of a loop or of a repetitive controller completes (R166, R183, R184, R199). -/
def planOps : List Op :=
  [.startLoops, .stopLoops, .returnClosed, .enterFallback, .setRepState, .commitRepMemory, .clearRepMemory]

/-- The request that a mailbox holds open waits for the resolution of its tick or for a plan. -/
def State.planned (s : State) (m : Nat) : Bool :=
  (s.mbx.issued.any fun q => q.mailbox = m) || s.lop.plans.any fun p => p.mailbox = some (m, (s.box m).tag)

/-- LONG_RUNNING_COMPLETION (R61, R69): the work of the command that a mailbox holds ACCEPTED comes to its end; while the
supervisor is being reset, and where it has answered the request RESTARTED, the serving block ends the work all the
same. A command whose plan a change of mode has ended is not confirmed, so that it ends TIMEOUT (R63, R165). -/
def longCompletionEffect (m : Nat) (o : LongOutcome) (s : State) : State :=
  let b := s.box m
  match b.req.op with
  | none => s
  | some op =>
    if b.state = .accepted && longOps.contains op && (s.sys.supUp || (outlives op && b.stage = 1)) then longEnd op b m o (completeRequest m) s
    else if o = .timeout && b.isOpen && planOps.contains op && s.sys.supUp && !s.planned m then
      longTimeout op b (completeRequest m) s
    else
      match s.mbx.orphans.find? (·.mailbox == m) with
      | some x =>
        longEnd x.op x.box m o (fun _ _ s => s) { s with mbx.orphans := s.mbx.orphans.filter (·.mailbox != m) }
      | none => s

/-- COMPLETION_NOTICE_RESEND (R61): a notice not acknowledged goes out again, 8 times in all; with the last the response is left
stored in state ANSWERED. -/
def noticeEffect (m : Nat) (s : State) : State :=
  let b := s.box m
  if b.state != .notifying || !s.sys.supUp then s
  else sendAnswer m (updBox m (fun b =>
    { b with notices := b.notices + 1, state := if b.notices + 1 ≥ 8 then .answered else .notifying }) s)

/-! ### Network service of the supervisor (R54, R55, R143) and expiry of buffers (R97, R198, R331) -/

/-- A partial datagram of a path whose first fragment came 100 ms ago (R54). -/
def State.partDue (s : State) (p : Path) (x : Partial) : Bool := x.path = p && s.sys.opNs - x.first ≥ 100000000

/-- FRAGMENT_TIMEOUT (R54, 0x01.04): the partial datagrams of the path that are 100 ms old are discarded and counted. -/
def fragmentEffect (p : Path) (s : State) : State :=
  { s with mbx.parts := s.mbx.parts.filter (!s.partDue p ·),
           mbx.fragments := s.mbx.fragments + (s.mbx.parts.filter (s.partDue p ·)).length }

/-- ARP_REQUEST (R55, R143): the module answers for its own address on the path. -/
def arpEffect (p : Path) (target : U32) (s : State) : State :=
  let own := s.ownAddr p
  let hears := fun (u : Nat) => if s.pathRetired p then s else heardOn u 1 s
  let s := match Path.uplink p with | some u => hears u | none => s
  let sent := fun (s : State) => match Path.uplink p with | some u => sentOn u 1 s | none => s
  if s.sys.supUp && !s.pathRetired p && own != 0 && target = own then emit (.arpReply p target) (sent s) else s

/-- ICMP_ECHO_REQUEST (R143). -/
def echoEffect (u : Nat) (dst : U32) (data : List Byte) (s : State) : State :=
  let own := (s.uplinkNow u).addr
  if s.isRetired (resource 12 u) then s
  else
    let s := heardOn u 1 s
    if s.sys.supUp && own != 0 && dst = own then emit (.echoReply u data) (sentOn u 1 s)
    else s

/-- Whether a time of last use lies `ns` or more back. -/
def State.unusedFor (s : State) (used ns : Nat) : Bool := s.sys.opNs - used ≥ ns

/-- SNAPSHOT_EXPIRY (R97). -/
def snapshotExpiryEffect (i : Nat) (s : State) : State :=
  match s.pts.snaps.find i with
  | some x => if s.unusedFor x.used 10000000000 then { s with pts.snaps := s.pts.snaps.del i } else s
  | none => s

/-- REP_SNAPSHOT_EXPIRY (R198). -/
def repSnapshotExpiryEffect (i : Nat) (s : State) : State :=
  match s.rmp.snaps.find i with
  | some x => if s.unusedFor x.used 10000000000 then { s with rmp.snaps := s.rmp.snaps.del i } else s
  | none => s

/-- CURSOR_EXPIRY (R331). -/
def cursorExpiryEffect (i : Nat) (s : State) : State :=
  match s.rcd.cursors.find i with
  | some x => if s.unusedFor x.used 60000000000 then { s with rcd.cursors := s.rcd.cursors.del i } else s
  | none => s

end Sys2Proof.Machine
end

