-- ==== Sys2Proof/Machine/Tick.lean ====
section
/-! DEFINITION. The base tick (chapter 2): what ends every command, the resolution of a tick in the ranks of R42, and the
start of the next (R41). -/

namespace Sys2Proof.Machine

/-! ### The end of every command -/

/-- A whole-module reset ordered takes place (R440). -/
def followReset (s : State) : State :=
  match s.sys.resetDue with
  | some cause => moduleReset cause s
  | none => s

/-- What every command ends with: a reset ordered, output points at their idle values while no loop runs (R165), the
confirmation window as the mode and grade give it (R422), and the grade and claim that the state gives (R387 to R389). -/
def settle (s : State) : State := composeClaim (trackWindow (holdIdle (followReset s)))

/-! ### Rank 2 (R42, R86): points the hardware writes -/

/-- The points of converters, field inputs, read-back and digital inputs; a frame that has come while the loader runs sets
none. -/
def hardwarePoints (s : State) : State :=
  if s.starting then { s with fld.ports := ⟨s.fld.ports.cells.map fun x => (x.1, { x.2 with fresh := false, frame := none })⟩ }
  else digitalPoints (readbackPoints (fieldPoints (channelPoints s)))

/-- The entries that differ between two tables are put into a third. -/
def overlayEntries (before own now : Tab Entry) : Tab Entry :=
  forAll (own.cells.filter fun x => before.find x.1 != some x.2) (fun x t => t.put x.1 x.2) now

/-! ### Ranks 3 to 7 -/

/-- A BULK command takes effect at the standby, which runs one tick behind, as it did at the active unit in the tick before, where
R394 has it sent; any other, an image transfer
among them (R4), has no effect. -/
def bulkCommand (op : Op) (payload : List Byte) (s : State) : State :=
  if !bulkOp op then s else (op.run { op, mailbox := 255, tag := 0, payload, tick := s.time.tick - 1 } s).st

/-- Ranks 4 to 7: sequencer, loop engine and programs. Trigger marks, rank 4, compare values as after the whole
resolution (R302), so that they are placed at the end of the tick. An exchange of program sets at an active unit takes place at its
standby as well, which applies it with the mirror of the same tick (R272). -/
def engineRanks (s : State) : State :=
  let t := programTick (loopOutputs (sequencerTick s))
  if s.prg.change.isSome && t.prg.change.isNone && t.prg.running != s.prg.running then sendBulk (.exchange s.nextBoundary.1) t else t

/-- The catch-up of a promoted standby (R398): where the mirror of the last tick is missing its updates are computed as
well; then the tick's own inputs take effect. -/
def catchUp (own : Tab Entry) (before : Tab Entry) (s : State) : State :=
  let s := if s.par.lastMirror + 1 = s.time.tick then s else standbyLoops s
  { s with pts.entries := overlayEntries before own s.pts.entries }

/-- Rank 3 (R42): the mirror, the witnesses and the changes of pair role; `own` is what the hardware wrote at rank 2. -/
def pairRank (own before : Tab Entry) (s : State) : State :=
  let s := witnessTick s
  let s := if s.mirroring then standbyTick (applyBulk bulkCommand) s else s
  let was := s.par.role
  let s := pairRoles stopAll s
  if was = .standby && s.par.role = .handover then catchUp own before s else s

/-- A standby that mirrors its peer resolves no rank 4 to 7 of its own (R170, R395). -/
def State.followsPeer (s : State) : Bool := s.effMode = .standby && !s.par.split

/-! ### The resolution of a tick (R41, R42) -/

/-- The isolated supplies that have come back (R125; notes/assumptions/24). -/
def takeSupplies (io : TickIO) (s : State) : State :=
  { s with ain.bankDown := s.ain.bankDown.filter (!io.supplies.contains ·) }

def takeSensors (io : TickIO) (s : State) : State :=
  match io.sensors with
  | some x => { s with sys.sensors := x }
  | none => s

/-- A permanent fault found in the tick takes the module to HALT at rank 2 (R42, R75, R457). -/
def followHalt (s : State) : State := if s.sys.haltDue = 0 then s else enterHalt s.sys.haltDue s

/-- Ranks 1 and 2: the safety island, then retirements and permanent faults. -/
def topRanks (s : State) : State := followHalt (retirements sramOutcome (safetyHolds (followLocks s)))

/-- The stream's path has lost its link (R295). -/
def judgePath (s : State) : State :=
  if s.acq.reachable && s.hostSet && (!s.acqDark || s.sys.mode = .halt) && !s.pathOk s.acq.path then
    losePath false s
  else s

/-- The resolution of the tick that ends up to rank 7. -/
def beforeCommands (io : TickIO) (s : State) : State :=
  let s := compareStages (stageReadings io (takeSensors io (takeSupplies io { s with par.mirrored := false })))
  let s := topRanks s
  let hw := hardwarePoints s
  let s' := if s.mirroring then { hw with pts.entries := s.pts.entries, pts.forces := s.pts.forces } else hw
  let s' := pairRank hw.pts.entries s.pts.entries s'
  if s'.followsPeer then followConditions s' else engineRanks s'

/-- What follows the commands of rank 8: forces, the records of rank 9 and what mirror and stream take of the tick. -/
def afterCommands (s : State) : State :=
  acqEndTick (snapMirror (writeRecords (judgePath (showForced s))))

/-- The resolution of the tick that ends. -/
def endTick (io : TickIO) (s : State) : State := afterCommands (resolveCommands (beforeCommands io s))

/-! ### The next tick -/

/-- Ramps of the new tick: as computed, and at a standby in SPLIT from its own state (R188, R397). -/
def nextRamps (s : State) : State :=
  if s.effMode = .standby && s.par.split && s.sys.engineUp then moveRamps s else tickRamps s

/-- What the boundary begins. -/
def beginTick (s : State) : State :=
  let s := nextTick (autoStartLoops s)
  let s := takeStep { s with pts.written := [], pts.before := {}, pts.rampSet := [], lop.released := false,
                             rmp.cells := s.rmp.cells.drop mirrorCells }
  let ramps := fun (s' : State) => if s.sys.engineUp then nextRamps s' else s'
  let s := engineRestartEffect (driveHalyard (slewTick s))
  let s := ramps (latchSetPoints (promptPlans s))
  let s := acqNewTick (newTickAnalogue (fieldNewTick s))
  activationRestartEffect (activationProceedEffect (trackReady s))

/-- TICK_BOUNDARY (R41); the tick's answers go out after it, with the mode and status words as they then are (R58, R72). -/
def tickEffect (io : TickIO) (s : State) : State :=
  sendHeld (confirmAlone (beginTick (endTick io { s with mbx.holding := true })))

/-- TICK_PERIOD_CHANGE (R36): the boundary at which a new grid begins resolves the tick that ends like every boundary
(R41). -/
def periodChangeEffect (s : State) : State := if s.periodDue.isSome then tickEffect {} s else s

/-- ELAPSED_REACHED (R236): the boundary of a tick whose rank 5 brings the elapsed count of a step to the level of an ELAPSED term;
like every event of the tick it is resolved there, in the order of R42 (R41; notes/assumptions/50). -/
def elapsedEffect (i : Nat) (s : State) : State := if s.elapsedDue i then tickEffect {} s else s

/-- SCHEDULED_START (R238): the boundary at whose rank 5 a START with a start tick enters its first step (notes/assumptions/50). -/
def scheduledStartEffect (i : Nat) (s : State) : State := if s.startDue i then tickEffect {} s else s

/-- CYCLIC_TASK_START (R252): a boundary at which the task is due to start; the start belongs to the tick that ends and is resolved at
its rank 7 (notes/assumptions/50). -/
def cyclicStartEffect (i : Nat) (s : State) : State :=
  if s.programsRun && (s.taskRec i).any (·.dueAt s.nextBoundary.1) then tickEffect {} s else s

/-- EVENT_TASK_START (R253): the boundary after a tick at whose rank 7 the task's condition is found changed in the direction of
trigger_op (notes/assumptions/50). -/
def eventStartEffect (i : Nat) (s : State) : State :=
  let t := tickEffect {} s
  if s.programsRun && (s.taskRec i).any (·.event) && (t.task i).changedAt = s.nextBoundary.1 then t else s

/-- ONLINE_CHANGE_BOUNDARY (R272): the boundary b at which the running set is exchanged (notes/assumptions/50). -/
def onlineChangeEffect (s : State) : State := if s.programsRun && s.changeDue s.nextBoundary.1 then tickEffect {} s else s

/-! ### Commands that several chapters follow -/

/-- CONVERSION_END (R114, R117, R162, R282, R302): the sample goes to its point, to the prompt loops that wait for it and
to acquisition; a group whose restart conversions are done serves again (R126). -/
def conversionEffect (g : Nat) (r : Conversion) (s : State) : State :=
  let (s, taken) := endSlot g r s
  let s := if (s.group g).refsLeft = 0 then servesAgain 2 g s else s
  match taken with
  | some c => acqSample c (promptStages r.sub (promptSample c s))
  | none => s

/-- FAST_TICK (R162, R283). -/
def fastEffect (j : Nat) (s : State) : State :=
  if j ≥ s.time.fastN then s
  else promptStages (j * s.periodNs / s.time.fastN) (fastTickEffect j (acqFastTick j s))

/-- PROMPT_DEADLINE (R162). -/
def deadlineEffect (l j : Nat) (s : State) : State :=
  if j ≥ s.time.fastN then s
  else promptStages ((j + 1) * s.periodNs / s.time.fastN - 500) (promptDeadlineEffect l j s)

/-- TASK_END (R257, R396): what was committed goes to the standby. -/
def taskEndBulk (c : Fin 4) (t : Fin 8) (e : CycleEnd) (s : State) : State :=
  let i := 8 * c.val + t.val
  let r := taskEndEffect i e s
  if (s.task i).mode = .running && (r.task i).mode != .running then
    sendBulk (.instanceData c t (s.unforced (e.vars ++ e.retentive)) (s.unforced e.retentive)
      (r.prg.blocks.filter fun b => e.blocks.any (·.path == b.path))) r
  else r

/-- FIELD_OUTPUT_FRAME (R132, R137, R376). -/
def fieldOutputEffect (n : Nat) (s : State) : State :=
  if !s.portSends n then s
  else
    let (block, s) := fieldShroud n s
    emit (.fieldFrame n (cyclicBytes (outputFrame n s.par.own block s))) (updPort n (fun p => { p with tx := p.tx + 1 }) s)

/-- PORT_LINK_LOSS (R141, R144, R489). -/
def portLossEffect (p : PortId) (s : State) : State :=
  match p with
  | .field n => fieldLinkLoss n s
  | .uplink u => judgePath (uplinkFaultEffect u .linkLoss s)
  | .service => serviceDownEffect s

/-- PORT_LINK_UP (R141, R444). -/
def portUpEffect (p : PortId) (s : State) : State := servesAgain 1 (PortId.index p) (linkUpEffect p s)

/-- UPLINK_FAULT (R144, R295). -/
def uplinkEffect (u : Nat) (f : UplinkFault) (s : State) : State := judgePath (uplinkFaultEffect u f s)

/-- STAY_LINK_UP (R386, R444). -/
def stayEffect (p : PeerInfo) (s : State) : State := servesAgain 1 52 (stayUpEffect p s)

end Sys2Proof.Machine
end

