-- ==== Sys2Proof/Machine/Events.lean ====
section
/-! DEFINITION. The meanings of the events (R41 and the rules each names): what happens on the module's lands, links,
clocks and cores, each on the whole state. -/

namespace Sys2Proof.Machine

/-- The outcome of a command. -/
abbrev Result := Host.Outcome State Fault Refusal

/-- A command takes effect and the state settles; the queue of waiting commands is left as it is. -/
def actAlways (f : State → State) (s : State) : Result :=
  .next { settle (f { s with out := [] }) with pending := s.pending }

/-- The same of what the main die does: held in a whole-module reset it does nothing (R441). -/
def act (f : State → State) (s : State) : Result := actAlways (fun s => if s.sys.inReset then s else f s) s

/-- R436: VIN has stood at or above 18.5 V for 10 ms, so the module starts, counts a power cycle and enters BOOT. -/
def execPowerGood (straps : Straps) (reading : StartReading) (s : State) : Result := actAlways (powerGoodEffect straps reading) s

/-- R327: VIN falls below 17 V; the pending record count is written to MRAM and an active pair member gives up with cause 0x03. -/
def execVinBelow17v (s : State) : Result := actAlways (below17Effect) s

/-- R436: VIN falls below 16.0 V and the module enters a whole-module reset until power-good returns. -/
def execVinBelow16v (s : State) : Result := actAlways (below16Effect) s

/-- R440: RESET_N is held low for at least 10 µs and the module enters a whole-module reset. -/
def execResetNLow (heldNs : Nat) (s : State) : Result := actAlways (resetLowEffect heldNs) s

/-- R74: The loader finishes verifying the slots and enters CONFIGURE, ACTIVATE or HALT. -/
def execBootComplete (s : State) : Result := act (bootCompleteEffect) s

/-- R438: A T9648-A held in BOOT by a cold lid reads the lid temperature again every 10 s. -/
def execLidTempRecheck (lidCenti : Int) (s : State) : Result := act (lidRecheckEffect lidCenti) s

/-- R438: A T9648-AX warming in CONFIGURE reaches −10 °C lid temperature and stops refusing 0x01.14. -/
def execLidWarmReached (s : State) : Result := act (lidWarmEffect) s

/-- R421: The journaled copies RUN to FALLBACK and STAGE to RUN finish, STAGE is erased and the module restarts into BOOT. -/
def execActivationCopyComplete (s : State) : Result := act (activationCopyEffect) s

/-- R426: On the first start after an activation, the new firmware finishes building its settings half from the FALLBACK half. -/
def execSettingsMigration (failingItem : Option U32) (s : State) : Result := act (migrationEffect loadSettings failingItem) s

/-- R440: The whole-module reset ordered by 0x01.16 or 0x0E.31 takes place about 10 ms after its DONE. -/
def execDelayedRestart (s : State) : Result := act (delayedRestartEffect) s

/-- R17: The supervisor lockstep cores disagree and the supervisor domain resets. -/
def execSupervisorLockstepMismatch (s : State) : Result := act (supervisorReset 0x0101) s

/-- R444: The supervisor watchdog is not served for 250 ms and resets the supervisor. -/
def execSupervisorWatchdog (s : State) : Result := act (supervisorReset 0x0102) s

/-- R69: The supervisor serves again and answers every open request RESTARTED with its stage. -/
def execSupervisorRestartComplete (s : State) : Result := act (supervisorRestartEffect) s

/-- R444: A program core faults and its domain is reset. -/
def execCoreFault (core : Fin 4) (s : State) : Result := act (resetCoreDomain 2 core 0x0201) s

/-- R266: A core fails to abandon a cycle within 1 ms and its watchdog resets it. -/
def execCoreWatchdog (core : Fin 4) (s : State) : Result := act (resetCoreDomain 2 core 0x0202) s

/-- R277: A reset program core restarts within 50 ms and its tasks resume at their next scheduled starts. -/
def execCoreRestartComplete (core : Fin 4) (s : State) : Result := act (coreRestartEffect core) s

/-- R444: The release of tick k is not done by (k+1)·T + 20 µs and the loop engine with sequencer resets. -/
def execReleaseDeadlineMissed (s : State) : Result := act (releaseMissedEffect) s

/-- R168: At the first boundary 2 ms after its reset, running loops restart bumplessly and ramps restart as R192 states. -/
def execLoopEngineRestart (s : State) : Result := act (engineRestartEffect) s

/-- R304: A staging error or overflow resets acquisition, the lost ticks are replaced by one GAP record and triggers restart disarmed. -/
def execAcquisitionReset (overflow : Bool) (s : State) : Result := act (acqReset 2 (if overflow then 0x0402 else 0x0401)) s

/-- R450: A corrected word is written back and counted as one transient event of its region or page. -/
def execMemoryCorrectedError (addr : Nat) (s : State) : Result := act (correctedEffect addr) s

/-- R452: An uncorrectable error has the outcome given for its region and retires the page or region. -/
def execMemoryUncorrectableError (addr : Nat) (s : State) : Result := act (uncorrectableEffect addr) s

/-- R453: A NAND block is refreshed or retired into the reserve, and an exhausted reserve makes the SLC store read-only. -/
def execNandBlockFault (fault : NandFault) (s : State) : Result := act (nandEffect fault) s

/-- R25: Above 70 °C lid temperature the module stops NAND spill and lowers the current-loop supply margin. -/
def execThermalLimit (lidCenti : Int) (s : State) : Result := act (thermalEffect lidCenti) s

/-- R457: The lid stays above 95 °C for 1 s, which is a permanent fault. -/
def execLidOvertemp (s : State) : Result := act (permanentFault 7) s

/-- R41: At each base tick boundary the module resolves the events of the last tick in the rank order of R42. -/
def execTickBoundary (io : TickIO) (s : State) : Result := act (tickEffect io) s

/-- R36: A new base period set by 0x02.10 takes effect at the first boundary of the new grid. -/
def execTickPeriodChange (s : State) : Result := act (periodChangeEffect) s

/-- R162: At the start of each fast tick, every prompt loop issues urgent requests for its measured inputs. -/
def execFastTick (j : Nat) (s : State) : Result := act (fastEffect j) s

/-- R162: At fast-tick start + T/N − 500 ns, a prompt loop updates with its missing inputs marked unusable. -/
def execPromptDeadline (loop : Fin 1024) (j : Nat) (s : State) : Result := act (deadlineEffect loop j) s

/-- R161: At (k+1)·T + 10 µs all period outputs, state and stage commands are released together. -/
def execPeriodRelease (s : State) : Result := act (periodReleaseEffect) s

/-- R236: The elapsed count of a step reaches the level of an ELAPSED term. -/
def execElapsedReached (sequence : Fin 16) (s : State) : Result := act (elapsedEffect sequence) s

/-- R238: A START with a start tick enters its first step at rank 5 of tick s − 1. -/
def execScheduledStart (sequence : Fin 16) (s : State) : Result := act (scheduledStartEffect sequence) s

/-- R178: A measured input's missing count reaches loss_ticks and the loop may enter fallback. -/
def execInputLost (loop : Fin 1024) (input : Fin 4) (s : State) : Result := act (declareInput loop input false) s

/-- R179: A measured input's freeze count reaches freeze_ticks and the loop may enter fallback. -/
def execInputFrozen (loop : Fin 1024) (input : Fin 4) (s : State) : Result := act (declareInput loop input true) s

/-- R182: A loop that has spent open_ticks in OPEN enters its after_open mode. -/
def execOpenTimeout (loop : Fin 1024) (s : State) : Result := act (openTimeoutEffect loop) s

/-- R183: Under AUTO, a loop returns bumplessly to CLOSED when its return count reaches return_ticks. -/
def execAutoReturn (loop : Fin 1024) (s : State) : Result := act (autoReturnEffect loop) s

/-- R197: After calm_ticks ticks without a freezing condition, learning of a repetitive slot resumes. -/
def execLearningResumed (rep : Fin 128) (slot : Fin 2) (s : State) : Result := act (resumeLearning rep slot) s

/-- R114: A converter slot ends and its sample word crosses to ENG with flags and tool-time stamp. -/
def execConversionEnd (group : Fin 12) (result : Conversion) (s : State) : Result := act (conversionEffect group result) s

/-- R103: A group's slot count wraps modulo 256 and a reference conversion becomes pending. -/
def execSlotCountWrap (group : Fin 12) (s : State) : Result := act (slotWrapEffect group) s

/-- R112: A channel's input passes its clamp threshold and the group's slots carry SETTLING. -/
def execClampDetect (channel : Fin 96) (s : State) : Result := act (clampDetectEffect channel) s

/-- R112: The last clamp of a group releases and SETTLING ends 10 µs later. -/
def execClampRelease (channel : Fin 96) (sub : Nat) (s : State) : Result := act (clampReleaseEffect channel sub) s

/-- R123: No end of conversion for 2 µs resets the group, which converts references and resumes its round. -/
def execGroupWatchdog (group : Fin 12) (s : State) : Result := act (groupWatchdogEffect group) s

/-- R101: An isolation bank's supply fails and the bank and its three groups retire. -/
def execBankSupplyFail (bank : Fin 4) (s : State) : Result := act (bankSupplyFailEffect bank) s

/-- R33: A gPTP Sync gives an offset measurement that drives the time-state transitions. -/
def execSyncReceived (uplink : Fin 2) (sync : SyncMessage) (s : State) : Result := act (syncEffect uplink sync) s

/-- R29: After 3 Sync intervals without a valid Sync, or an announce timeout, a gPTP source becomes invalid. -/
def execGptpSourceTimeout (loss : SourceLoss) (s : State) : Result := act (gptpTimeoutEffect loss.uplink loss.announce) s

/-- R129: As grandmaster, the module sends two-step Sync on each field port every 31.25 ms. -/
def execFieldSyncSend (s : State) : Result := act (fieldSyncEffect) s

/-- R129: The module answers a peer delay request on a field port. -/
def execPdelayRequest (port : PortId) (s : State) : Result := act (pdelayEffect port) s

/-- R47: A follower receives a HAL_TICK edge that disciplines phase and carries a bit of the tick frame. -/
def execHalyardEdge (edge : HalEdge) (s : State) : Result := act (halyardEdgeEffect edge) s

/-- R47: No HAL_TICK edge within 2·T makes Halyard invalid. -/
def execHalyardTimeout (s : State) : Result := act (halyardTimeoutEffect) s

/-- R48: A BACKUP_MASTER that sees no edge for 3·T starts driving HAL_TICK. -/
def execBackupMasterTakeover (s : State) : Result := act (takeoverEffect) s

/-- R308: The master changes HAL_ARM at (a+1)·T + T/4 after 0x0A.24. -/
def execHalArmDrive (s : State) : Result := act (halArmDriveEffect) s

/-- R49: A HAL_ARM edge arms or disarms the unit from the boundary of the next tick. -/
def execHalArmEdge (high : Bool) (s : State) : Result := act (halArmEdgeEffect high) s

/-- R309: An armed unit with a fire_hal firing pulls HAL_FIRE_N in its slot and releases it at 3T/4. -/
def execHalFireDrive (s : State) : Result := act (halFireDriveEffect) s

/-- R309: Every armed unit stamps the first HAL_FIRE_N falling edge and places a HALYARD mark naming the firing unit. -/
def execHalFireEdge (sub : Nat) (s : State) : Result := act (halFireEdgeEffect sub) s

/-- R420: A proceeding master raises HAL_ACT at (a_t − 1)·T + T/4 and lowers it at 3T/4. -/
def execHalActDrive (s : State) : Result := act (halActDriveEffect) s

/-- R420: A member on Halyard stamps the rising HAL_ACT that lets it proceed with activation. -/
def execHalActEdge (s : State) : Result := act (halActEdgeEffect) s

/-- R137: A cyclic input frame arrives and, when timely and matching, sets the port's input points. -/
def execFieldInputFrame (port : Fin 48) (arrival : FieldArrival) (fcsOk : Bool) (s : State) : Result :=
  act (fieldInputEffect port arrival.payload fcsOk arrival.sub) s

/-- R137: At boundary k+1 + 10 µs each port builds and sends its output frame with claim and Shroud block. -/
def execFieldOutputFrame (port : Fin 48) (s : State) : Result := act (fieldOutputEffect port) s

/-- R141: A field port loses link, counts a transient event and retrains. -/
def execPortLinkLoss (port : PortId) (s : State) : Result := act (portLossEffect port) s

/-- R141: A port that has not regained link within 1 s, or an uplink within 10 s, retires. -/
def execLinkRegainTimeout (port : PortId) (s : State) : Result := act (linkTimeoutEffect port) s

/-- R140: An acyclic parameter segment is received from a node. -/
def execAcyclicSegment (port : Fin 48) (segment : List Byte) (last : Bool) (s : State) : Result := act (acyclicSegmentEffect port segment last) s

/-- R140: A segment unanswered within 100 cycles is sent again, up to 3 times in all. -/
def execAcyclicTimeout (port : Fin 48) (s : State) : Result := act (acyclicTimeoutEffect port) s

/-- R144: An uplink loss of link, failed training or FCS-error second counts a transient event and may retire it. -/
def execUplinkFault (uplink : Fin 4) (fault : UplinkFault) (s : State) : Result := act (uplinkEffect uplink fault) s

/-- R143: The module answers an ARP request for its address. -/
def execArpRequest (path : Path) (target : U32) (s : State) : Result := act (arpEffect path target) s

/-- R143: The module answers an ICMP echo request on an uplink. -/
def execIcmpEchoRequest (uplink : Fin 4) (dst : U32) (data : List Byte) (s : State) : Result := act (echoEffect uplink dst data) s

/-- R54: A partial request datagram is discarded 100 ms after its first fragment. -/
def execFragmentTimeout (path : Path) (s : State) : Result := act (fragmentEffect path) s

/-- R60: A request with QUERY returns the stored response or the state of the open request. -/
def execQuery (cls : Byte) (opcode : Byte) (d : Datagram) (s : State) : Result := act (receive (Op.ofCode cls opcode) cls opcode d) s

/-- R60: A request with COMPLETION_ACK acknowledges a completion notice. -/
def execCompletionAck (cls : Byte) (opcode : Byte) (d : Datagram) (s : State) : Result := act (receive (Op.ofCode cls opcode) cls opcode d) s

/-- R61: A long-running command completes, its final status is stored and a completion notice is sent. -/
def execLongRunningCompletion (mailbox : Fin 64) (outcome : LongOutcome) (s : State) : Result := act (longCompletionEffect mailbox outcome) s

/-- R61: An unacknowledged completion notice is sent again every 250 ms, 8 notices in all. -/
def execCompletionNoticeResend (mailbox : Fin 64) (s : State) : Result := act (noticeEffect mailbox) s

/-- R97: A point snapshot buffer is freed 10 s after it was taken or last read. -/
def execSnapshotExpiry (buffer : Fin 4) (s : State) : Result := act (snapshotExpiryEffect buffer) s

/-- R198: A repetitive-memory snapshot buffer is freed 10 s after it was taken or last read. -/
def execRepSnapshotExpiry (buffer : Fin 4) (s : State) : Result := act (repSnapshotExpiryEffect buffer) s

/-- R331: A recorder cursor is freed after 60 s without use. -/
def execCursorExpiry (cursor : Fin 16) (s : State) : Result := act (cursorExpiryEffect cursor) s

/-- R74: The service link is down for 10 s, or no request arrives on mailboxes 0 to 3 for 600 s, and the module leaves SERVICE. -/
def execServiceTimeout (s : State) : Result := act (serviceTimeoutEffect) s

/-- R361: A safety session ends after 600 s without a request. -/
def execSessionTimeout (s : State) : Result := actAlways (sessionTimeoutEffect) s

/-- R252: A CYCLIC task starts at a boundary with m mod n = p and latches its inputs. -/
def execCyclicTaskStart (core : Fin 4) (task : Fin 8) (s : State) : Result := act (cyclicStartEffect (8 * core.val + task.val)) s

/-- R253: An EVENT task whose trigger condition changed starts at the next boundary, unless suppressed. -/
def execEventTaskStart (core : Fin 4) (task : Fin 8) (s : State) : Result := act (eventStartEffect (8 * core.val + task.val)) s

/-- R257: A cycle stages its outputs, writes retentive data and its commit marker, and its outputs are applied at rank 7. -/
def execTaskEnd (core : Fin 4) (task : Fin 8) (cycle : CycleEnd) (s : State) : Result := act (taskEndBulk core task cycle) s

/-- R261: A trap ends the cycle without commit and counts a transient event of the task. -/
def execCigenTrap (core : Fin 4) (task : Fin 8) (code : Byte) (pc : U32) (s : State) : Result := act (trapEffect (8 * core.val + task.val) code.toNat pc.toNat) s

/-- R272: At the first boundary after tick c with no task running, the running set is exchanged for the staged set. -/
def execOnlineChangeBoundary (s : State) : Result := act (onlineChangeEffect) s

/-- R272: No exchange boundary within window_ms ends the online change BUSY. -/
def execOnlineChangeTimeout (s : State) : Result := act (onlineTimeoutEffect) s

/-- R289: At boundary k+2 the records of tick k are packed into frames in the ring and sent. -/
def execRecordPacking (s : State) : Result := act (recordPackingEffect) s

/-- R294: A valid acknowledgement frees frames below ack_seq and resends frames named by nacks. -/
def execAcknowledgement (uplink : Fin 2) (route : StreamRoute) (bytes : List Byte) (s : State) : Result :=
  act (acknowledgementEffect uplink route.srcAddr route.dstAddr route.dstPort bytes) s

/-- R295: No valid acknowledgement on the stream path for ack_timeout loses the path and moves the stream. -/
def execPathTimeout (s : State) : Result := act (pathTimeoutEffect) s

/-- R295: While the host is unreachable, a probe frame is sent every 1 s alternately on U0 and U1. -/
def execProbeSend (s : State) : Result := act (probeSendEffect) s

/-- R311: At each multiple of c a capture of the sources is taken into the current segment. -/
def execSegmentCapture (s : State) : Result := act (segmentCaptureEffect) s

/-- R323: When 64 entries are pending, or 200 ms after the oldest, the recorder commits a batch to NAND and writes its marker. -/
def execBatchCommit (s : State) : Result := act (batchCommitEffect) s

/-- R324: A code's token bucket below its burst gains one token every interval. -/
def execTokenRefill (code : U16) (s : State) : Result := act (tokenRefillEffect code.toNat) s

/-- R324: A suppressed count not carried within 60 s goes into a SUPPRESSED_SUMMARY record. -/
def execSuppressedSummary (s : State) : Result := act (suppressedSummaryEffect) s

/-- R340: Every 250 µs the island samples all input pairs, evaluates the safety logic and drives its outputs. -/
def execSafetySample (io : SafetyIO) (s : State) : Result := actAlways (safetySampleEffect io) s

/-- R361: The confirmation pattern not completed within 30 s ends confirmation and leaves the configuration pending. -/
def execConfirmationTimeout (s : State) : Result := actAlways (confirmTimeoutEffect) s

/-- R346: Once per second, at offset 80 ms × m, a dark or bright pulse tests one switch of an output. -/
def execTestPulse (output : Fin 12) (s : State) : Result := actAlways (testPulseEffect output) s

/-- R346: At the end of a test pulse the island checks the read-back and restores the commanded state. -/
def execTestPulseEnd (output : Fin 12) (readbackOk : Bool) (s : State) : Result := actAlways (testPulseEndEffect output readbackOk) s

/-- R344: An overload lasting 10 ms opens both switches of a safety output and sets its overload bit. -/
def execSafetyOutputOverload (output : Fin 12) (s : State) : Result := actAlways (overloadEffect output) s

/-- R353: Every 1 ms the island cross-compares each axis's sources and supervises its stop and limit functions. -/
def execAxisEvaluation (s : State) : Result := actAlways (axisEvaluationEffect) s

/-- R337: No tick boundary in the mirror for 2 ms puts the island into lock-out with cause 0x0C. -/
def execTickMirrorSilent (s : State) : Result := actAlways (islandFaultEffect 12) s

/-- R338: VSAFE outside [18.0 V, 32.0 V] for more than 1 ms is a safety fault with cause 0x09. -/
def execVsafeFault (s : State) : Result := actAlways (vsafeFaultEffect) s

/-- R338: An island rail, oscillator or die temperature out of tolerance is a safety fault with cause 0x0A. -/
def execIslandMonitorFault (s : State) : Result := actAlways (islandFaultEffect 10) s

/-- R338: The island lockstep cores disagree, a safety fault with cause 0x01. -/
def execIslandLockstepMismatch (s : State) : Result := actAlways (islandFaultEffect 1) s

/-- R335: The island watchdog resets the island when a sample evaluation is not completed within 1 ms. -/
def execIslandWatchdog (s : State) : Result := actAlways (islandWatchdogEffect) s

/-- R338: Every 10 s the island scrubs its SRAM and checks its configuration CRC. -/
def execIslandScrub (memoryOk : Bool) (configOk : Bool) (s : State) : Result := actAlways (islandScrubEffect memoryOk configOk) s

/-- R336: A frame on the configuration connection gives the island the module mode and possibly a class 0x0C command. -/
def execConfigConnectionFrame (s : State) : Result := act (configConnectionEffect) s

/-- R421: The island reads and checks its new firmware section, then starts it in lock-out or stays on its running firmware. -/
def execIslandFirmwareRestart (s : State) : Result := actAlways (islandFirmwareEffect) s

/-- R371: A Shroud frame is checked and accepted, discarded or counted as an error on its connection. -/
def execShroudFrame (connection : Fin 64) (arrival : ShroudArrival) (s : State) : Result := actAlways (shroudFrameEffect connection arrival) s

/-- R377: An uplink Shroud datagram is checked and its frames are passed to the connections. -/
def execShroudDatagram (path : Fin 2) (srcAddr : U32) (bytes : List Byte) (stampNs : Nat) (s : State) : Result := actAlways (shroudDatagramEffect path srcAddr bytes stampNs) s

/-- R374: A connection watchdog expires, the connection goes LOST and a required connection faults. -/
def execShroudWatchdogExpiry (connection : Fin 64) (s : State) : Result := actAlways (watchdogExpiryEffect connection) s

/-- R380: No copy on a DUAL path for more than one window marks the path missing with a warning. -/
def execPathMissing (connection : Fin 64) (path : Fin 2) (s : State) : Result := actAlways (pathMissingEffect connection path) s

/-- R380: A DUAL path missing for more than 3 windows is a safety fault with cause 0x08. -/
def execPathMissingFault (connection : Fin 64) (path : Fin 2) (s : State) : Result := actAlways (pathFaultEffect connection path) s

/-- R377: At boundary k+1 + 10 µs each unit sends its UPLINK Shroud datagram on each uplink concerned. -/
def execShroudUplinkSend (s : State) : Result := act (shroudUplinkEffect) s

/-- R201: A peer claim word passing its checks sets each stage DRIVING, ASIDE or HELD. -/
def execClaimWord (word : U32) (s : State) : Result := act (claimWordEffect word) s

/-- R201: No valid peer claim word for 3 µs sets stages HELD and claim_lost. -/
def execClaimWordTimeout (s : State) : Result := act (claimTimeoutEffect) s

/-- R211: A read-back shortfall of more than 0.08 mA held for 1 ms sets or clears compliance. -/
def execComplianceDetect (channel : Fin 48) (present : Bool) (s : State) : Result := act (complianceEffect channel present) s

/-- R211: Less than 0.2 mA flowing for 1 ms with more than 4 mA applied sets open. -/
def execOpenLoopDetect (channel : Fin 48) (present : Bool) (s : State) : Result := act (openLoopEffect channel present) s

/-- R212: A stage at 150 °C junction lowers its current limit in steps, and restores it below 140 °C. -/
def execFoldback (channel : Fin 48) (junction : F32) (s : State) : Result := act (foldbackEffect channel junction) s

/-- R213: A current-loop mismatch count exceeding 10 ms ÷ T retires the channel. -/
def execReadbackMismatch (channel : Fin 48) (s : State) : Result := act (readbackMismatchEffect channel) s

/-- R217: A fast-output monitor reading off by more than 0.1 % for more than 10 ms retires the output. -/
def execMonitorMismatch (output : Fin 16) (s : State) : Result := act (monitorMismatchEffect output) s

/-- R219: A filtered digital input edge is stamped, counted and latched. -/
def execDigitalInputEdge (channel : Fin 64) (level : Bool) (sub : Nat) (s : State) : Result := act (digitalEdgeEffect channel level sub) s

/-- R220: A digital output overload switches it off and counts a transient event. -/
def execOutputOverload (channel : Fin 64) (s : State) : Result := act (outputOverloadEffect channel) s

/-- R220: An overloaded output commanded ON retries every 100 ms. -/
def execOverloadRetry (channel : Fin 64) (s : State) : Result := act (overloadRetryEffect channel) s

/-- R220: Less than 5 mA for 100 ms in the ON state sets open. -/
def execOpenLoadDetect (channel : Fin 64) (s : State) : Result := act (openLoadEffect channel) s

/-- R220: A digital output land level differing from the applied state for more than 1 ms counts a transient event. -/
def execLandMismatch (channel : Fin 64) (s : State) : Result := act (landMismatchEffect channel) s

/-- R469: DSUP_g falls below or returns above 17 V, switching the group's outputs off or back. -/
def execDsupUndervoltage (group : Fin 8) (below : Bool) (s : State) : Result := act (dsupEffect group below) s

/-- R393: A HEARTBEAT frame from the peer is received on the Stay link. -/
def execHeartbeat (hb : HeartbeatFrame) (s : State) : Result := act (heartbeatEffect hb) s

/-- R393: Each unit sends a HEARTBEAT at every boundary plus 2 µs. -/
def execHeartbeatSend (s : State) : Result := act (heartbeatSendEffect) s

/-- R397: No valid HEARTBEAT for 3 ticks, or the Stay link down, puts the unit into SPLIT or SOLO. -/
def execHeartbeatLoss (stayDown : Bool) (s : State) : Result := act (heartbeatLossEffect stayDown) s

/-- R386: The Stay link comes up and the pair checks of unit bit, digest and schema run. -/
def execStayLinkUp (peer : PeerInfo) (s : State) : Result := act (stayEffect peer) s

/-- R394: The active unit sends the mirror of tick k from 0.5 µs after its release. -/
def execMirrorSend (s : State) : Result := act (mirrorSendEffect) s

/-- R395: A MIRROR part of a tick is received by the standby. -/
def execMirrorFrame (frame : MirrorFrame) (s : State) : Result := act (mirrorFrameEffect frame) s

/-- R395: At (k+1)·T + 75 µs the standby loads the mirrored outputs into its ASIDE stages. -/
def execLoadPoint (s : State) : Result := act (loadPointEffect) s

/-- R395: A mirror incomplete 2 µs before boundary k+2, or a digest mismatch, puts the standby into SYNC. -/
def execMirrorDeadline (s : State) : Result := act (judgeMirror) s

/-- R396: A BULK item of configuration or committed instance data arrives and is applied at the next boundary. -/
def execBulkItem (arrival : BulkArrival) (s : State) : Result := act (bulkItemEffect arrival.frames arrival.item) s

/-- R395: A CONTROL frame requests a missing mirror part again. -/
def execControlFrame (header rest : List Byte) (s : State) : Result := act (controlFrameEffect (header ++ rest)) s

/-- R403: A unit sends and receives a HEALTH report every 1 s. -/
def execHealthFrame (arrival : HealthArrival) (s : State) : Result := act (healthEffect arrival.frame arrival.report) s

/-- R392: A unit that gave up after a complete mirror changes its claim at the load point of its last released tick. -/
def execClaimChangeDelayed (s : State) : Result := act (claimDelayedEffect) s

/-- R397: With both links lost, a standby promotes after the witnesses report the peer's frames stopped for promote_ticks ticks. -/
def execWitnessPromotion (s : State) : Result := act (witnessPromotionEffect) s

/-- R391: An active unit in SOLO unsupported by any witness for 2 ticks gives up with cause 0x05. -/
def execWitnessLossGiveUp (s : State) : Result := act (witnessLossEffect) s

/-- R396: An active unit whose standby reports a grade yield_margin higher for 10 s gives up with cause 0x07. -/
def execAutomaticYield (s : State) : Result := act (yieldEffect) s

/-- R402: A standby sweeps one stage into the test load, each stage every 120 s. -/
def execSelfTestSweep (stage : StageId) (measured : List F32) (s : State) : Result := act (selfTestEffect stage measured) s

/-- R419: At the deadline tick the unit judges its readiness and the group's readiness for activation. -/
def execActivationDeadline (s : State) : Result := act (activationDeadlineEffect) s

/-- R419: At the boundary of a_t − 1 the unit proceeds with activation or defers with a reason. -/
def execActivationProceed (s : State) : Result := act (activationProceedEffect) s

/-- R419: A proceeding unit restarts at the boundary of a_t and enters ACTIVATE. -/
def execActivationRestart (s : State) : Result := act (activationRestartEffect) s

/-- R422: With auto_confirm set, grade 5 held for confirm_hold_s confirms RUN. -/
def execAutoConfirm (s : State) : Result := act (autoConfirmEffect) s

/-- R424: The 600 s window closes without confirmation and RUN becomes REJECTED. -/
def execConfirmationWindowClose (s : State) : Result := act (windowCloseEffect) s

/-- R482: The monitor lists the commands available. -/
def execMonHelp (line : MonitorLine) (s : State) : Result := act (monHelpEffect line) s

/-- R482: The monitor prints the fields of 0x01.01. -/
def execMonId (s : State) : Result := act (monIdEffect) s

/-- R482: The monitor prints mode, time state and pair role. -/
def execMonMode (s : State) : Result := act (monModeEffect) s

/-- R482: The monitor prints the fields of 0x0F.01. -/
def execMonHealth (s : State) : Result := act (monHealthEffect) s

/-- R482: The monitor starts printing the tick index and time state every second until a character arrives. -/
def execMonTick (s : State) : Result := act (monTickEffect) s

/-- R482: Each second of tool time the monitor prints one TICK line. -/
def execMonitorTickLine (s : State) : Result := act (monTickLineEffect) s

/-- R482: The monitor prints point entries. -/
def execMonPt (point : Nat) (count : Option Nat) (s : State) : Result := act (monPtEffect point count) s

/-- R482: The monitor prints the newest general-log records. -/
def execMonRec (count : Option Nat) (s : State) : Result := act (monRecEffect count) s

/-- R483: The monitor prints the start-up trace again. -/
def execMonTrace (s : State) : Result := act (monTraceEffect) s

/-- R141: A field port, uplink or service port gains link after training, so its cyclic traffic, mailbox or stream path can resume. -/
def execPortLinkUp (port : PortId) (s : State) : Result := act (portUpEffect port) s

/-- R74: The service port link goes down, which starts the 10 s count after which the module leaves SERVICE. -/
def execServiceLinkDown (s : State) : Result := act (serviceDownEffect) s

/-- R390: Every 1 µs the claim composer sends one claim word with the current claim on CLM_TX_P/N, including grade-0 words through a whole-module reset. -/
def execClaimWordSend (s : State) : Result := actAlways (claimSendEffect) s

/-- R388: A time-bounded grade cap (a DRAM page retired in the last 24 h, Stay-link errors over the last 60 s, a self-test failed in the last 600 s) lapses and the health grade rises. -/
def execGradeCapExpiry (cap : TimedCap) (s : State) : Result := act (capExpiryEffect cap) s

/-- R29: On U0 and U1 the module runs the peer-to-peer delay exchange of IEEE 802.1AS as a time-aware end station. -/
def execPeerDelayMeasurement (uplink : Fin 2) (delayNs : Nat) (s : State) : Result := act (peerDelayEffect uplink delayNs) s

/-- R482: Any character received on MON_RX ends the running TICK output of the monitor. -/
def execMonitorCharacterReceived (_ : Byte) (s : State) : Result := act (monCharacterEffect) s

end Sys2Proof.Machine
end

