-- ==== Sys2Proof/Machine/Requests.lean ====
section
/-! DEFINITION. The meanings of the mailbox commands: each is a request datagram that arrives (R54 to R76). What the
command does stands with its check and run in the file of its chapter (Commands.lean lists them). -/

namespace Sys2Proof.Machine

/-- R76: Returns ordering code, serial, firmware version, slot and counters. -/
def execIdentify (d : Datagram) (s : State) : Result := act (request .identify d) s

/-- R76: Returns the mode, the previous mode, the cause of the last change and sequence counts. -/
def execGetMode (d : Datagram) (s : State) : Result := act (request .getMode d) s

/-- R76: Returns a mailbox's status word, tag, binding and counts. -/
def execGetMailbox (d : Datagram) (s : State) : Result := act (request .getMailbox d) s

/-- R76: Returns the datagram drop counts by cause. -/
def execGetDrops (d : Datagram) (s : State) : Result := act (request .getDrops d) s

/-- R76: Returns a one-use nonce for ENTER_SERVICE. -/
def execGetChallenge (d : Datagram) (s : State) : Result := act (request .getChallenge d) s

/-- R76: Checks the hmac over the nonce and enters SERVICE. -/
def execEnterService (d : Datagram) (s : State) : Result := act (request .enterService d) s

/-- R76: Leaves SERVICE for CONFIGURE or LOCKOUT with settings reloaded. -/
def execLeaveService (d : Datagram) (s : State) : Result := act (request .leaveService d) s

/-- R76: Stops loops and programs and enters CONFIGURE from IDLE. -/
def execEnterConfigure (d : Datagram) (s : State) : Result := act (request .enterConfigure d) s

/-- R76: Leaves CONFIGURE for IDLE, or SYNC for a pair member, when the configuration is complete. -/
def execGoIdle (d : Datagram) (s : State) : Result := act (request .goIdle d) s

/-- R76: Resets the supervisor domain after sending DONE. -/
def execRestartSupervisor (d : Datagram) (s : State) : Result := act (request .restartSupervisor d) s

/-- R76: Orders a whole-module reset 10 ms after DONE. -/
def execRestartModule (d : Datagram) (s : State) : Result := act (request .restartModule d) s

/-- R484: Sets the compatibility bits, effective at the next entry to IDLE. -/
def execSetCompat (d : Datagram) (s : State) : Result := act (request .setCompat d) s

/-- R66: Binds a mailbox to a role and source filter, with an audit record. -/
def execSetBinding (d : Datagram) (s : State) : Result := act (request .setBinding d) s

/-- R76: Returns all 64 mailbox bindings. -/
def execGetBindings (d : Datagram) (s : State) : Result := act (request .getBindings d) s

/-- R76: Sets the mailbox UDP port, effective from the next entry to CONFIGURE. -/
def execSetMailboxPort (d : Datagram) (s : State) : Result := act (request .setMailboxPort d) s

/-- R51: Returns tool time, tick index, time state, source, period and N. -/
def execGetTime (d : Datagram) (s : State) : Result := act (request .getTime d) s

/-- R51: Returns offset, slew, pending step, holdover and source states. -/
def execGetTimeDetail (d : Datagram) (s : State) : Result := act (request .getTimeDetail d) s

/-- R36: Sets T and N, effective at a boundary of the new grid. -/
def execSetTick (d : Datagram) (s : State) : Result := act (request .setTick d) s

/-- R28: Sets the time role, unit number, Halyard delay and free_run_allowed. -/
def execSetTimeRole (d : Datagram) (s : State) : Result := act (request .setTimeRole d) s

/-- R51: Sets the gPTP domain and enables U1 as a source. -/
def execSetGptp (d : Datagram) (s : State) : Result := act (request .setGptp d) s

/-- R31: Takes a pending step of tool time in CONFIGURE. -/
def execStepTime (d : Datagram) (s : State) : Result := act (request .stepTime d) s

/-- R97: Returns listed point entries as after the resolution of one tick. -/
def execReadPoints (d : Datagram) (s : State) : Result := act (request .readPoints d) s

/-- R97: Returns a range of point entries as after one tick. -/
def execReadRange (d : Datagram) (s : State) : Result := act (request .readRange d) s

/-- R97: Copies all 8,192 entries into a snapshot buffer. -/
def execTakeSnapshot (d : Datagram) (s : State) : Result := act (request .takeSnapshot d) s

/-- R97: Returns part of a snapshot buffer. -/
def execReadSnapshot (d : Datagram) (s : State) : Result := act (request .readSnapshot d) s

/-- R97: Frees a snapshot buffer. -/
def execFreeSnapshot (d : Datagram) (s : State) : Result := act (request .freeSnapshot d) s

/-- R87: Writes host-owned points, all or none, with the lower mailbox winning a same-tick conflict. -/
def execWritePoints (d : Datagram) (s : State) : Result := act (request .writePoints d) s

/-- R90: Forces a point's value for every reader, with an audit record. -/
def execSetForce (d : Datagram) (s : State) : Result := act (request .setForce d) s

/-- R92: Removes one or all forces, restoring the underlying value at the next boundary. -/
def execRemoveForce (d : Datagram) (s : State) : Result := act (request .removeForce d) s

/-- R99: Returns the forces with their underlying values. -/
def execListForces (d : Datagram) (s : State) : Result := act (request .listForces d) s

/-- R83: Sets owner and format of points, effective at entry to IDLE. -/
def execSetPointConfig (d : Datagram) (s : State) : Result := act (request .setPointConfig d) s

/-- R83: Returns the configured owners and formats. -/
def execGetPointConfig (d : Datagram) (s : State) : Result := act (request .getPointConfig d) s

/-- R99: Returns non-finite and non-owner write counts per block. -/
def execGetWriteFaults (d : Datagram) (s : State) : Result := act (request .getWriteFaults d) s

/-- R127: Returns an analogue channel's configuration, last word and counts. -/
def execGetChannelStatus (d : Datagram) (s : State) : Result := act (request .getChannelStatus d) s

/-- R127: Returns a converter group's state, trims, temperature and counts. -/
def execGetGroupStatus (d : Datagram) (s : State) : Result := act (request .getGroupStatus d) s

/-- R108: Sets enable, range and point mode of analogue channels. -/
def execSetChannelConfig (d : Datagram) (s : State) : Result := act (request .setChannelConfig d) s

/-- R127: Returns analogue channel configurations. -/
def execGetChannelConfig (d : Datagram) (s : State) : Result := act (request .getChannelConfig d) s

/-- R127: Enables or disables a channel in the round from the next tick. -/
def execSetEnable (d : Datagram) (s : State) : Result := act (request .setEnable d) s

/-- R121: Returns a channel or group calibration record. -/
def execReadCalibration (d : Datagram) (s : State) : Result := act (request .readCalibration d) s

/-- R127: Sets a channel's user gain and offset trim. -/
def execSetUserTrim (d : Datagram) (s : State) : Result := act (request .setUserTrim d) s

/-- R124: Sets a converter group's fault counter threshold. -/
def execSetFaultThreshold (d : Datagram) (s : State) : Result := act (request .setFaultThreshold d) s

/-- R125: Checks and releases a retired converter group. -/
def execReleaseGroup (d : Datagram) (s : State) : Result := act (request .releaseGroup d) s

/-- R127: Clears a group's channel counts. -/
def execClearCounters (d : Datagram) (s : State) : Result := act (request .clearCounters d) s

/-- R145: Returns a field port's state, node and counts. -/
def execGetPortStatus (d : Datagram) (s : State) : Result := act (request .getPortStatus d) s

/-- R145: Returns an uplink's link, role and counts. -/
def execGetUplinkStatus (d : Datagram) (s : State) : Result := act (request .getUplinkStatus d) s

/-- R136: Configures a field port's role, entries, timing, watchdog and node identity. -/
def execSetPortConfig (d : Datagram) (s : State) : Result := act (request .setPortConfig d) s

/-- R145: Returns a field port's configuration. -/
def execGetPortConfig (d : Datagram) (s : State) : Result := act (request .getPortConfig d) s

/-- R139: Sets release in output frames until the node reports safe_state clear. -/
def execReleaseNode (d : Datagram) (s : State) : Result := act (request .releaseNode d) s

/-- R140: Writes a node parameter block in acyclic segments. -/
def execWriteNodeParams (d : Datagram) (s : State) : Result := act (request .writeNodeParams d) s

/-- R140: Reads a node parameter block in acyclic segments. -/
def execReadNodeParams (d : Datagram) (s : State) : Result := act (request .readNodeParams d) s

/-- R141: Sets the fault threshold of a field port or uplink. -/
def execSetPortFaultThreshold (d : Datagram) (s : State) : Result := act (request .setPortFaultThreshold d) s

/-- R141: Releases a retired field port after 64 valid frames within 1 s. -/
def execReleasePort (d : Datagram) (s : State) : Result := act (request .releasePort d) s

/-- R145: Clears port counters. -/
def execClearPortCounters (d : Datagram) (s : State) : Result := act (request .clearPortCounters d) s

/-- R143: Sets an uplink's role, address, mask, gateway and MTU. -/
def execSetUplink (d : Datagram) (s : State) : Result := act (request .setUplink d) s

/-- R145: Returns an uplink's configuration. -/
def execGetUplinkConfig (d : Datagram) (s : State) : Result := act (request .getUplinkConfig d) s

/-- R144: Restarts and releases a retired uplink. -/
def execReleaseUplink (d : Datagram) (s : State) : Result := act (request .releaseUplink d) s

/-- R176: Returns a loop's wiring and start state. -/
def execGetLoopConfig (d : Datagram) (s : State) : Result := act (request .getLoopConfig d) s

/-- R175: Returns a loop's status word, outputs and state. -/
def execGetLoopStatus (d : Datagram) (s : State) : Result := act (request .getLoopStatus d) s

/-- R176: Returns loop engine load figures. -/
def execGetEngineLoad (d : Datagram) (s : State) : Result := act (request .getEngineLoad d) s

/-- R158: Sets a loop's wiring and resets its supervision part to defaults. -/
def execSetLoopWiring (d : Datagram) (s : State) : Result := act (request .setLoopWiring d) s

/-- R171: Writes a loop's inactive coefficient bank and parameter set after checks. -/
def execWriteBank (d : Datagram) (s : State) : Result := act (request .writeBank d) s

/-- R176: Returns a coefficient bank and parameter set. -/
def execReadBank (d : Datagram) (s : State) : Result := act (request .readBank d) s

/-- R176: Sets the loops of a swap group. -/
def execSetSwapGroup (d : Datagram) (s : State) : Result := act (request .setSwapGroup d) s

/-- R172: Schedules a bank swap for a loop or group at tick s. -/
def execSwap (d : Datagram) (s : State) : Result := act (request .swap d) s

/-- R176: Cancels a pending swap, which ends SUPERSEDED. -/
def execCancelSwap (d : Datagram) (s : State) : Result := act (request .cancelSwap d) s

/-- R171: Copies the active bank into the inactive bank. -/
def execCopyActive (d : Datagram) (s : State) : Result := act (request .copyActive d) s

/-- R166: Starts loops bumplessly from the update of tick a + 2. -/
def execStartLoops (d : Datagram) (s : State) : Result := act (request .startLoops d) s

/-- R167: Stops loops from tick a + 2, leaving outputs at their last value. -/
def execStopLoops (d : Datagram) (s : State) : Result := act (request .stopLoops d) s

/-- R166: Sets a loop's start estimate. -/
def execSetStartState (d : Datagram) (s : State) : Result := act (request .setStartState d) s

/-- R169: Releases a retired loop and restarts it bumplessly. -/
def execReleaseLoop (d : Datagram) (s : State) : Result := act (request .releaseLoop d) s

/-- R150: Sets a loop's numeric fault threshold. -/
def execSetLoopFaultThreshold (d : Datagram) (s : State) : Result := act (request .setLoopFaultThreshold d) s

/-- R177: Sets a loop's supervision part from tick a + 2. -/
def execSetSupervision (d : Datagram) (s : State) : Result := act (request .setSupervision d) s

/-- R199: Returns a loop's supervision settings and counts. -/
def execGetSupervision (d : Datagram) (s : State) : Result := act (request .getSupervision d) s

/-- R183: Returns a loop in fallback to CLOSED from tick a + 2. -/
def execReturnClosed (d : Datagram) (s : State) : Result := act (request .returnClosed d) s

/-- R184: Puts a loop into a chosen fallback mode from tick a + 2. -/
def execEnterFallback (d : Datagram) (s : State) : Result := act (request .enterFallback d) s

/-- R187: Configures a ramp's source, points, initial value and limits. -/
def execSetRampConfig (d : Datagram) (s : State) : Result := act (request .setRampConfig d) s

/-- R199: Returns a ramp's state and points. -/
def execGetRamp (d : Datagram) (s : State) : Result := act (request .getRamp d) s

/-- R187: Sets the target of a HOST ramp. -/
def execSetRampTarget (d : Datagram) (s : State) : Result := act (request .setRampTarget d) s

/-- R187: Sets rate_t and accel_t of a HOST or POINT ramp. -/
def execSetRampLimits (d : Datagram) (s : State) : Result := act (request .setRampLimits d) s

/-- R193: Configures a repetitive controller. -/
def execSetRepConfig (d : Datagram) (s : State) : Result := act (request .setRepConfig d) s

/-- R199: Returns a repetitive controller's state and counts. -/
def execGetRepStatus (d : Datagram) (s : State) : Result := act (request .getRepStatus d) s

/-- R196: Sets a repetitive controller OFF, HOLD_MEMORY or LEARN from tick a + 2. -/
def execSetRepState (d : Datagram) (s : State) : Result := act (request .setRepState d) s

/-- R198: Copies a controller's memory into a snapshot buffer. -/
def execSnapshotRepMemory (d : Datagram) (s : State) : Result := act (request .snapshotRepMemory d) s

/-- R198: Returns cells of a memory snapshot. -/
def execReadRepMemory (d : Datagram) (s : State) : Result := act (request .readRepMemory d) s

/-- R198: Stages memory cells for a later commit. -/
def execWriteRepMemory (d : Datagram) (s : State) : Result := act (request .writeRepMemory d) s

/-- R198: Checks the staged cells and replaces both slots at once. -/
def execCommitRepMemory (d : Datagram) (s : State) : Result := act (request .commitRepMemory d) s

/-- R199: Clears a controller's memory from tick a + 2. -/
def execClearRepMemory (d : Datagram) (s : State) : Result := act (request .clearRepMemory d) s

/-- R198: Frees a memory snapshot buffer. -/
def execFreeRepSnapshot (d : Datagram) (s : State) : Result := act (request .freeRepSnapshot d) s

/-- R215: Returns a current-loop channel's stage status and readings. -/
def execGetClStatus (d : Datagram) (s : State) : Result := act (request .getClStatus d) s

/-- R223: Returns a fast output's drive, code and monitor reading. -/
def execGetFaoStatus (d : Datagram) (s : State) : Result := act (request .getFaoStatus d) s

/-- R223: Returns a digital channel's state and counts. -/
def execGetDioStatus (d : Datagram) (s : State) : Result := act (request .getDioStatus d) s

/-- R205: Configures a current-loop channel's mode, alarm, clamp and idle state. -/
def execSetClConfig (d : Datagram) (s : State) : Result := act (request .setClConfig d) s

/-- R223: Returns a stage's configuration. -/
def execGetStageConfig (d : Datagram) (s : State) : Result := act (request .getStageConfig d) s

/-- R208: Sets or clears ALARM on a current-loop output from the release of tick a. -/
def execSetClAlarm (d : Datagram) (s : State) : Result := act (request .setClAlarm d) s

/-- R223: Configures a fast output's idle state. -/
def execSetFaoConfig (d : Datagram) (s : State) : Result := act (request .setFaoConfig d) s

/-- R218: Configures digital channels' direction, filter, idle and open-load. -/
def execSetDioConfig (d : Datagram) (s : State) : Result := act (request .setDioConfig d) s

/-- R214: Tests a stage at three values into its test load. -/
def execRunTestLoad (d : Datagram) (s : State) : Result := act (request .runTestLoad d) s

/-- R214: Tests and releases a retired stage. -/
def execReleaseStage (d : Datagram) (s : State) : Result := act (request .releaseStage d) s

/-- R220: Sets a stage's fault counter threshold. -/
def execSetStageFaultThreshold (d : Datagram) (s : State) : Result := act (request .setStageFaultThreshold d) s

/-- R249: Returns a sequence's state word, step and images. -/
def execGetSequenceStatus (d : Datagram) (s : State) : Result := act (request .getSequenceStatus d) s

/-- R249: Returns a sequence's status base, control point and bindings. -/
def execGetSequenceConfig (d : Datagram) (s : State) : Result := act (request .getSequenceConfig d) s

/-- R233: Opens a recipe image load and discards any pending image. -/
def execLoadBegin (d : Datagram) (s : State) : Result := act (request .loadBegin d) s

/-- R233: Writes a part of a recipe image. -/
def execLoadData (d : Datagram) (s : State) : Result := act (request .loadData d) s

/-- R232: Checks a recipe image and makes it the pending image. -/
def execLoadCommit (d : Datagram) (s : State) : Result := act (request .loadCommit d) s

/-- R233: Discards a sequence's pending image. -/
def execDiscardPending (d : Datagram) (s : State) : Result := act (request .discardPending d) s

/-- R249: Returns part of an active or pending recipe image. -/
def execReadImage (d : Datagram) (s : State) : Result := act (request .readImage d) s

/-- R238: Starts a sequence at once or at a scheduled tick, activating a pending image. -/
def execStart (d : Datagram) (s : State) : Result := act (request .start d) s

/-- R239: Sets cmd_hold on a sequence, or all_hold on all, from tick a + 1. -/
def execHold (d : Datagram) (s : State) : Result := act (request .hold d) s

/-- R240: Clears command and pause holds of a sequence or all sequences. -/
def execResume (d : Datagram) (s : State) : Result := act (request .resume d) s

/-- R241: Enters a named step at rank 8. -/
def execJump (d : Datagram) (s : State) : Result := act (request .jump d) s

/-- R242: Sends a running sequence to its abort list or cancels a scheduled start. -/
def execAbort (d : Datagram) (s : State) : Result := act (request .abort d) s

/-- R225: Binds ramps and points to a sequence. -/
def execSetSequenceBinding (d : Datagram) (s : State) : Result := act (request .setSequenceBinding d) s

/-- R226: Sets a sequence's status point block and control point. -/
def execSetSequencePoints (d : Datagram) (s : State) : Result := act (request .setSequencePoints d) s

/-- R278: Returns a task's status word and counts. -/
def execGetTaskStatus (d : Datagram) (s : State) : Result := act (request .getTaskStatus d) s

/-- R279: Returns a core's load and reset count. -/
def execGetCoreLoad (d : Datagram) (s : State) : Result := act (request .getCoreLoad d) s

/-- R279: Returns the running or staged program set's identity. -/
def execGetProgramInfo (d : Datagram) (s : State) : Result := act (request .getProgramInfo d) s

/-- R271: Opens a program set load into the staged slot. -/
def execProgramLoadBegin (d : Datagram) (s : State) : Result := act (request .programLoadBegin d) s

/-- R271: Writes a part of a program set. -/
def execProgramLoadData (d : Datagram) (s : State) : Result := act (request .programLoadData d) s

/-- R271: Checks a program set and stages it. -/
def execProgramLoadCommit (d : Datagram) (s : State) : Result := act (request .programLoadCommit d) s

/-- R279: Discards the staged program set. -/
def execDiscardStaged (d : Datagram) (s : State) : Result := act (request .discardStaged d) s

/-- R271: Makes the staged set the running set from the next entry to IDLE. -/
def execInstallStaged (d : Datagram) (s : State) : Result := act (request .installStaged d) s

/-- R272: Schedules the exchange of the running set for the staged set at a boundary b. -/
def execOnlineChange (d : Datagram) (s : State) : Result := act (request .onlineChange d) s

/-- R279: Stops a task after its running cycle, with outputs HELD. -/
def execStopTask (d : Datagram) (s : State) : Result := act (request .stopTask d) s

/-- R266: Starts a stopped or FAULTED task at its next scheduled start. -/
def execStartTask (d : Datagram) (s : State) : Result := act (request .startTask d) s

/-- R277: Resets a program core and answers after its restart. -/
def execResetCore (d : Datagram) (s : State) : Result := act (request .resetCore d) s

/-- R276: Forces a program variable by path. -/
def execSetVarForce (d : Datagram) (s : State) : Result := act (request .setVarForce d) s

/-- R276: Removes one or all variable forces. -/
def execRemoveVarForce (d : Datagram) (s : State) : Result := act (request .removeVarForce d) s

/-- R279: Returns the variable forces. -/
def execListVarForces (d : Datagram) (s : State) : Result := act (request .listVarForces d) s

/-- R279: Returns program variables from the committed copies. -/
def execReadVariables (d : Datagram) (s : State) : Result := act (request .readVariables d) s

/-- R279: Clears task counters. -/
def execClearTaskCounters (d : Datagram) (s : State) : Result := act (request .clearTaskCounters d) s

/-- R264: Sets WARM or COLD start. -/
def execSetStartKind (d : Datagram) (s : State) : Result := act (request .setStartKind d) s

/-- R279: Clears live and shadow retentive copies with an audit record. -/
def execClearRetentive (d : Datagram) (s : State) : Result := act (request .clearRetentive d) s

/-- R317: Returns Stockpot stream, ring and spill status. -/
def execGetStreamStatus (d : Datagram) (s : State) : Result := act (request .getStreamStatus d) s

/-- R317: Returns a trigger's entry, armed state and counts. -/
def execGetTriggerStatus (d : Datagram) (s : State) : Result := act (request .getTriggerStatus d) s

/-- R317: Returns segmented capture status. -/
def execGetSegmentStatus (d : Datagram) (s : State) : Result := act (request .getSegmentStatus d) s

/-- R280: Sets acquisition mode, divisor, host addresses, ack timeout and copy. -/
def execSetStreamConfig (d : Datagram) (s : State) : Result := act (request .setStreamConfig d) s

/-- R281: Includes or excludes points in the record set. -/
def execSetRecordSet (d : Datagram) (s : State) : Result := act (request .setRecordSet d) s

/-- R283: Sets the fast set of prompt-loop inputs and outputs. -/
def execSetFastSet (d : Datagram) (s : State) : Result := act (request .setFastSet d) s

/-- R317: Returns the stream configuration. -/
def execGetStreamConfig (d : Datagram) (s : State) : Result := act (request .getStreamConfig d) s

/-- R302: Sets a trigger entry from tick a + 2. -/
def execSetTrigger (d : Datagram) (s : State) : Result := act (request .setTrigger d) s

/-- R317: Returns a trigger entry. -/
def execGetTrigger (d : Datagram) (s : State) : Result := act (request .getTrigger d) s

/-- R302: Enables or disables triggers from tick a + 2. -/
def execEnableTriggers (d : Datagram) (s : State) : Result := act (request .enableTriggers d) s

/-- R307: Places a HOST mark at rank 8 of the command's tick. -/
def execHostMark (d : Datagram) (s : State) : Result := act (request .hostMark d) s

/-- R308: Arms or disarms acquisition, driving HAL_ARM on the master. -/
def execSetArm (d : Datagram) (s : State) : Result := act (request .setArm d) s

/-- R311: Configures segmented capture. -/
def execSetSegmentConfig (d : Datagram) (s : State) : Result := act (request .setSegmentConfig d) s

/-- R314: Returns a segment header. -/
def execReadSegmentHeader (d : Datagram) (s : State) : Result := act (request .readSegmentHeader d) s

/-- R317: Returns captures of a segment. -/
def execReadSegmentData (d : Datagram) (s : State) : Result := act (request .readSegmentData d) s

/-- R312: Clears all segments and re-arms segment 0. -/
def execClearSegments (d : Datagram) (s : State) : Result := act (request .clearSegments d) s

/-- R305: Returns the channel skew table. -/
def execReadSkewTable (d : Datagram) (s : State) : Result := act (request .readSkewTable d) s

/-- R334: Returns recorder counts and log state. -/
def execGetRecorderStatus (d : Datagram) (s : State) : Result := act (request .getRecorderStatus d) s

/-- R331: Opens a cursor on a log, bound to the mailbox. -/
def execOpenCursor (d : Datagram) (s : State) : Result := act (request .openCursor d) s

/-- R332: Fixes and returns a window of up to 64 records and advances the cursor. -/
def execReadWindow (d : Datagram) (s : State) : Result := act (request .readWindow d) s

/-- R331: Frees a cursor. -/
def execCloseCursor (d : Datagram) (s : State) : Result := act (request .closeCursor d) s

/-- R319: Returns whether a code is defined, its audit attribute and its bucket. -/
def execGetCodeInfo (d : Datagram) (s : State) : Result := act (request .getCodeInfo d) s

/-- R324: Sets a code's token bucket. -/
def execSetRateLimit (d : Datagram) (s : State) : Result := act (request .setRateLimit d) s

/-- R330: Returns a nonce, last_seq and digest for clearing the audit log. -/
def execGetClearChallenge (d : Datagram) (s : State) : Result := act (request .getClearChallenge d) s

/-- R330: Clears the audit log on a valid hmac and writes three AUDIT_CLEARED records. -/
def execClearAudit (d : Datagram) (s : State) : Result := act (request .clearAudit d) s

/-- R366: Returns the safety status points and counts. -/
def execGetSafetyStatus (d : Datagram) (s : State) : Result := act (request .getSafetyStatus d) s

/-- R366: Returns an input pair's state. -/
def execGetInputPair (d : Datagram) (s : State) : Result := act (request .getInputPair d) s

/-- R366: Returns a safety output's state. -/
def execGetSafetyOutput (d : Datagram) (s : State) : Result := act (request .getSafetyOutput d) s

/-- R366: Returns an axis's positions, speeds and state. -/
def execGetAxis (d : Datagram) (s : State) : Result := act (request .getAxis d) s

/-- R366: Returns safety configuration identity, CRCs and password state. -/
def execGetConfigInfo (d : Datagram) (s : State) : Result := act (request .getConfigInfo d) s

/-- R366: Returns part of the safety configuration in use. -/
def execReadConfig (d : Datagram) (s : State) : Result := act (request .readConfig d) s

/-- R384: Returns a Shroud connection's state and counts. -/
def execGetShroudConnection (d : Datagram) (s : State) : Result := act (request .getShroudConnection d) s

/-- R361: Opens a safety session with the password. -/
def execOpenSession (d : Datagram) (s : State) : Result := act (request .openSession d) s

/-- R361: Closes the safety session. -/
def execCloseSession (d : Datagram) (s : State) : Result := act (request .closeSession d) s

/-- R361: Opens a safety configuration load. -/
def execConfigBegin (d : Datagram) (s : State) : Result := act (request .configBegin d) s

/-- R361: Writes a part of a safety configuration. -/
def execConfigData (d : Datagram) (s : State) : Result := act (request .configData d) s

/-- R361: Checks the safety configuration and returns its CRC. -/
def execConfigCheck (d : Datagram) (s : State) : Result := act (request .configCheck d) s

/-- R361: Enters CONFIRMING on a matching CRC and awaits the confirmation pattern. -/
def execConfirm (d : Datagram) (s : State) : Result := act (request .confirm d) s

/-- R362: Sets or changes the safety password. -/
def execSetPassword (d : Datagram) (s : State) : Result := act (request .setPassword d) s

/-- R366: Discards a pending safety configuration. -/
def execSafetyDiscardPending (d : Datagram) (s : State) : Result := act (request .safetyDiscardPending d) s

/-- R404: Returns the pair status word and counts. -/
def execGetPairStatus (d : Datagram) (s : State) : Result := act (request .getPairStatus d) s

/-- R403: Returns the last health report of a unit. -/
def execGetHealthReport (d : Datagram) (s : State) : Result := act (request .getHealthReport d) s

/-- R407: Returns the witness ports' reports. -/
def execGetWitnesses (d : Datagram) (s : State) : Result := act (request .getWitnesses d) s

/-- R386: Configures pairing, witnesses, promote_ticks, auto_rejoin and yield_margin. -/
def execSetPairConfig (d : Datagram) (s : State) : Result := act (request .setPairConfig d) s

/-- R407: Returns the pair configuration. -/
def execGetPairConfig (d : Datagram) (s : State) : Result := act (request .getPairConfig d) s

/-- R407: Gives up control with cause 0x04 so that the standby takes over. -/
def execHandover (d : Datagram) (s : State) : Result := act (request .handover d) s

/-- R407: Puts the unit into SYNC. -/
def execResync (d : Datagram) (s : State) : Result := act (request .resync d) s

/-- R416: Returns slot states, counters and the schedule. -/
def execGetUpdateStatus (d : Datagram) (s : State) : Result := act (request .getUpdateStatus d) s

/-- R414: Names an image by length and digest and resumes or erases STAGE. -/
def execStageBegin (d : Datagram) (s : State) : Result := act (request .stageBegin d) s

/-- R414: Writes a part of the staged image and commits complete blocks. -/
def execStageData (d : Datagram) (s : State) : Result := act (request .stageData d) s

/-- R412: Verifies the staged image. -/
def execStageVerify (d : Datagram) (s : State) : Result := act (request .stageVerify d) s

/-- R415: Erases STAGE. -/
def execStageDiscard (d : Datagram) (s : State) : Result := act (request .stageDiscard d) s

/-- R417: Schedules an activation at tick a_t and reports readiness. -/
def execScheduleActivation (d : Datagram) (s : State) : Result := act (request .scheduleActivation d) s

/-- R418: Tells a member which members of its group are ready. -/
def execGroupReady (d : Datagram) (s : State) : Result := act (request .groupReady d) s

/-- R420: Cancels the schedule with deferral reason 10. -/
def execCancelActivation (d : Datagram) (s : State) : Result := act (request .cancelActivation d) s

/-- R423: Confirms RUN, blows rollback fuses and writes an audit record. -/
def execUpdateConfirm (d : Datagram) (s : State) : Result := act (request .updateConfirm d) s

/-- R424: Rejects an UNCONFIRMED RUN and restarts into FALLBACK. -/
def execReject (d : Datagram) (s : State) : Result := act (request .reject d) s

/-- R460: Returns supplies, temperatures, power and fault counts. -/
def execGetHealth (d : Datagram) (s : State) : Result := act (request .getHealth d) s

/-- R489: Returns the last 16 resets. -/
def execGetResetHistory (d : Datagram) (s : State) : Result := act (request .getResetHistory d) s

/-- R460: Returns the retired resources with causes. -/
def execListRetired (d : Datagram) (s : State) : Result := act (request .listRetired d) s

/-- R455: Returns a resource's fault counter. -/
def execGetFaultCounter (d : Datagram) (s : State) : Result := act (request .getFaultCounter d) s

/-- R460: Returns memory error counts and scrub status. -/
def execGetEccStatus (d : Datagram) (s : State) : Result := act (request .getEccStatus d) s

/-- R460: Returns the retired DRAM pages. -/
def execListRetiredPages (d : Datagram) (s : State) : Result := act (request .listRetiredPages d) s

/-- R444: Resets the acquisition, a port or a converter group domain. -/
def execResetDomain (d : Datagram) (s : State) : Result := act (request .resetDomain d) s

/-- R456: Discards a resource's kept fault stamps. -/
def execClearFaultCounter (d : Datagram) (s : State) : Result := act (request .clearFaultCounter d) s

/-- R446: Returns the fuse fields. -/
def execGetFuses (d : Datagram) (s : State) : Result := act (request .getFuses d) s

/-- R460: Returns the strap values read at start. -/
def execGetStraps (d : Datagram) (s : State) : Result := act (request .getStraps d) s

/-- R447: Stores the commissioning key and blows its fuses. -/
def execSetCommissioningKey (d : Datagram) (s : State) : Result := act (request .setCommissioningKey d) s

/-- R446: Blows the debug_lock fuses. -/
def execSetDebugLock (d : Datagram) (s : State) : Result := act (request .setDebugLock d) s

end Sys2Proof.Machine
end

