-- ==== Sys2Proof/Machine/Dispatch.lean ====
section
/-! DEFINITION. One arm per command: a direct call of its meaning. -/

namespace Sys2Proof.Machine

/-- The effect of a command on everything but the queue of waiting commands. -/
def exec (i : Instr) (s : State) : Host.Outcome State Fault Refusal :=
  match i with
  | .powerGood straps reading => Sys2Proof.Machine.execPowerGood straps reading s
  | .vinBelow17v => Sys2Proof.Machine.execVinBelow17v s
  | .vinBelow16v => Sys2Proof.Machine.execVinBelow16v s
  | .resetNLow heldNs => Sys2Proof.Machine.execResetNLow heldNs s
  | .bootComplete => Sys2Proof.Machine.execBootComplete s
  | .lidTempRecheck lidCenti => Sys2Proof.Machine.execLidTempRecheck lidCenti s
  | .lidWarmReached => Sys2Proof.Machine.execLidWarmReached s
  | .activationCopyComplete => Sys2Proof.Machine.execActivationCopyComplete s
  | .settingsMigration failingItem => Sys2Proof.Machine.execSettingsMigration failingItem s
  | .delayedRestart => Sys2Proof.Machine.execDelayedRestart s
  | .supervisorLockstepMismatch => Sys2Proof.Machine.execSupervisorLockstepMismatch s
  | .supervisorWatchdog => Sys2Proof.Machine.execSupervisorWatchdog s
  | .supervisorRestartComplete => Sys2Proof.Machine.execSupervisorRestartComplete s
  | .coreFault core => Sys2Proof.Machine.execCoreFault core s
  | .coreWatchdog core => Sys2Proof.Machine.execCoreWatchdog core s
  | .coreRestartComplete core => Sys2Proof.Machine.execCoreRestartComplete core s
  | .releaseDeadlineMissed => Sys2Proof.Machine.execReleaseDeadlineMissed s
  | .loopEngineRestart => Sys2Proof.Machine.execLoopEngineRestart s
  | .acquisitionReset overflow => Sys2Proof.Machine.execAcquisitionReset overflow s
  | .memoryCorrectedError addr => Sys2Proof.Machine.execMemoryCorrectedError addr s
  | .memoryUncorrectableError addr => Sys2Proof.Machine.execMemoryUncorrectableError addr s
  | .nandBlockFault fault => Sys2Proof.Machine.execNandBlockFault fault s
  | .thermalLimit lidCenti => Sys2Proof.Machine.execThermalLimit lidCenti s
  | .lidOvertemp => Sys2Proof.Machine.execLidOvertemp s
  | .tickBoundary io => Sys2Proof.Machine.execTickBoundary io s
  | .tickPeriodChange => Sys2Proof.Machine.execTickPeriodChange s
  | .fastTick j => Sys2Proof.Machine.execFastTick j s
  | .promptDeadline loop j => Sys2Proof.Machine.execPromptDeadline loop j s
  | .periodRelease => Sys2Proof.Machine.execPeriodRelease s
  | .elapsedReached sequence => Sys2Proof.Machine.execElapsedReached sequence s
  | .scheduledStart sequence => Sys2Proof.Machine.execScheduledStart sequence s
  | .inputLost loop input => Sys2Proof.Machine.execInputLost loop input s
  | .inputFrozen loop input => Sys2Proof.Machine.execInputFrozen loop input s
  | .openTimeout loop => Sys2Proof.Machine.execOpenTimeout loop s
  | .autoReturn loop => Sys2Proof.Machine.execAutoReturn loop s
  | .learningResumed rep slot => Sys2Proof.Machine.execLearningResumed rep slot s
  | .conversionEnd group result => Sys2Proof.Machine.execConversionEnd group result s
  | .slotCountWrap group => Sys2Proof.Machine.execSlotCountWrap group s
  | .clampDetect channel => Sys2Proof.Machine.execClampDetect channel s
  | .clampRelease channel sub => Sys2Proof.Machine.execClampRelease channel sub s
  | .groupWatchdog group => Sys2Proof.Machine.execGroupWatchdog group s
  | .bankSupplyFail bank => Sys2Proof.Machine.execBankSupplyFail bank s
  | .syncReceived uplink sync => Sys2Proof.Machine.execSyncReceived uplink sync s
  | .gptpSourceTimeout loss => Sys2Proof.Machine.execGptpSourceTimeout loss s
  | .fieldSyncSend => Sys2Proof.Machine.execFieldSyncSend s
  | .pdelayRequest port => Sys2Proof.Machine.execPdelayRequest port s
  | .halyardEdge edge => Sys2Proof.Machine.execHalyardEdge edge s
  | .halyardTimeout => Sys2Proof.Machine.execHalyardTimeout s
  | .backupMasterTakeover => Sys2Proof.Machine.execBackupMasterTakeover s
  | .halArmDrive => Sys2Proof.Machine.execHalArmDrive s
  | .halArmEdge high => Sys2Proof.Machine.execHalArmEdge high s
  | .halFireDrive => Sys2Proof.Machine.execHalFireDrive s
  | .halFireEdge sub => Sys2Proof.Machine.execHalFireEdge sub s
  | .halActDrive => Sys2Proof.Machine.execHalActDrive s
  | .halActEdge => Sys2Proof.Machine.execHalActEdge s
  | .fieldInputFrame port arrival fcsOk => Sys2Proof.Machine.execFieldInputFrame port arrival fcsOk s
  | .fieldOutputFrame port => Sys2Proof.Machine.execFieldOutputFrame port s
  | .portLinkLoss port => Sys2Proof.Machine.execPortLinkLoss port s
  | .linkRegainTimeout port => Sys2Proof.Machine.execLinkRegainTimeout port s
  | .acyclicSegment port payload last => Sys2Proof.Machine.execAcyclicSegment port payload last s
  | .acyclicTimeout port => Sys2Proof.Machine.execAcyclicTimeout port s
  | .uplinkFault uplink fault => Sys2Proof.Machine.execUplinkFault uplink fault s
  | .arpRequest path target => Sys2Proof.Machine.execArpRequest path target s
  | .icmpEchoRequest uplink dst data => Sys2Proof.Machine.execIcmpEchoRequest uplink dst data s
  | .fragmentTimeout path => Sys2Proof.Machine.execFragmentTimeout path s
  | .query cls opcode d => Sys2Proof.Machine.execQuery cls opcode d s
  | .completionAck cls opcode d => Sys2Proof.Machine.execCompletionAck cls opcode d s
  | .longRunningCompletion mailbox outcome => Sys2Proof.Machine.execLongRunningCompletion mailbox outcome s
  | .completionNoticeResend mailbox => Sys2Proof.Machine.execCompletionNoticeResend mailbox s
  | .snapshotExpiry buffer => Sys2Proof.Machine.execSnapshotExpiry buffer s
  | .repSnapshotExpiry buffer => Sys2Proof.Machine.execRepSnapshotExpiry buffer s
  | .cursorExpiry cursor => Sys2Proof.Machine.execCursorExpiry cursor s
  | .serviceTimeout => Sys2Proof.Machine.execServiceTimeout s
  | .sessionTimeout => Sys2Proof.Machine.execSessionTimeout s
  | .cyclicTaskStart core task => Sys2Proof.Machine.execCyclicTaskStart core task s
  | .eventTaskStart core task => Sys2Proof.Machine.execEventTaskStart core task s
  | .taskEnd core task cycle => Sys2Proof.Machine.execTaskEnd core task cycle s
  | .cigenTrap core task code pc => Sys2Proof.Machine.execCigenTrap core task code pc s
  | .onlineChangeBoundary => Sys2Proof.Machine.execOnlineChangeBoundary s
  | .onlineChangeTimeout => Sys2Proof.Machine.execOnlineChangeTimeout s
  | .recordPacking => Sys2Proof.Machine.execRecordPacking s
  | .acknowledgement uplink route bytes => Sys2Proof.Machine.execAcknowledgement uplink route bytes s
  | .pathTimeout => Sys2Proof.Machine.execPathTimeout s
  | .probeSend => Sys2Proof.Machine.execProbeSend s
  | .segmentCapture => Sys2Proof.Machine.execSegmentCapture s
  | .batchCommit => Sys2Proof.Machine.execBatchCommit s
  | .tokenRefill code => Sys2Proof.Machine.execTokenRefill code s
  | .suppressedSummary => Sys2Proof.Machine.execSuppressedSummary s
  | .safetySample io => Sys2Proof.Machine.execSafetySample io s
  | .confirmationTimeout => Sys2Proof.Machine.execConfirmationTimeout s
  | .testPulse output => Sys2Proof.Machine.execTestPulse output s
  | .testPulseEnd output readbackOk => Sys2Proof.Machine.execTestPulseEnd output readbackOk s
  | .safetyOutputOverload output => Sys2Proof.Machine.execSafetyOutputOverload output s
  | .axisEvaluation => Sys2Proof.Machine.execAxisEvaluation s
  | .tickMirrorSilent => Sys2Proof.Machine.execTickMirrorSilent s
  | .vsafeFault => Sys2Proof.Machine.execVsafeFault s
  | .islandMonitorFault => Sys2Proof.Machine.execIslandMonitorFault s
  | .islandLockstepMismatch => Sys2Proof.Machine.execIslandLockstepMismatch s
  | .islandWatchdog => Sys2Proof.Machine.execIslandWatchdog s
  | .islandScrub memoryOk configOk => Sys2Proof.Machine.execIslandScrub memoryOk configOk s
  | .configConnectionFrame => Sys2Proof.Machine.execConfigConnectionFrame s
  | .islandFirmwareRestart => Sys2Proof.Machine.execIslandFirmwareRestart s
  | .shroudFrame connection arrival => Sys2Proof.Machine.execShroudFrame connection arrival s
  | .shroudDatagram path srcAddr bytes stampNs => Sys2Proof.Machine.execShroudDatagram path srcAddr bytes stampNs s
  | .shroudWatchdogExpiry connection => Sys2Proof.Machine.execShroudWatchdogExpiry connection s
  | .pathMissing connection path => Sys2Proof.Machine.execPathMissing connection path s
  | .pathMissingFault connection path => Sys2Proof.Machine.execPathMissingFault connection path s
  | .shroudUplinkSend => Sys2Proof.Machine.execShroudUplinkSend s
  | .claimWord word => Sys2Proof.Machine.execClaimWord word s
  | .claimWordTimeout => Sys2Proof.Machine.execClaimWordTimeout s
  | .complianceDetect channel present => Sys2Proof.Machine.execComplianceDetect channel present s
  | .openLoopDetect channel present => Sys2Proof.Machine.execOpenLoopDetect channel present s
  | .foldback channel junction => Sys2Proof.Machine.execFoldback channel junction s
  | .readbackMismatch channel => Sys2Proof.Machine.execReadbackMismatch channel s
  | .monitorMismatch output => Sys2Proof.Machine.execMonitorMismatch output s
  | .digitalInputEdge channel level sub => Sys2Proof.Machine.execDigitalInputEdge channel level sub s
  | .outputOverload channel => Sys2Proof.Machine.execOutputOverload channel s
  | .overloadRetry channel => Sys2Proof.Machine.execOverloadRetry channel s
  | .openLoadDetect channel => Sys2Proof.Machine.execOpenLoadDetect channel s
  | .landMismatch channel => Sys2Proof.Machine.execLandMismatch channel s
  | .dsupUndervoltage group below => Sys2Proof.Machine.execDsupUndervoltage group below s
  | .heartbeat hb => Sys2Proof.Machine.execHeartbeat hb s
  | .heartbeatSend => Sys2Proof.Machine.execHeartbeatSend s
  | .heartbeatLoss stayDown => Sys2Proof.Machine.execHeartbeatLoss stayDown s
  | .stayLinkUp peer => Sys2Proof.Machine.execStayLinkUp peer s
  | .mirrorSend => Sys2Proof.Machine.execMirrorSend s
  | .mirrorFrame frame => Sys2Proof.Machine.execMirrorFrame frame s
  | .loadPoint => Sys2Proof.Machine.execLoadPoint s
  | .mirrorDeadline => Sys2Proof.Machine.execMirrorDeadline s
  | .bulkItem arrival => Sys2Proof.Machine.execBulkItem arrival s
  | .controlFrame header rest => Sys2Proof.Machine.execControlFrame header rest s
  | .healthFrame arrival => Sys2Proof.Machine.execHealthFrame arrival s
  | .claimChangeDelayed => Sys2Proof.Machine.execClaimChangeDelayed s
  | .witnessPromotion => Sys2Proof.Machine.execWitnessPromotion s
  | .witnessLossGiveUp => Sys2Proof.Machine.execWitnessLossGiveUp s
  | .automaticYield => Sys2Proof.Machine.execAutomaticYield s
  | .selfTestSweep stage measured => Sys2Proof.Machine.execSelfTestSweep stage measured s
  | .activationDeadline => Sys2Proof.Machine.execActivationDeadline s
  | .activationProceed => Sys2Proof.Machine.execActivationProceed s
  | .activationRestart => Sys2Proof.Machine.execActivationRestart s
  | .autoConfirm => Sys2Proof.Machine.execAutoConfirm s
  | .confirmationWindowClose => Sys2Proof.Machine.execConfirmationWindowClose s
  | .identify d => Sys2Proof.Machine.execIdentify d s
  | .getMode d => Sys2Proof.Machine.execGetMode d s
  | .getMailbox d => Sys2Proof.Machine.execGetMailbox d s
  | .getDrops d => Sys2Proof.Machine.execGetDrops d s
  | .getChallenge d => Sys2Proof.Machine.execGetChallenge d s
  | .enterService d => Sys2Proof.Machine.execEnterService d s
  | .leaveService d => Sys2Proof.Machine.execLeaveService d s
  | .enterConfigure d => Sys2Proof.Machine.execEnterConfigure d s
  | .goIdle d => Sys2Proof.Machine.execGoIdle d s
  | .restartSupervisor d => Sys2Proof.Machine.execRestartSupervisor d s
  | .restartModule d => Sys2Proof.Machine.execRestartModule d s
  | .setCompat d => Sys2Proof.Machine.execSetCompat d s
  | .setBinding d => Sys2Proof.Machine.execSetBinding d s
  | .getBindings d => Sys2Proof.Machine.execGetBindings d s
  | .setMailboxPort d => Sys2Proof.Machine.execSetMailboxPort d s
  | .getTime d => Sys2Proof.Machine.execGetTime d s
  | .getTimeDetail d => Sys2Proof.Machine.execGetTimeDetail d s
  | .setTick d => Sys2Proof.Machine.execSetTick d s
  | .setTimeRole d => Sys2Proof.Machine.execSetTimeRole d s
  | .setGptp d => Sys2Proof.Machine.execSetGptp d s
  | .stepTime d => Sys2Proof.Machine.execStepTime d s
  | .readPoints d => Sys2Proof.Machine.execReadPoints d s
  | .readRange d => Sys2Proof.Machine.execReadRange d s
  | .takeSnapshot d => Sys2Proof.Machine.execTakeSnapshot d s
  | .readSnapshot d => Sys2Proof.Machine.execReadSnapshot d s
  | .freeSnapshot d => Sys2Proof.Machine.execFreeSnapshot d s
  | .writePoints d => Sys2Proof.Machine.execWritePoints d s
  | .setForce d => Sys2Proof.Machine.execSetForce d s
  | .removeForce d => Sys2Proof.Machine.execRemoveForce d s
  | .listForces d => Sys2Proof.Machine.execListForces d s
  | .setPointConfig d => Sys2Proof.Machine.execSetPointConfig d s
  | .getPointConfig d => Sys2Proof.Machine.execGetPointConfig d s
  | .getWriteFaults d => Sys2Proof.Machine.execGetWriteFaults d s
  | .getChannelStatus d => Sys2Proof.Machine.execGetChannelStatus d s
  | .getGroupStatus d => Sys2Proof.Machine.execGetGroupStatus d s
  | .setChannelConfig d => Sys2Proof.Machine.execSetChannelConfig d s
  | .getChannelConfig d => Sys2Proof.Machine.execGetChannelConfig d s
  | .setEnable d => Sys2Proof.Machine.execSetEnable d s
  | .readCalibration d => Sys2Proof.Machine.execReadCalibration d s
  | .setUserTrim d => Sys2Proof.Machine.execSetUserTrim d s
  | .setFaultThreshold d => Sys2Proof.Machine.execSetFaultThreshold d s
  | .releaseGroup d => Sys2Proof.Machine.execReleaseGroup d s
  | .clearCounters d => Sys2Proof.Machine.execClearCounters d s
  | .getPortStatus d => Sys2Proof.Machine.execGetPortStatus d s
  | .getUplinkStatus d => Sys2Proof.Machine.execGetUplinkStatus d s
  | .setPortConfig d => Sys2Proof.Machine.execSetPortConfig d s
  | .getPortConfig d => Sys2Proof.Machine.execGetPortConfig d s
  | .releaseNode d => Sys2Proof.Machine.execReleaseNode d s
  | .writeNodeParams d => Sys2Proof.Machine.execWriteNodeParams d s
  | .readNodeParams d => Sys2Proof.Machine.execReadNodeParams d s
  | .setPortFaultThreshold d => Sys2Proof.Machine.execSetPortFaultThreshold d s
  | .releasePort d => Sys2Proof.Machine.execReleasePort d s
  | .clearPortCounters d => Sys2Proof.Machine.execClearPortCounters d s
  | .setUplink d => Sys2Proof.Machine.execSetUplink d s
  | .getUplinkConfig d => Sys2Proof.Machine.execGetUplinkConfig d s
  | .releaseUplink d => Sys2Proof.Machine.execReleaseUplink d s
  | .getLoopConfig d => Sys2Proof.Machine.execGetLoopConfig d s
  | .getLoopStatus d => Sys2Proof.Machine.execGetLoopStatus d s
  | .getEngineLoad d => Sys2Proof.Machine.execGetEngineLoad d s
  | .setLoopWiring d => Sys2Proof.Machine.execSetLoopWiring d s
  | .writeBank d => Sys2Proof.Machine.execWriteBank d s
  | .readBank d => Sys2Proof.Machine.execReadBank d s
  | .setSwapGroup d => Sys2Proof.Machine.execSetSwapGroup d s
  | .swap d => Sys2Proof.Machine.execSwap d s
  | .cancelSwap d => Sys2Proof.Machine.execCancelSwap d s
  | .copyActive d => Sys2Proof.Machine.execCopyActive d s
  | .startLoops d => Sys2Proof.Machine.execStartLoops d s
  | .stopLoops d => Sys2Proof.Machine.execStopLoops d s
  | .setStartState d => Sys2Proof.Machine.execSetStartState d s
  | .releaseLoop d => Sys2Proof.Machine.execReleaseLoop d s
  | .setLoopFaultThreshold d => Sys2Proof.Machine.execSetLoopFaultThreshold d s
  | .setSupervision d => Sys2Proof.Machine.execSetSupervision d s
  | .getSupervision d => Sys2Proof.Machine.execGetSupervision d s
  | .returnClosed d => Sys2Proof.Machine.execReturnClosed d s
  | .enterFallback d => Sys2Proof.Machine.execEnterFallback d s
  | .setRampConfig d => Sys2Proof.Machine.execSetRampConfig d s
  | .getRamp d => Sys2Proof.Machine.execGetRamp d s
  | .setRampTarget d => Sys2Proof.Machine.execSetRampTarget d s
  | .setRampLimits d => Sys2Proof.Machine.execSetRampLimits d s
  | .setRepConfig d => Sys2Proof.Machine.execSetRepConfig d s
  | .getRepStatus d => Sys2Proof.Machine.execGetRepStatus d s
  | .setRepState d => Sys2Proof.Machine.execSetRepState d s
  | .snapshotRepMemory d => Sys2Proof.Machine.execSnapshotRepMemory d s
  | .readRepMemory d => Sys2Proof.Machine.execReadRepMemory d s
  | .writeRepMemory d => Sys2Proof.Machine.execWriteRepMemory d s
  | .commitRepMemory d => Sys2Proof.Machine.execCommitRepMemory d s
  | .clearRepMemory d => Sys2Proof.Machine.execClearRepMemory d s
  | .freeRepSnapshot d => Sys2Proof.Machine.execFreeRepSnapshot d s
  | .getClStatus d => Sys2Proof.Machine.execGetClStatus d s
  | .getFaoStatus d => Sys2Proof.Machine.execGetFaoStatus d s
  | .getDioStatus d => Sys2Proof.Machine.execGetDioStatus d s
  | .setClConfig d => Sys2Proof.Machine.execSetClConfig d s
  | .getStageConfig d => Sys2Proof.Machine.execGetStageConfig d s
  | .setClAlarm d => Sys2Proof.Machine.execSetClAlarm d s
  | .setFaoConfig d => Sys2Proof.Machine.execSetFaoConfig d s
  | .setDioConfig d => Sys2Proof.Machine.execSetDioConfig d s
  | .runTestLoad d => Sys2Proof.Machine.execRunTestLoad d s
  | .releaseStage d => Sys2Proof.Machine.execReleaseStage d s
  | .setStageFaultThreshold d => Sys2Proof.Machine.execSetStageFaultThreshold d s
  | .getSequenceStatus d => Sys2Proof.Machine.execGetSequenceStatus d s
  | .getSequenceConfig d => Sys2Proof.Machine.execGetSequenceConfig d s
  | .loadBegin d => Sys2Proof.Machine.execLoadBegin d s
  | .loadData d => Sys2Proof.Machine.execLoadData d s
  | .loadCommit d => Sys2Proof.Machine.execLoadCommit d s
  | .discardPending d => Sys2Proof.Machine.execDiscardPending d s
  | .readImage d => Sys2Proof.Machine.execReadImage d s
  | .start d => Sys2Proof.Machine.execStart d s
  | .hold d => Sys2Proof.Machine.execHold d s
  | .resume d => Sys2Proof.Machine.execResume d s
  | .jump d => Sys2Proof.Machine.execJump d s
  | .abort d => Sys2Proof.Machine.execAbort d s
  | .setSequenceBinding d => Sys2Proof.Machine.execSetSequenceBinding d s
  | .setSequencePoints d => Sys2Proof.Machine.execSetSequencePoints d s
  | .getTaskStatus d => Sys2Proof.Machine.execGetTaskStatus d s
  | .getCoreLoad d => Sys2Proof.Machine.execGetCoreLoad d s
  | .getProgramInfo d => Sys2Proof.Machine.execGetProgramInfo d s
  | .programLoadBegin d => Sys2Proof.Machine.execProgramLoadBegin d s
  | .programLoadData d => Sys2Proof.Machine.execProgramLoadData d s
  | .programLoadCommit d => Sys2Proof.Machine.execProgramLoadCommit d s
  | .discardStaged d => Sys2Proof.Machine.execDiscardStaged d s
  | .installStaged d => Sys2Proof.Machine.execInstallStaged d s
  | .onlineChange d => Sys2Proof.Machine.execOnlineChange d s
  | .stopTask d => Sys2Proof.Machine.execStopTask d s
  | .startTask d => Sys2Proof.Machine.execStartTask d s
  | .resetCore d => Sys2Proof.Machine.execResetCore d s
  | .setVarForce d => Sys2Proof.Machine.execSetVarForce d s
  | .removeVarForce d => Sys2Proof.Machine.execRemoveVarForce d s
  | .listVarForces d => Sys2Proof.Machine.execListVarForces d s
  | .readVariables d => Sys2Proof.Machine.execReadVariables d s
  | .clearTaskCounters d => Sys2Proof.Machine.execClearTaskCounters d s
  | .setStartKind d => Sys2Proof.Machine.execSetStartKind d s
  | .clearRetentive d => Sys2Proof.Machine.execClearRetentive d s
  | .getStreamStatus d => Sys2Proof.Machine.execGetStreamStatus d s
  | .getTriggerStatus d => Sys2Proof.Machine.execGetTriggerStatus d s
  | .getSegmentStatus d => Sys2Proof.Machine.execGetSegmentStatus d s
  | .setStreamConfig d => Sys2Proof.Machine.execSetStreamConfig d s
  | .setRecordSet d => Sys2Proof.Machine.execSetRecordSet d s
  | .setFastSet d => Sys2Proof.Machine.execSetFastSet d s
  | .getStreamConfig d => Sys2Proof.Machine.execGetStreamConfig d s
  | .setTrigger d => Sys2Proof.Machine.execSetTrigger d s
  | .getTrigger d => Sys2Proof.Machine.execGetTrigger d s
  | .enableTriggers d => Sys2Proof.Machine.execEnableTriggers d s
  | .hostMark d => Sys2Proof.Machine.execHostMark d s
  | .setArm d => Sys2Proof.Machine.execSetArm d s
  | .setSegmentConfig d => Sys2Proof.Machine.execSetSegmentConfig d s
  | .readSegmentHeader d => Sys2Proof.Machine.execReadSegmentHeader d s
  | .readSegmentData d => Sys2Proof.Machine.execReadSegmentData d s
  | .clearSegments d => Sys2Proof.Machine.execClearSegments d s
  | .readSkewTable d => Sys2Proof.Machine.execReadSkewTable d s
  | .getRecorderStatus d => Sys2Proof.Machine.execGetRecorderStatus d s
  | .openCursor d => Sys2Proof.Machine.execOpenCursor d s
  | .readWindow d => Sys2Proof.Machine.execReadWindow d s
  | .closeCursor d => Sys2Proof.Machine.execCloseCursor d s
  | .getCodeInfo d => Sys2Proof.Machine.execGetCodeInfo d s
  | .setRateLimit d => Sys2Proof.Machine.execSetRateLimit d s
  | .getClearChallenge d => Sys2Proof.Machine.execGetClearChallenge d s
  | .clearAudit d => Sys2Proof.Machine.execClearAudit d s
  | .getSafetyStatus d => Sys2Proof.Machine.execGetSafetyStatus d s
  | .getInputPair d => Sys2Proof.Machine.execGetInputPair d s
  | .getSafetyOutput d => Sys2Proof.Machine.execGetSafetyOutput d s
  | .getAxis d => Sys2Proof.Machine.execGetAxis d s
  | .getConfigInfo d => Sys2Proof.Machine.execGetConfigInfo d s
  | .readConfig d => Sys2Proof.Machine.execReadConfig d s
  | .getShroudConnection d => Sys2Proof.Machine.execGetShroudConnection d s
  | .openSession d => Sys2Proof.Machine.execOpenSession d s
  | .closeSession d => Sys2Proof.Machine.execCloseSession d s
  | .configBegin d => Sys2Proof.Machine.execConfigBegin d s
  | .configData d => Sys2Proof.Machine.execConfigData d s
  | .configCheck d => Sys2Proof.Machine.execConfigCheck d s
  | .confirm d => Sys2Proof.Machine.execConfirm d s
  | .setPassword d => Sys2Proof.Machine.execSetPassword d s
  | .safetyDiscardPending d => Sys2Proof.Machine.execSafetyDiscardPending d s
  | .getPairStatus d => Sys2Proof.Machine.execGetPairStatus d s
  | .getHealthReport d => Sys2Proof.Machine.execGetHealthReport d s
  | .getWitnesses d => Sys2Proof.Machine.execGetWitnesses d s
  | .setPairConfig d => Sys2Proof.Machine.execSetPairConfig d s
  | .getPairConfig d => Sys2Proof.Machine.execGetPairConfig d s
  | .handover d => Sys2Proof.Machine.execHandover d s
  | .resync d => Sys2Proof.Machine.execResync d s
  | .getUpdateStatus d => Sys2Proof.Machine.execGetUpdateStatus d s
  | .stageBegin d => Sys2Proof.Machine.execStageBegin d s
  | .stageData d => Sys2Proof.Machine.execStageData d s
  | .stageVerify d => Sys2Proof.Machine.execStageVerify d s
  | .stageDiscard d => Sys2Proof.Machine.execStageDiscard d s
  | .scheduleActivation d => Sys2Proof.Machine.execScheduleActivation d s
  | .groupReady d => Sys2Proof.Machine.execGroupReady d s
  | .cancelActivation d => Sys2Proof.Machine.execCancelActivation d s
  | .updateConfirm d => Sys2Proof.Machine.execUpdateConfirm d s
  | .reject d => Sys2Proof.Machine.execReject d s
  | .getHealth d => Sys2Proof.Machine.execGetHealth d s
  | .getResetHistory d => Sys2Proof.Machine.execGetResetHistory d s
  | .listRetired d => Sys2Proof.Machine.execListRetired d s
  | .getFaultCounter d => Sys2Proof.Machine.execGetFaultCounter d s
  | .getEccStatus d => Sys2Proof.Machine.execGetEccStatus d s
  | .listRetiredPages d => Sys2Proof.Machine.execListRetiredPages d s
  | .resetDomain d => Sys2Proof.Machine.execResetDomain d s
  | .clearFaultCounter d => Sys2Proof.Machine.execClearFaultCounter d s
  | .getFuses d => Sys2Proof.Machine.execGetFuses d s
  | .getStraps d => Sys2Proof.Machine.execGetStraps d s
  | .setCommissioningKey d => Sys2Proof.Machine.execSetCommissioningKey d s
  | .setDebugLock d => Sys2Proof.Machine.execSetDebugLock d s
  | .monHelp line => Sys2Proof.Machine.execMonHelp line s
  | .monId => Sys2Proof.Machine.execMonId s
  | .monMode => Sys2Proof.Machine.execMonMode s
  | .monHealth => Sys2Proof.Machine.execMonHealth s
  | .monTick => Sys2Proof.Machine.execMonTick s
  | .monitorTickLine => Sys2Proof.Machine.execMonitorTickLine s
  | .monPt point count => Sys2Proof.Machine.execMonPt point count s
  | .monRec count => Sys2Proof.Machine.execMonRec count s
  | .monTrace => Sys2Proof.Machine.execMonTrace s
  | .portLinkUp port => Sys2Proof.Machine.execPortLinkUp port s
  | .serviceLinkDown => Sys2Proof.Machine.execServiceLinkDown s
  | .claimWordSend => Sys2Proof.Machine.execClaimWordSend s
  | .gradeCapExpiry cap => Sys2Proof.Machine.execGradeCapExpiry cap s
  | .peerDelayMeasurement uplink delayNs => Sys2Proof.Machine.execPeerDelayMeasurement uplink delayNs s
  | .monitorCharacterReceived char => Sys2Proof.Machine.execMonitorCharacterReceived char s

end Sys2Proof.Machine
end

