-- ==== Sys2Proof/Safety.lean ====
section
/-! DEFINITION. What the statements speak of: what a run of a command leaves, which parts of the state it can change, the
invariant of every step, and which constructors are mailbox commands. -/

namespace Sys2Proof

/-- The command and datagram of a constructor that is a mailbox command (R51); none for an event. -/
def Instr.op? : Instr → Option (Op × Datagram)
  | .powerGood _ _ => none
  | .vinBelow17v => none
  | .vinBelow16v => none
  | .resetNLow _ => none
  | .bootComplete => none
  | .lidTempRecheck _ => none
  | .lidWarmReached => none
  | .activationCopyComplete => none
  | .settingsMigration _ => none
  | .delayedRestart => none
  | .supervisorLockstepMismatch => none
  | .supervisorWatchdog => none
  | .supervisorRestartComplete => none
  | .coreFault _ => none
  | .coreWatchdog _ => none
  | .coreRestartComplete _ => none
  | .releaseDeadlineMissed => none
  | .loopEngineRestart => none
  | .acquisitionReset _ => none
  | .memoryCorrectedError _ => none
  | .memoryUncorrectableError _ => none
  | .nandBlockFault _ => none
  | .thermalLimit _ => none
  | .lidOvertemp => none
  | .tickBoundary _ => none
  | .tickPeriodChange => none
  | .fastTick _ => none
  | .promptDeadline _ _ => none
  | .periodRelease => none
  | .elapsedReached _ => none
  | .scheduledStart _ => none
  | .inputLost _ _ => none
  | .inputFrozen _ _ => none
  | .openTimeout _ => none
  | .autoReturn _ => none
  | .learningResumed _ _ => none
  | .conversionEnd _ _ => none
  | .slotCountWrap _ => none
  | .clampDetect _ => none
  | .clampRelease _ _ => none
  | .groupWatchdog _ => none
  | .bankSupplyFail _ => none
  | .syncReceived _ _ => none
  | .gptpSourceTimeout _ => none
  | .fieldSyncSend => none
  | .pdelayRequest _ => none
  | .halyardEdge _ => none
  | .halyardTimeout => none
  | .backupMasterTakeover => none
  | .halArmDrive => none
  | .halArmEdge _ => none
  | .halFireDrive => none
  | .halFireEdge _ => none
  | .halActDrive => none
  | .halActEdge => none
  | .fieldInputFrame _ _ _ => none
  | .fieldOutputFrame _ => none
  | .portLinkLoss _ => none
  | .linkRegainTimeout _ => none
  | .acyclicSegment _ _ _ => none
  | .acyclicTimeout _ => none
  | .uplinkFault _ _ => none
  | .arpRequest _ _ => none
  | .icmpEchoRequest _ _ _ => none
  | .fragmentTimeout _ => none
  | .query _ _ _ => none
  | .completionAck _ _ _ => none
  | .longRunningCompletion _ _ => none
  | .completionNoticeResend _ => none
  | .snapshotExpiry _ => none
  | .repSnapshotExpiry _ => none
  | .cursorExpiry _ => none
  | .serviceTimeout => none
  | .sessionTimeout => none
  | .cyclicTaskStart _ _ => none
  | .eventTaskStart _ _ => none
  | .taskEnd _ _ _ => none
  | .cigenTrap _ _ _ _ => none
  | .onlineChangeBoundary => none
  | .onlineChangeTimeout => none
  | .recordPacking => none
  | .acknowledgement _ _ _ => none
  | .pathTimeout => none
  | .probeSend => none
  | .segmentCapture => none
  | .batchCommit => none
  | .tokenRefill _ => none
  | .suppressedSummary => none
  | .safetySample _ => none
  | .confirmationTimeout => none
  | .testPulse _ => none
  | .testPulseEnd _ _ => none
  | .safetyOutputOverload _ => none
  | .axisEvaluation => none
  | .tickMirrorSilent => none
  | .vsafeFault => none
  | .islandMonitorFault => none
  | .islandLockstepMismatch => none
  | .islandWatchdog => none
  | .islandScrub _ _ => none
  | .configConnectionFrame => none
  | .islandFirmwareRestart => none
  | .shroudFrame _ _ => none
  | .shroudDatagram _ _ _ _ => none
  | .shroudWatchdogExpiry _ => none
  | .pathMissing _ _ => none
  | .pathMissingFault _ _ => none
  | .shroudUplinkSend => none
  | .claimWord _ => none
  | .claimWordTimeout => none
  | .complianceDetect _ _ => none
  | .openLoopDetect _ _ => none
  | .foldback _ _ => none
  | .readbackMismatch _ => none
  | .monitorMismatch _ => none
  | .digitalInputEdge _ _ _ => none
  | .outputOverload _ => none
  | .overloadRetry _ => none
  | .openLoadDetect _ => none
  | .landMismatch _ => none
  | .dsupUndervoltage _ _ => none
  | .heartbeat _ => none
  | .heartbeatSend => none
  | .heartbeatLoss _ => none
  | .stayLinkUp _ => none
  | .mirrorSend => none
  | .mirrorFrame _ => none
  | .loadPoint => none
  | .mirrorDeadline => none
  | .bulkItem _ => none
  | .controlFrame _ _ => none
  | .healthFrame _ => none
  | .claimChangeDelayed => none
  | .witnessPromotion => none
  | .witnessLossGiveUp => none
  | .automaticYield => none
  | .selfTestSweep _ _ => none
  | .activationDeadline => none
  | .activationProceed => none
  | .activationRestart => none
  | .autoConfirm => none
  | .confirmationWindowClose => none
  | .identify d => some (.identify, d)
  | .getMode d => some (.getMode, d)
  | .getMailbox d => some (.getMailbox, d)
  | .getDrops d => some (.getDrops, d)
  | .getChallenge d => some (.getChallenge, d)
  | .enterService d => some (.enterService, d)
  | .leaveService d => some (.leaveService, d)
  | .enterConfigure d => some (.enterConfigure, d)
  | .goIdle d => some (.goIdle, d)
  | .restartSupervisor d => some (.restartSupervisor, d)
  | .restartModule d => some (.restartModule, d)
  | .setCompat d => some (.setCompat, d)
  | .setBinding d => some (.setBinding, d)
  | .getBindings d => some (.getBindings, d)
  | .setMailboxPort d => some (.setMailboxPort, d)
  | .getTime d => some (.getTime, d)
  | .getTimeDetail d => some (.getTimeDetail, d)
  | .setTick d => some (.setTick, d)
  | .setTimeRole d => some (.setTimeRole, d)
  | .setGptp d => some (.setGptp, d)
  | .stepTime d => some (.stepTime, d)
  | .readPoints d => some (.readPoints, d)
  | .readRange d => some (.readRange, d)
  | .takeSnapshot d => some (.takeSnapshot, d)
  | .readSnapshot d => some (.readSnapshot, d)
  | .freeSnapshot d => some (.freeSnapshot, d)
  | .writePoints d => some (.writePoints, d)
  | .setForce d => some (.setForce, d)
  | .removeForce d => some (.removeForce, d)
  | .listForces d => some (.listForces, d)
  | .setPointConfig d => some (.setPointConfig, d)
  | .getPointConfig d => some (.getPointConfig, d)
  | .getWriteFaults d => some (.getWriteFaults, d)
  | .getChannelStatus d => some (.getChannelStatus, d)
  | .getGroupStatus d => some (.getGroupStatus, d)
  | .setChannelConfig d => some (.setChannelConfig, d)
  | .getChannelConfig d => some (.getChannelConfig, d)
  | .setEnable d => some (.setEnable, d)
  | .readCalibration d => some (.readCalibration, d)
  | .setUserTrim d => some (.setUserTrim, d)
  | .setFaultThreshold d => some (.setFaultThreshold, d)
  | .releaseGroup d => some (.releaseGroup, d)
  | .clearCounters d => some (.clearCounters, d)
  | .getPortStatus d => some (.getPortStatus, d)
  | .getUplinkStatus d => some (.getUplinkStatus, d)
  | .setPortConfig d => some (.setPortConfig, d)
  | .getPortConfig d => some (.getPortConfig, d)
  | .releaseNode d => some (.releaseNode, d)
  | .writeNodeParams d => some (.writeNodeParams, d)
  | .readNodeParams d => some (.readNodeParams, d)
  | .setPortFaultThreshold d => some (.setPortFaultThreshold, d)
  | .releasePort d => some (.releasePort, d)
  | .clearPortCounters d => some (.clearPortCounters, d)
  | .setUplink d => some (.setUplink, d)
  | .getUplinkConfig d => some (.getUplinkConfig, d)
  | .releaseUplink d => some (.releaseUplink, d)
  | .getLoopConfig d => some (.getLoopConfig, d)
  | .getLoopStatus d => some (.getLoopStatus, d)
  | .getEngineLoad d => some (.getEngineLoad, d)
  | .setLoopWiring d => some (.setLoopWiring, d)
  | .writeBank d => some (.writeBank, d)
  | .readBank d => some (.readBank, d)
  | .setSwapGroup d => some (.setSwapGroup, d)
  | .swap d => some (.swap, d)
  | .cancelSwap d => some (.cancelSwap, d)
  | .copyActive d => some (.copyActive, d)
  | .startLoops d => some (.startLoops, d)
  | .stopLoops d => some (.stopLoops, d)
  | .setStartState d => some (.setStartState, d)
  | .releaseLoop d => some (.releaseLoop, d)
  | .setLoopFaultThreshold d => some (.setLoopFaultThreshold, d)
  | .setSupervision d => some (.setSupervision, d)
  | .getSupervision d => some (.getSupervision, d)
  | .returnClosed d => some (.returnClosed, d)
  | .enterFallback d => some (.enterFallback, d)
  | .setRampConfig d => some (.setRampConfig, d)
  | .getRamp d => some (.getRamp, d)
  | .setRampTarget d => some (.setRampTarget, d)
  | .setRampLimits d => some (.setRampLimits, d)
  | .setRepConfig d => some (.setRepConfig, d)
  | .getRepStatus d => some (.getRepStatus, d)
  | .setRepState d => some (.setRepState, d)
  | .snapshotRepMemory d => some (.snapshotRepMemory, d)
  | .readRepMemory d => some (.readRepMemory, d)
  | .writeRepMemory d => some (.writeRepMemory, d)
  | .commitRepMemory d => some (.commitRepMemory, d)
  | .clearRepMemory d => some (.clearRepMemory, d)
  | .freeRepSnapshot d => some (.freeRepSnapshot, d)
  | .getClStatus d => some (.getClStatus, d)
  | .getFaoStatus d => some (.getFaoStatus, d)
  | .getDioStatus d => some (.getDioStatus, d)
  | .setClConfig d => some (.setClConfig, d)
  | .getStageConfig d => some (.getStageConfig, d)
  | .setClAlarm d => some (.setClAlarm, d)
  | .setFaoConfig d => some (.setFaoConfig, d)
  | .setDioConfig d => some (.setDioConfig, d)
  | .runTestLoad d => some (.runTestLoad, d)
  | .releaseStage d => some (.releaseStage, d)
  | .setStageFaultThreshold d => some (.setStageFaultThreshold, d)
  | .getSequenceStatus d => some (.getSequenceStatus, d)
  | .getSequenceConfig d => some (.getSequenceConfig, d)
  | .loadBegin d => some (.loadBegin, d)
  | .loadData d => some (.loadData, d)
  | .loadCommit d => some (.loadCommit, d)
  | .discardPending d => some (.discardPending, d)
  | .readImage d => some (.readImage, d)
  | .start d => some (.start, d)
  | .hold d => some (.hold, d)
  | .resume d => some (.resume, d)
  | .jump d => some (.jump, d)
  | .abort d => some (.abort, d)
  | .setSequenceBinding d => some (.setSequenceBinding, d)
  | .setSequencePoints d => some (.setSequencePoints, d)
  | .getTaskStatus d => some (.getTaskStatus, d)
  | .getCoreLoad d => some (.getCoreLoad, d)
  | .getProgramInfo d => some (.getProgramInfo, d)
  | .programLoadBegin d => some (.programLoadBegin, d)
  | .programLoadData d => some (.programLoadData, d)
  | .programLoadCommit d => some (.programLoadCommit, d)
  | .discardStaged d => some (.discardStaged, d)
  | .installStaged d => some (.installStaged, d)
  | .onlineChange d => some (.onlineChange, d)
  | .stopTask d => some (.stopTask, d)
  | .startTask d => some (.startTask, d)
  | .resetCore d => some (.resetCore, d)
  | .setVarForce d => some (.setVarForce, d)
  | .removeVarForce d => some (.removeVarForce, d)
  | .listVarForces d => some (.listVarForces, d)
  | .readVariables d => some (.readVariables, d)
  | .clearTaskCounters d => some (.clearTaskCounters, d)
  | .setStartKind d => some (.setStartKind, d)
  | .clearRetentive d => some (.clearRetentive, d)
  | .getStreamStatus d => some (.getStreamStatus, d)
  | .getTriggerStatus d => some (.getTriggerStatus, d)
  | .getSegmentStatus d => some (.getSegmentStatus, d)
  | .setStreamConfig d => some (.setStreamConfig, d)
  | .setRecordSet d => some (.setRecordSet, d)
  | .setFastSet d => some (.setFastSet, d)
  | .getStreamConfig d => some (.getStreamConfig, d)
  | .setTrigger d => some (.setTrigger, d)
  | .getTrigger d => some (.getTrigger, d)
  | .enableTriggers d => some (.enableTriggers, d)
  | .hostMark d => some (.hostMark, d)
  | .setArm d => some (.setArm, d)
  | .setSegmentConfig d => some (.setSegmentConfig, d)
  | .readSegmentHeader d => some (.readSegmentHeader, d)
  | .readSegmentData d => some (.readSegmentData, d)
  | .clearSegments d => some (.clearSegments, d)
  | .readSkewTable d => some (.readSkewTable, d)
  | .getRecorderStatus d => some (.getRecorderStatus, d)
  | .openCursor d => some (.openCursor, d)
  | .readWindow d => some (.readWindow, d)
  | .closeCursor d => some (.closeCursor, d)
  | .getCodeInfo d => some (.getCodeInfo, d)
  | .setRateLimit d => some (.setRateLimit, d)
  | .getClearChallenge d => some (.getClearChallenge, d)
  | .clearAudit d => some (.clearAudit, d)
  | .getSafetyStatus d => some (.getSafetyStatus, d)
  | .getInputPair d => some (.getInputPair, d)
  | .getSafetyOutput d => some (.getSafetyOutput, d)
  | .getAxis d => some (.getAxis, d)
  | .getConfigInfo d => some (.getConfigInfo, d)
  | .readConfig d => some (.readConfig, d)
  | .getShroudConnection d => some (.getShroudConnection, d)
  | .openSession d => some (.openSession, d)
  | .closeSession d => some (.closeSession, d)
  | .configBegin d => some (.configBegin, d)
  | .configData d => some (.configData, d)
  | .configCheck d => some (.configCheck, d)
  | .confirm d => some (.confirm, d)
  | .setPassword d => some (.setPassword, d)
  | .safetyDiscardPending d => some (.safetyDiscardPending, d)
  | .getPairStatus d => some (.getPairStatus, d)
  | .getHealthReport d => some (.getHealthReport, d)
  | .getWitnesses d => some (.getWitnesses, d)
  | .setPairConfig d => some (.setPairConfig, d)
  | .getPairConfig d => some (.getPairConfig, d)
  | .handover d => some (.handover, d)
  | .resync d => some (.resync, d)
  | .getUpdateStatus d => some (.getUpdateStatus, d)
  | .stageBegin d => some (.stageBegin, d)
  | .stageData d => some (.stageData, d)
  | .stageVerify d => some (.stageVerify, d)
  | .stageDiscard d => some (.stageDiscard, d)
  | .scheduleActivation d => some (.scheduleActivation, d)
  | .groupReady d => some (.groupReady, d)
  | .cancelActivation d => some (.cancelActivation, d)
  | .updateConfirm d => some (.updateConfirm, d)
  | .reject d => some (.reject, d)
  | .getHealth d => some (.getHealth, d)
  | .getResetHistory d => some (.getResetHistory, d)
  | .listRetired d => some (.listRetired, d)
  | .getFaultCounter d => some (.getFaultCounter, d)
  | .getEccStatus d => some (.getEccStatus, d)
  | .listRetiredPages d => some (.listRetiredPages, d)
  | .resetDomain d => some (.resetDomain, d)
  | .clearFaultCounter d => some (.clearFaultCounter, d)
  | .getFuses d => some (.getFuses, d)
  | .getStraps d => some (.getStraps, d)
  | .setCommissioningKey d => some (.setCommissioningKey, d)
  | .setDebugLock d => some (.setDebugLock, d)
  | .monHelp _ => none
  | .monId => none
  | .monMode => none
  | .monHealth => none
  | .monTick => none
  | .monitorTickLine => none
  | .monPt _ _ => none
  | .monRec _ => none
  | .monTrace => none
  | .portLinkUp _ => none
  | .serviceLinkDown => none
  | .claimWordSend => none
  | .gradeCapExpiry _ => none
  | .peerDelayMeasurement _ _ => none
  | .monitorCharacterReceived _ => none

end Sys2Proof

namespace Sys2Proof.Machine

/-- The command answers a next state, and `P` holds of it. -/
def Runs (c : Instr) (s : State) (P : State → Prop) : Prop := ∃ t, exec c s = .next t ∧ P t

/-- The parts of the state, by the chapter that describes them. -/
inductive Part where
  | pending | cfg | sys | time | mbx | pts | ain | fld | lop | rmp | stg | sqn | prg | acq | rcd | saf | shr | par | upd | mon
  deriving DecidableEq, Repr

/-- Two states agree in a part. -/
def State.agree (s t : State) : Part → Prop
  | .pending => t.pending = s.pending
  | .cfg => t.cfg = s.cfg
  | .sys => t.sys = s.sys
  | .time => t.time = s.time
  | .mbx => t.mbx = s.mbx
  | .pts => t.pts = s.pts
  | .ain => t.ain = s.ain
  | .fld => t.fld = s.fld
  | .lop => t.lop = s.lop
  | .rmp => t.rmp = s.rmp
  | .stg => t.stg = s.stg
  | .sqn => t.sqn = s.sqn
  | .prg => t.prg = s.prg
  | .acq => t.acq = s.acq
  | .rcd => t.rcd = s.rcd
  | .saf => t.saf = s.saf
  | .shr => t.shr = s.shr
  | .par => t.par = s.par
  | .upd => t.upd = s.upd
  | .mon => t.mon = s.mon

/-- The frame of a command: every part but those listed stays as it was. -/
def Only (l : List Part) (s t : State) : Prop := ∀ p, p ∉ l → s.agree t p

/-- What holds after every command: no reset waits to be followed (R440), the output points of
loops hold their idle values while no loop runs (R165), the confirmation window stands as mode and grade give it (R422),
and the health grade and the claim are those that the state gives (R387 to R389). -/
structure Settled (s : State) : Prop where
  noReset : s.sys.resetDue = none
  idle : s.effMode.idles = true → ∀ c ∈ s.cfg.points.cells, c.2.owner = 1 → ∀ v, s.idleValue c.1 = some v → (s.ownEntry c.1).value = v
  window : trackWindow s = s
  grade : s.par.grade = s.gradeNow
  claim : s.par.delayed = none → (s.sys.supUp = true ∨ s.sys.inReset = true ∨ s.par.role = .givenUp) → s.par.own = s.claimNow

/-- A settled state in which no whole-module reset holds the main die (R440). -/
structure Live (s : State) : Prop where
  settled : Settled s
  running : s.sys.inReset = false

/-- A datagram comes whole, or is the last fragment of one that is reassembled (R54). -/
def State.entire (s : State) (d : Datagram) : Bool :=
  match d.fragment with
  | none => true
  | some f => d.payload.length + 20 ≤ 4096 && s.completes d f

/-- The state in which a datagram has been received whole: its frame is counted (0x05.02), and no fragment of it is held. -/
def State.gathered (s : State) (d : Datagram) : State :=
  let s := { s with mbx.rxFrames := countFrames d.path 1 s.mbx.rxFrames }
  match d.fragment with
  | none => s
  | some f => dropParts d f s

/-- The supervisor takes the datagram as a new request of the command: it is heard, passes the checks of R56, R71 and R75, sets
neither QUERY nor COMPLETION_ACK, and meets a mailbox that holds no open request and not its tag (R54 to R60, R71). -/
structure Arrives (op : Op) (d : Datagram) (s : State) : Prop where
  running : s.sys.inReset = false
  heard : s.deaf d = false
  whole : s.entire d = true
  header : headerGood d s = true
  crc : crcGood op.desc.cls op.desc.opcode d = true
  way : Path.serves d.path d.mailbox.toNat = true
  bound : (s.binding d.mailbox.toNat).role ≠ .unbound
  source : (s.binding d.mailbox.toNat).admits d.srcAddr d.srcPort = true
  served : s.starting = false ∨ d.mailbox.toNat < 4
  start : d.version = 1 ∨ d.startCount = 0 ∨ d.startCount.toNat = s.sys.startCount
  plain : d.flags.getLsbD 0 = false ∧ d.flags.getLsbD 1 = false ∧ d.flags.toNat < 8
  free : (s.box d.mailbox.toNat).isOpen = false
  fresh : (s.box d.mailbox.toNat).state = .empty ∨ d.tag ≠ (s.box d.mailbox.toNat).tag

/-- The state in which an arriving request has been counted (R60, R74). -/
def State.counted (s : State) (d : Datagram) : State :=
  updBox d.mailbox.toNat (fun b => { b with requests := b.requests + 1 })
    (if d.mailbox.toNat < 4 then { s.gathered d with sys.serviceUsed := s.sys.opNs } else s.gathered d)

/-- The state in which the mailbox holds a new request open (R52, R60), with the outputs of earlier commands gone. -/
def State.opening (s : State) (op : Op) (d : Datagram) : State :=
  openRequest (some op) op.desc.cls op.desc.opcode d ({ s with out := [] }.counted d)

/-- A request can be carried out on a state: its mailbox holds it open, the supervisor serves, the checks of R64 pass, the
audit log has room (R329), and a version 1 answer fits (R486). -/
structure Ready (q : Issued) (s : State) : Prop where
  up : s.sys.supUp = true
  held : s.holds q = true
  passes : s.failure q.op q = none
  room : s.auditFull = false
  fits : (s.box q.mailbox).version = 1 → (q.op.run q s).payload.length ≤ 1008

/-- A command arrives whose role the mailbox's role includes (R65) and that passes its checks. -/
structure Takes (op : Op) (d : Datagram) (s : State) : Prop where
  settled : Settled s
  arrives : Arrives op d s
  right : (s.binding d.mailbox.toNat).role.includes op.desc.role = true
  ready : Ready (requestOf op d s) (s.opening op d)

/-- The command answers a next state, and what it does is `P` of the request, the state before and the state after: at once where
the supervisor serves it; a command of a serving block is issued, held open by its mailbox, and `P` is what its
resolution does on every state on which it can be carried out (R40, R64, R68). -/
def Completes (c : Instr) (op : Op) (d : Datagram) (s : State) (P : Issued → State → State → Prop) : Prop :=
  if op.desc.issued then
    Runs c s fun t => requestOf op d s ∈ t.mbx.issued ∧ t.holds (requestOf op d s) = true ∧
      ∀ v, Ready (requestOf op d s) v → P (requestOf op d s) v (carryOut (requestOf op d s) v)
  else Runs c s (P (requestOf op d s) (s.opening op d))

/-- The mailbox of a request holds its final answer (R52, R61). -/
def Stored (q : Issued) (st : Status) (payload : List Byte) (s : State) : Prop :=
  (s.box q.mailbox).status = st ∧ (s.box q.mailbox).payload = payload ∧
    ((s.box q.mailbox).state = .answered ∨ (s.box q.mailbox).state = .notifying)

/-- The DONE of a request waits for the standby, to which its effect has gone (R394): the mailbox holds the request open, and it has
taken effect (R69). -/
def Confirming (q : Issued) (payload : List Byte) (s : State) : Prop :=
  s.holds q = true ∧ (s.box q.mailbox).stage = 2 ∧
    { mailbox := q.mailbox, tag := q.tag, payload, tick := s.time.tick : Unconfirmed } ∈ s.mbx.unconfirmed

/-- A request has its final answer: stored in its mailbox or, for the DONE of a command whose effect a standby that follows has to
confirm, kept until it does. -/
def Answered (q : Issued) (st : Status) (payload : List Byte) (s : State) : Prop :=
  if st = .done ∧ bulkOp q.op = true ∧ s.followed = true then Confirming q payload s else Stored q st payload s

/-- The commands that only read. -/
def readOps : List Op :=
  List.flatten [
    [.identify, .getMode, .getMailbox, .getDrops, .getBindings, .getTime, .getTimeDetail, .getPointConfig],
    [.getChannelConfig, .readCalibration, .getPortConfig, .getUplinkConfig, .getLoopConfig, .getStageConfig, .getSequenceConfig, .readImage],
    [.getProgramInfo, .getStreamConfig, .getTrigger, .readSkewTable, .getRecorderStatus, .getCodeInfo, .getPairStatus, .getHealthReport],
    [.getWitnesses, .getPairConfig, .getUpdateStatus, .getHealth, .getResetHistory, .listRetired, .getFaultCounter, .getEccStatus],
    [.listRetiredPages, .getFuses, .getStraps, .readPoints, .readRange, .listForces, .getWriteFaults, .getChannelStatus],
    [.getGroupStatus, .getPortStatus, .getUplinkStatus, .getLoopStatus, .getEngineLoad, .readBank, .getSupervision, .getRamp],
    [.getRepStatus, .getClStatus, .getFaoStatus, .getDioStatus, .getSequenceStatus, .getTaskStatus, .getCoreLoad, .listVarForces],
    [.readVariables, .getStreamStatus, .getTriggerStatus, .getSegmentStatus, .readSegmentHeader, .readSegmentData]]

/-- The commands that read the island, over its configuration connection. -/
def islandReads : List Op :=
  [.getSafetyStatus, .getInputPair, .getSafetyOutput, .getAxis, .getShroudConnection, .getConfigInfo, .readConfig]
/-- A command leaves the state `f`, its answer in its mailbox and its records in the recorder: every other part is as in `f`. -/
def Leaves (q : Issued) (st : Status) (payload : List Byte) (f w : State) : Prop :=
  Answered q st payload w ∧ Only [.mbx, .rcd] f w

/-- A long-running command leaves the state `f`: its mailbox holds it ACCEPTED (R61), and every other part is as in `f`. -/
def GoesOn (q : Issued) (f w : State) : Prop :=
  (w.box q.mailbox).state = .accepted ∧ (w.box q.mailbox).tag = q.tag ∧ Only [.mbx, .rcd] f w

/-- A transfer with the node of a port begins (R140): its first segment is sent in this cycle, or waits for the next where the port has
sent one; no other port and no uplink changes. -/
def Begins (n : Nat) (a : Acyclic) (v w : State) : Prop :=
  w.fld = { v.fld with ports := w.fld.ports } ∧ (∀ i, i ≠ n → w.port i = v.port i) ∧
  ((v.port n).sent = false → w.port n = { v.port n with sent := true, acyclic := some { a with due := false, age := 0 } } ∧
    .acyclic n (linkFrame 0 (acyclicPayload n a.segment v)) ∈ w.out) ∧
  ((v.port n).sent = true → w.port n = { v.port n with acyclic := some { a with due := true } })

/-- A command that takes effect at a coming tick leaves the state `f`: its mailbox holds it open until then (R61), and every other
part is as in `f`. -/
def Waits (q : Issued) (f w : State) : Prop :=
  (w.box q.mailbox).isOpen = true ∧ (w.box q.mailbox).tag = q.tag ∧ Only [.mbx, .rcd] f w

end Sys2Proof.Machine
end

