-- ==== Sys2Proof/Certificates/Slice0/Obligations.lean ====
section
/-! DEFINITION. The statements for the provers. -/

open Sys2Proof Sys2Proof.Machine

/-! ### The block and its queue -/

/-- A step takes the command at the front of the queue and runs it on the state with the queue's rest. -/
def Obligations.StepRunsFrontCommand : Prop :=
  ∀ (c : Instr) (rest : List Instr) (s : State), step { s with pending := c :: rest } = exec c { s with pending := rest }

/-- Every command answers a next state and leaves the queue as it is; an empty queue idles (notes/assumptions/2). -/
def Obligations.CommandsAnswerAndQueueStays : Prop :=
  (∀ (c : Instr) (s : State), Runs c s fun t => t.pending = s.pending) ∧ ∀ s : State, s.pending = [] → step s = .next s

/-- The state after reset is settled. -/
def Obligations.ResetIsSettled : Prop := Settled State.reset

/-- Every step leaves the state settled: no reset waits to be followed (R440), output points of loops hold their idle values while
no loop runs (R165), the confirmation window stands as mode and grade give it (R422), and grade and claim are those the state gives
(R387 to R389). -/
def Obligations.StepKeepsSettled : Prop := ∀ s t : State, Settled s → step s = .next t → Settled t

/-- What the spec gives after the first start: BOOT with start count 1 (R71, R436), no request in any mailbox (R71), the base period
of 100 µs with 10 fast ticks (R36, R38), no point forced and none valid, no record queued; the queue of commands is empty. -/
def Obligations.ResetHoldsStatedValues : Prop :=
  State.reset.sys.mode = .boot ∧ State.reset.sys.startCount = 1 ∧ (∀ m < 64, (State.reset.box m).state = .empty) ∧
    State.reset.time.periodUs = 100 ∧ State.reset.time.fastN = 10 ∧ State.reset.pts.forces = [] ∧
    (∀ p < 8192, (State.reset.entry p).valid = false) ∧ State.reset.rcd.queue = [] ∧ State.reset.pending = []

/-- While a whole-module reset holds the main die, mailbox commands are lost (R440). -/
def Obligations.HeldInResetNothingIsServed : Prop :=
  ∀ (i : Instr) (op : Op) (d : Datagram) (s : State), i.op? = some (op, d) → Settled s → s.sys.inReset = true →
    exec i s = .next { s with out := [] }

/-! ### The path of a mailbox request (chapter 3) -/

/-- A datagram with a wrong header or CRC is dropped and counted, and one for a mailbox not served on its transport, for an UNBOUND
mailbox, or from a source outside the binding is dropped, counted and recorded; neither is answered, and neither changes a mailbox's
state or stored response (R56). A fragment of a datagram of which others are missing is held and touches no mailbox (R54). -/
def Obligations.BadAndForeignDatagramsAreDropped : Prop :=
  (∀ (i : Instr) (op : Op) (d : Datagram) (s : State), i.op? = some (op, d) → Settled s → s.sys.inReset = false →
      s.deaf d = false → s.entire d = true → (headerGood d s = false ∨ crcGood op.desc.cls op.desc.opcode d = false) →
      Runs i s fun t =>
        t.out = [] ∧ Only [.mbx] s t ∧
        (headerGood d s = false → t.mbx.badHeader = s.mbx.badHeader + 1 ∧ t.mbx.badCrc = s.mbx.badCrc) ∧
        (headerGood d s = true → t.mbx.badCrc = s.mbx.badCrc + 1 ∧ t.mbx.badHeader = s.mbx.badHeader) ∧
        (∀ m, m ≠ d.mailbox.toNat → t.box m = s.box m) ∧
        (d.mailbox.toNat < 64 → t.box d.mailbox.toNat =
          { s.box d.mailbox.toNat with dropped := (s.box d.mailbox.toNat).dropped + 1 })) ∧
  (∀ (i : Instr) (op : Op) (d : Datagram) (s : State), i.op? = some (op, d) → Settled s → s.sys.inReset = false →
      s.deaf d = false → s.entire d = true → headerGood d s = true → crcGood op.desc.cls op.desc.opcode d = true →
      (Path.serves d.path d.mailbox.toNat = false ∨ (s.binding d.mailbox.toNat).role = .unbound ∨
        (s.binding d.mailbox.toNat).admits d.srcAddr d.srcPort = false) →
      Runs i s fun t =>
        t.out = [] ∧ Only [.mbx, .rcd] s t ∧
        t.mbx.wrongTransport + t.mbx.unbound + t.mbx.sourceRefused =
          s.mbx.wrongTransport + s.mbx.unbound + s.mbx.sourceRefused + 1 ∧
        (∀ m, m ≠ d.mailbox.toNat → t.box m = s.box m) ∧
        (d.mailbox.toNat < 64 → t.box d.mailbox.toNat =
          { s.box d.mailbox.toNat with dropped := (s.box d.mailbox.toNat).dropped + 1 }) ∧
        ∃ reason, t.rcd.waiting = s.rcd.waiting ++ [(8, s.record .datagramDropped [d.mailbox.toNat, reason])]) ∧
  (∀ (i : Instr) (op : Op) (d : Datagram) (f : Fragment) (s : State), i.op? = some (op, d) → Settled s → s.sys.inReset = false →
      s.sys.supUp = true → s.pathRetired d.path = false → d.fragment = some f → d.payload.length + 20 ≤ 4096 →
      s.completes d f = false → Runs i s fun t =>
        t.out = [] ∧ Only [.mbx] s t ∧ (∀ m, t.box m = s.box m) ∧ t.mbx.issued = s.mbx.issued ∧
        ∃ x ∈ t.mbx.parts, x.matches d f = true ∧ f.index ∈ x.got)

/-- The start count (R71): a whole-module reset clears every mailbox to EMPTY, and each start raises the count by one. A request
with a non-zero start count other than the module's is answered RESTARTED with stage 0, whatever its mailbox holds, and is not
carried out; the answer is not stored, and the mailbox keeps its state, its tag and its stored response. -/
def Obligations.StaleStartCountIsAnsweredRestarted : Prop :=
  (∀ (held : Nat) (s : State), Settled s → s.sys.inReset = false → s.sys.mode ≠ .halt → 10000 ≤ held →
    Runs (.resetNLow held) s fun t => (∀ m, (t.box m).state = .empty) ∧ t.sys.startCount = s.sys.startCount + 1) ∧
  (∀ s : State, Settled s → s.sys.powered = true → Runs .vinBelow16v s fun t =>
    (∀ m, (t.box m).state = .empty) ∧ t.sys.startCount = s.sys.startCount) ∧
  (∀ lands r (s : State), Settled s → s.sys.powered = false → Runs (.powerGood lands r) s fun t =>
    t.sys.startCount = s.sys.startCount + 1) ∧
  ∀ (i : Instr) (op : Op) (d : Datagram) (s : State), i.op? = some (op, d) → Settled s → s.sys.inReset = false →
    s.deaf d = false → s.entire d = true → dropped op.desc.cls op.desc.opcode d s = none →
    d.version ≠ 1 → d.startCount ≠ 0 → d.startCount.toNat ≠ s.sys.startCount →
    Runs i s fun t =>
      (∃ bytes, t.out = s.sends d.path d.srcAddr d.srcPort bytes ∧
        bytes[8]? = some (BitVec.ofNat 8 Status.restarted.code) ∧ bytes.drop 32 = List.replicate 9 0) ∧
      t.box d.mailbox.toNat = { s.box d.mailbox.toNat with
        requests := (s.box d.mailbox.toNat).requests + 1, restarts := (s.box d.mailbox.toNat).restarts + 1 } ∧
      (∀ m, m ≠ d.mailbox.toNat → t.box m = s.box m) ∧ t.mbx.issued = s.mbx.issued ∧ Only [.mbx, .sys] s t ∧
      t.sys = { s.sys with serviceUsed := t.sys.serviceUsed }

/-- The tag rules (R60) for a request that passes R56 and R71 and sets neither QUERY nor COMPLETION_ACK, at a mailbox that holds a
request: another tag while a request is open is answered BUSY, and the same tag with other content BAD_ARG, and nothing is carried
out or stored; a repeat of an open request is answered ACCEPTED once the request is long-running, else not; a repeat of a stored
request gets the stored response again and leaves the mailbox ANSWERED. -/
def Obligations.TagRulesAtHeldMailbox : Prop :=
  ∀ (i : Instr) (op : Op) (d : Datagram) (s : State), i.op? = some (op, d) → Settled s → s.sys.inReset = false →
    s.deaf d = false → s.entire d = true → dropped op.desc.cls op.desc.opcode d s = none →
    (d.version = 1 ∨ d.startCount = 0 ∨ d.startCount.toNat = s.sys.startCount) →
    d.flags.getLsbD 0 = false → d.flags.getLsbD 1 = false → (s.box d.mailbox.toNat).state ≠ .empty →
    let b := s.box d.mailbox.toNat
    let same := b.req.cls = op.desc.cls ∧ b.req.opcode = op.desc.opcode ∧ b.req.payload = d.payload ∧ b.req.crc = d.crc
    let sent := fun (tag : U16) (cls opcode : Byte) (st : Status) (payload : List Byte) (tick : Nat) (t : State) =>
      t.out = s.sends d.path d.srcAddr d.srcPort (responseBytes d.version d.mailbox.toNat tag cls opcode st payload tick t)
    (b.isOpen = true → d.tag ≠ b.tag → Runs i s fun t =>
      sent d.tag op.desc.cls op.desc.opcode .busy [] 0 t ∧ t.box d.mailbox.toNat = { b with requests := b.requests + 1 } ∧
      t.mbx.issued = s.mbx.issued ∧ Only [.mbx, .sys] s t) ∧
    (d.tag = b.tag → ¬ same → Runs i s fun t =>
      sent d.tag op.desc.cls op.desc.opcode .badArg [] 0 t ∧ t.box d.mailbox.toNat = { b with requests := b.requests + 1 } ∧
      t.mbx.issued = s.mbx.issued ∧ Only [.mbx, .sys] s t) ∧
    (b.isOpen = true → d.tag = b.tag → same → Runs i s fun t =>
      (b.state = .opened → t.out = []) ∧ (b.state = .accepted → sent d.tag b.req.cls b.req.opcode .accepted [] b.tick t) ∧
      (t.box d.mailbox.toNat).state = b.state ∧ (t.box d.mailbox.toNat).req = b.req ∧ (t.box d.mailbox.toNat).tag = b.tag ∧
      t.mbx.issued = s.mbx.issued ∧ Only [.mbx, .sys] s t) ∧
    (b.isOpen = false → d.tag = b.tag → same → (d.version = 1 → b.payload.length ≤ 1008) → Runs i s fun t =>
      sent b.tag b.req.cls b.req.opcode b.status b.payload b.tick t ∧
      t.box d.mailbox.toNat = { b with requests := b.requests + 1, state := .answered } ∧
      t.mbx.issued = s.mbx.issued ∧ Only [.mbx, .sys] s t)

/-- QUERY and COMPLETION_ACK are judged by their tag alone (R60): where it names the stored response, QUERY gets that response and a
COMPLETION_ACK none, and the mailbox is ANSWERED; where it names nothing, the answer is BAD_ARG, and state, tag and stored response
stay.

Concluded to answer a next state with this effect (`exec c s = .next t`): `query`, `completionAck`. -/
def Obligations.QueryAndAcknowledgement : Prop :=
  ∀ (cls opcode : Byte) (d : Datagram) (s : State), Settled s → s.sys.inReset = false → s.deaf d = false → s.entire d = true →
    dropped cls opcode d s = none → (d.version = 1 ∨ d.startCount = 0 ∨ d.startCount.toNat = s.sys.startCount) →
    let b := s.box d.mailbox.toNat
    let stored := b.state = .answered ∨ b.state = .notifying
    (d.flags.getLsbD 0 = true → d.flags.getLsbD 1 = false → d.tag = b.tag → stored →
      (d.version = 1 → b.payload.length ≤ 1008) → Runs (.query cls opcode d) s fun t =>
        t.box d.mailbox.toNat = { b with requests := b.requests + 1, state := .answered } ∧
        t.mbx.issued = s.mbx.issued ∧ Only [.mbx, .sys] s t ∧
        t.out = s.sends d.path d.srcAddr d.srcPort (responseBytes d.version d.mailbox.toNat b.tag b.req.cls b.req.opcode
          b.status b.payload b.tick t)) ∧
    (d.flags.getLsbD 1 = true → d.tag = b.tag → stored →
      Runs (.completionAck cls opcode d) s fun t =>
        t.box d.mailbox.toNat = { b with requests := b.requests + 1, state := .answered } ∧
        t.mbx.issued = s.mbx.issued ∧ Only [.mbx, .sys] s t ∧ t.out = []) ∧
    (d.flags.getLsbD 0 = true ∨ d.flags.getLsbD 1 = true → b.state = .empty ∨ d.tag ≠ b.tag →
      ∀ c, c = Instr.query cls opcode d ∨ c = Instr.completionAck cls opcode d → Runs c s fun t =>
        t.box d.mailbox.toNat = { b with requests := b.requests + 1 } ∧ t.mbx.issued = s.mbx.issued ∧ Only [.mbx, .sys] s t ∧
        t.out = s.sends d.path d.srcAddr d.srcPort (responseBytes d.version d.mailbox.toNat d.tag cls opcode .badArg [] 0 t))

/-- The checks of R64 in their order, for a request that is otherwise taken: a role that does not include the command's is answered
REFUSED_RIGHT, then a mode that the command does not admit REFUSED_MODE, then the first failed check of arguments, retirement,
ownership and serving block with its status, and the command has no effect. (Where commands of the tick can still change the
outcome, a command of a serving block is decided at its resolution, R68.) -/
def Obligations.FailedChecksHaveNoEffect : Prop :=
  ∀ (i : Instr) (op : Op) (d : Datagram) (s : State), i.op? = some (op, d) → Settled s → Arrives op d s →
    let q := requestOf op d s
    let u := s.opening op d
    let right := (s.binding d.mailbox.toNat).role.includes op.desc.role
    (right = false → Runs i s fun t => Answered q .refusedRight [] t ∧ Only [.mbx, .sys] s t) ∧
    (right = true → (op.desc.issued = true → u.undecided op = false) →
      (op.desc.inMode s.sys.mode = false → Runs i s fun t => Answered q .refusedMode [] t ∧ Only [.mbx, .sys, .rcd] s t) ∧
      (op.desc.inMode s.sys.mode = true → ∀ st p, op.check q u = some (st, p) →
        Runs i s fun t => Answered q st p t ∧ Only [.mbx, .sys, .rcd] s t) ∧
      (op.desc.inMode s.sys.mode = true → op.check q u = none → u.blockDown op = true →
        Runs i s fun t => Answered q .busy [] t ∧ Only [.mbx, .sys, .rcd] s t))

/-- A command of a serving block that passes the checks is issued in the order of arrival and assigned to the tick, and nothing else
happens as it arrives (R40, R64, R68). -/
def Obligations.PassedCommandsAreIssued : Prop :=
  ∀ (i : Instr) (op : Op) (d : Datagram) (s : State), i.op? = some (op, d) → op.desc.issued = true → Takes op d s →
    Runs i s fun t =>
      t.mbx.issued = s.mbx.issued ++ [requestOf op d s] ∧ t.holds (requestOf op d s) = true ∧
      (t.box d.mailbox.toNat).stage = 1 ∧ (t.box d.mailbox.toNat).tick = s.time.tick ∧
      (∀ m, m ≠ d.mailbox.toNat → t.box m = s.box m) ∧ Only [.mbx, .sys] s t

/-- A command that the supervisor serves itself is carried out as it arrives: its effect is that of its row, its answer stands in
the mailbox (R52, R64), and the queue and the serving blocks' commands stay. -/
def Obligations.SupervisorServesItsOwnCommands : Prop :=
  ∀ (i : Instr) (op : Op) (d : Datagram) (s : State), i.op? = some (op, d) → op.desc.issued = false → Takes op d s →
    let q := requestOf op d s
    let r := op.run q (s.opening op d)
    Settled r.st → r.later = false → r.status ≠ .accepted → (∀ t, r.post t = t) → r.st.sys.supUp = true →
    r.st.box q.mailbox = (s.opening op d).box q.mailbox → r.st.pending = s.pending →
    Runs i s fun t => Leaves q r.status r.payload r.st t

/-- The serving blocks resolve the commands of one tick lower mailbox number first, then in order of issue; reads that return state
as after the whole resolution come last (R68, R97). TICK_BOUNDARY carries each of them out once, in that order, between ranks 7 and
9 of the tick (R42), so that what a statement below says of the carrying out of an issued command is what the boundary of its tick
does.

Concluded to answer a next state with this effect (`exec c s = .next t`): `tickBoundary`. -/
def Obligations.ResolutionOrderOfOneTick : Prop :=
  (∀ s : State, s.resolutionOrder.Perm s.mbx.issued ∧
    (s.resolutionOrder.Pairwise fun a b => (a.op.desc.late = b.op.desc.late → a.mailbox ≤ b.mailbox) ∧
      (a.op.desc.late = true → b.op.desc.late = true)) ∧
    ∀ (m : Nat) (late : Bool), s.resolutionOrder.filter (fun q => q.mailbox == m && q.op.desc.late == late) =
      s.mbx.issued.filter fun q => q.mailbox == m && q.op.desc.late == late) ∧
  ∀ (io : TickIO) (s : State), Live s →
    let b := beforeCommands io { s with out := [], mbx.holding := true }
    Runs (.tickBoundary io) s fun t => t = { settle (sendHeld (confirmAlone (beginTick (afterCommands
      (b.resolutionOrder.foldl (fun v q => carryOut q v) { b with mbx.issued := [] }))))) with pending := s.pending }

/-- A read changes nothing but its mailbox (and in class 0x0E its audit record, R435), whichever block serves it, and is answered
DONE with the payload of its row.

Concluded to answer a next state (`exec c s = .next t`) and to have this effect, a command of a serving block at the boundary of its
tick: `identify`, `getMode`, `getMailbox`, `getDrops`, `getBindings`, `getTime`, `getTimeDetail`, `readPoints`, `readRange`,
`listForces`, `getPointConfig`, `getWriteFaults`, `getChannelStatus`, `getGroupStatus`, `getChannelConfig`, `readCalibration`,
`getPortStatus`, `getUplinkStatus`, `getPortConfig`, `getUplinkConfig`, `getLoopConfig`, `getLoopStatus`, `getEngineLoad`,
`readBank`, `getSupervision`, `getRamp`, `getRepStatus`, `getClStatus`, `getFaoStatus`, `getDioStatus`, `getStageConfig`,
`getSequenceStatus`, `getSequenceConfig`, `readImage`, `getTaskStatus`, `getCoreLoad`, `getProgramInfo`, `listVarForces`,
`readVariables`, `getStreamStatus`, `getTriggerStatus`, `getSegmentStatus`, `getStreamConfig`, `getTrigger`, `readSegmentHeader`,
`readSegmentData`, `readSkewTable`, `getRecorderStatus`, `getCodeInfo`, `getPairStatus`, `getHealthReport`, `getWitnesses`,
`getPairConfig`, `getUpdateStatus`, `getHealth`, `getResetHistory`, `listRetired`, `getFaultCounter`, `getEccStatus`,
`listRetiredPages`, `getFuses`, `getStraps`. -/
def Obligations.ReadsChangeNothing : Prop :=
  ∀ (i : Instr) (op : Op) (d : Datagram) (s : State), i.op? = some (op, d) → readOps.contains op = true → Takes op d s →
    Completes i op d s fun q v w => Leaves q .done (op.run q v).payload v w

/-- A read of the island changes nothing but its mailbox and what every frame of the configuration connection does: the island
learns of the mode (R336), which is mirrored into its points, and a session of the mailbox has its time of the last request (R361).

Concluded to answer a next state (`exec c s = .next t`) and to have this effect, a command of a serving block at the boundary of its
tick: `getSafetyStatus`, `getInputPair`, `getSafetyOutput`, `getAxis`, `getConfigInfo`, `readConfig`, `getShroudConnection`. -/
def Obligations.IslandReadsChangeNothing : Prop :=
  ∀ (i : Instr) (op : Op) (d : Datagram) (s : State), i.op? = some (op, d) → islandReads.contains op = true → Takes op d s →
    Completes i op d s fun q v w => Answered q .done (op.run q v).payload w ∧ Only [.mbx, .rcd, .saf, .pts] v w ∧
      w.saf.heldMode = v.sys.mode.code ∧ w.saf.state = v.saf.state ∧ w.saf.cfg = v.saf.cfg ∧ w.saf.image = v.saf.image ∧
      w.saf.pending = v.saf.pending

/-! ### Classes 0x01 and 0x02: module and time -/

/-- SET_COMPAT, SET_BINDING, SET_MAILBOX_PORT, RESTART_MODULE and GET_CHALLENGE leave exactly what their rows say: settings that
take effect at the next entry to IDLE or CONFIGURE; a binding in force at once, with an audit record (R66); the whole-module reset
10 ms after DONE (R76); a fresh nonce.

Concluded to answer a next state (`exec c s = .next t`) and to have this effect, a command of a serving block at the boundary of its
tick: `getChallenge`, `restartModule`, `setCompat`, `setBinding`, `setMailboxPort`. -/
def Obligations.SupervisorCommandsTakeEffect : Prop :=
  ∀ (d : Datagram) (s : State),
    (Takes .setCompat d s → Completes (.setCompat d) .setCompat d s fun q v w =>
      Leaves q .done [] { v with cfg.compat := some (BitVec.ofNat 8 (q.u8 0)), cfg.any := true } w) ∧
    (Takes .setBinding d s → Completes (.setBinding d) .setBinding d s fun q v w =>
      let b : Binding := { role := (Role.ofCode (q.u8 1)).getD .unbound, addr := BitVec.ofNat 32 (q.u32 2),
                           mask := BitVec.ofNat 32 (q.u32 6), port := BitVec.ofNat 16 (q.u16 10) }
      Leaves q .done [] { v with cfg.bindings := v.cfg.bindings.put (q.u8 0) b, cfg.any := true } w ∧
      w.binding (q.u8 0) = b ∧ (∀ m, m ≠ q.u8 0 → w.binding m = v.binding m) ∧
      (8, v.record .bindingSet [q.u8 0, q.u8 1, q.u32 2, q.u32 6, q.u16 10]) ∈ w.rcd.waiting) ∧
    (Takes .setMailboxPort d s → Completes (.setMailboxPort d) .setMailboxPort d s fun q v w =>
      Leaves q .done [] { v with cfg.udpPort := q.u16 0, cfg.any := true } w ∧ w.mbx.udpPort = v.mbx.udpPort) ∧
    (Takes .restartModule d s → Completes (.restartModule d) .restartModule d s fun q v w =>
      Leaves q .done [] { v with sys.restart := some (v.sys.restart.getD (4, v.sys.opNs + 10000000)) } w) ∧
    (Takes .getChallenge d s → Completes (.getChallenge d) .getChallenge d s fun q v w =>
      Leaves q .done (nonceBytes (Config.nonce v.sys.free))
        { v with sys.free := v.sys.free + 1,
                 sys.nonces := (v.sys.nonces.filter fun x => nonceFresh x.2 v.sys.opNs) ++
                   [(Config.nonce v.sys.free, v.sys.opNs)] } w)

/-- RESTART_SUPERVISOR is answered DONE and then resets the supervisor domain (R76); datagrams are lost until it serves again (R69).
A third supervisor reset within 600 s resets the whole module instead (R445).

Concluded to answer a next state (`exec c s = .next t`) and to have this effect, a command of a serving block at the boundary of its
tick: `restartSupervisor`. -/
def Obligations.RestartSupervisorResetsItsDomain : Prop :=
  ∀ (d : Datagram) (s : State), Takes .restartSupervisor d s → (escalate 600 s.sys.opNs s.sys.supResets).2 = false →
    Completes (.restartSupervisor d) .restartSupervisor d s fun q v w =>
      Answered q .done [] w ∧ w.sys.supUp = false ∧ (∀ d', w.deaf d' = true) ∧ w.sys.history.head?.map (·.domain) = some 1 ∧
      w.pts = v.pts ∧ w.cfg = v.cfg ∧ w.mbx.issued = v.mbx.issued

/-- The mode commands (R74): ENTER_SERVICE and ENTER_CONFIGURE stop loops and programs and enter their mode; LEAVE_SERVICE enters
CONFIGURE, or LOCKOUT where the island is locked out; GO_IDLE enters IDLE, and at a pair member IDLE or SYNC.

Concluded to answer a next state (`exec c s = .next t`) and to have this effect, a command of a serving block at the boundary of its
tick: `enterService`, `leaveService`, `enterConfigure`, `goIdle`. -/
def Obligations.ModeCommandsChangeTheMode : Prop :=
  ∀ (d : Datagram) (s : State),
    (Takes .enterService d s → Completes (.enterService d) .enterService d s fun _ v w =>
      w.sys.mode = .service ∧ (∀ l ∈ v.wired, (w.loop l).run = .off) ∧ w.cfg = v.cfg) ∧
    (Takes .enterConfigure d s → Completes (.enterConfigure d) .enterConfigure d s fun _ v w =>
      w.sys.mode = .configure ∧ (∀ l ∈ v.wired, (w.loop l).run = .off) ∧ w.mbx.udpPort = v.cfg.udpPort ∧ w.cfg = v.cfg) ∧
    (Takes .leaveService d s → Completes (.leaveService d) .leaveService d s fun _ v w =>
      (v.inLockout = false → w.sys.mode = .configure) ∧
      (v.inLockout = true → w.sys.mode = .lockout ∧ w.sys.lockoutFrom = .service) ∧ w.saf.session = none ∧ w.cfg = v.cfg) ∧
    (Takes .goIdle d s → Completes (.goIdle d) .goIdle d s fun _ v w =>
      (v.cfg.pair.paired = false → w.sys.mode = .idle) ∧ (v.cfg.pair.paired = true → w.sys.mode = .idle ∨ w.sys.mode = .sync) ∧
      w.pts.inForce = v.cfg.points ∧ w.sqn.bound = v.cfg.seqs ∧ w.cfg = v.cfg)

/-- The time commands: SET_TICK sets T and N with the tick at which the new grid starts (R36); SET_TIME_ROLE and SET_GPTP set what
their rows give and change nothing but time and acquisition beside it; STEP_TIME takes the pending step (R31).

Concluded to answer a next state (`exec c s = .next t`) and to have this effect, a command of a serving block at the boundary of its
tick: `setTick`, `setTimeRole`, `setGptp`, `stepTime`. -/
def Obligations.TimeCommandsTakeEffect : Prop :=
  ∀ (d : Datagram) (s : State),
    (Takes .setTick d s → Completes (.setTick d) .setTick d s fun q v w =>
      let e := ((q.tick + 1) * v.time.periodUs * 1000 + 1000000 + q.u16 0 * 1000 - 1) / (q.u16 0 * 1000)
      Leaves q .done (le 8 e) { v with cfg.periodUs := q.u16 0, cfg.fastN := q.u8 2, cfg.any := true,
                                       time.change := some (q.u16 0, q.u8 2, e) } w) ∧
    (Takes .setTimeRole d s → Completes (.setTimeRole d) .setTimeRole d s fun q v w =>
      Answered q .done [] w ∧ Only [.cfg, .time, .acq, .mbx, .rcd] v w ∧
      w.cfg = { v.cfg with timeRole := q.u8 0, unit := q.u8 1, halDelay := q.u16 2, freeRun := q.u8 4 == 1, any := true } ∧
      (v.cfg.timeRole = q.u8 0 → w.time = v.time) ∧ (v.cfg.timeRole ≠ q.u8 0 → w.time.driving = decide (q.u8 0 = 1))) ∧
    (Takes .setGptp d s → Completes (.setGptp d) .setGptp d s fun q v w =>
      Answered q .done [] w ∧ Only [.cfg, .time, .mbx, .rcd] v w ∧
      w.cfg = { v.cfg with gptpDomain := q.u8 0, u1Enabled := q.u8 1 == 1, any := true } ∧
      (v.cfg.gptpDomain ≠ q.u8 0 → w.time.gptp0.valid = false ∧ w.time.gptp1.valid = false)) ∧
    (Takes .stepTime d s → Completes (.stepTime d) .stepTime d s fun q v w =>
      Answered q .done (leInt 8 (v.time.step.getD 0)) w ∧ Only [.time, .mbx, .rcd] v w ∧
      (∀ off, v.time.step = some off → w.time.stepNow = some off ∧ w.time.step = none ∧ w.time.state = .acquiring))

/-! ### Class 0x03: points -/

/-- WRITE_POINTS writes every listed point, all or none: the value with VALID set and STALE clear, behind a force where one is in
force (R87, R88), and no other point.

Concluded to answer a next state (`exec c s = .next t`) and to have this effect, a command of a serving block at the boundary of its
tick: `writePoints`. -/
def Obligations.WritePointsWritesThem : Prop :=
  ∀ (d : Datagram) (s : State), Takes .writePoints d s → Completes (.writePoints d) .writePoints d s fun q v w =>
    Answered q .done [] w ∧ Only [.pts, .mbx, .rcd] v w ∧
    (∀ x ∈ writePairs q, ∀ p, v.nativePoint x.1 = some p →
      (w.ownEntry p).value = x.2 ∧ (w.ownEntry p).valid = true ∧ (w.ownEntry p).stale = false) ∧
    (∀ p, (∀ x ∈ writePairs q, v.nativePoint x.1 ≠ some p) → w.entry p = v.entry p ∧ w.ownEntry p = v.ownEntry p)

/-- SET_FORCE shows the forced value to every reader, VALID and FORCED, and keeps the underlying entry (R88, R90); REMOVE_FORCE
gives each named point its underlying entry back (R92). Each writes an audit record, and no other point changes.

Concluded to answer a next state (`exec c s = .next t`) and to have this effect, a command of a serving block at the boundary of its
tick: `setForce`, `removeForce`. -/
def Obligations.ForcesAreSetAndRemoved : Prop :=
  ∀ (d : Datagram) (s : State),
    (Takes .setForce d s → Completes (.setForce d) .setForce d s fun q v w =>
      Answered q .done [] w ∧ Only [.pts, .mbx, .rcd] v w ∧ ∃ p, v.nativePoint (q.u16 0) = some p ∧
      w.entry p = { v.entry p with value := q.f 2, valid := true, forced := true, retired := v.pointRetired p } ∧
      w.ownEntry p = (if (v.entry p).forced then v.ownEntry p else v.entry p) ∧
      (∀ p', p' ≠ p → w.entry p' = v.entry p' ∧ w.ownEntry p' = v.ownEntry p')) ∧
    (Takes .removeForce d s → Completes (.removeForce d) .removeForce d s fun q v w =>
      Answered q .done (le 2 (forcesNamed q v).length) w ∧ Only [.pts, .mbx, .rcd] v w ∧
      (∀ p ∈ forcesNamed q v, w.entry p = { v.ownEntry p with forced := false } ∧ ∀ f ∈ w.pts.forces, f.point ≠ p) ∧
      (∀ p, p ∉ forcesNamed q v → w.entry p = v.entry p))

/-- SET_POINT_CONFIG sets owner and format of the range, in force from the next entry to IDLE, and with owner none removes the
forces there (R83); snapshots hold all entries of one tick, are read back, and are freed (R97).

Concluded to answer a next state (`exec c s = .next t`) and to have this effect, a command of a serving block at the boundary of its
tick: `takeSnapshot`, `readSnapshot`, `freeSnapshot`, `setPointConfig`. -/
def Obligations.PointConfigAndSnapshots : Prop :=
  ∀ (d : Datagram) (s : State),
    (Takes .setPointConfig d s → Completes (.setPointConfig d) .setPointConfig d s fun q v w =>
      let l := (rangeOf (q.u16 0) (q.u16 2)).map fun n => (v.nativePoint n).getD 0
      Answered q .done [] w ∧ Only [.cfg, .pts, .mbx, .rcd] v w ∧ w.pts.inForce = v.pts.inForce ∧
      (∀ p ∈ l, w.cfg.points.find p = some { owner := BitVec.ofNat 8 (q.u8 4), format := BitVec.ofNat 8 (q.u8 5) }) ∧
      (∀ p, p ∉ l → w.cfg.points.find p = v.cfg.points.find p ∧ w.entry p = v.entry p) ∧
      (q.u8 4 % 256 = 0 → ∀ p ∈ l, ∀ f ∈ w.pts.forces, f.point ≠ p) ∧ (q.u8 4 % 256 ≠ 0 → w.pts = v.pts)) ∧
    (Takes .takeSnapshot d s → Completes (.takeSnapshot d) .takeSnapshot d s fun q v w =>
      ∃ i < 4, v.pts.snaps.has i = false ∧ ∃ b : Snapshot, b.entries = v.pts.entries ∧ b.tick = v.time.tick ∧
        Leaves q .done ([BitVec.ofNat 8 i] ++ le 8 v.time.tick) { v with pts.snaps := v.pts.snaps.put i b } w) ∧
    (Takes .readSnapshot d s → Completes (.readSnapshot d) .readSnapshot d s fun q v w =>
      ∃ b payload, v.pts.snaps.find (q.u8 0) = some b ∧ payload.take 8 = le 8 b.tick ∧
        Leaves q .done payload { v with pts.snaps := v.pts.snaps.put (q.u8 0) { b with used := v.sys.opNs } } w) ∧
    (Takes .freeSnapshot d s → Completes (.freeSnapshot d) .freeSnapshot d s fun q v w =>
      Leaves q .done [] { v with pts.snaps := v.pts.snaps.del (q.u8 0) } w)

/-! ### Class 0x04: analogue inputs -/

/-- The commands that configure analogue inputs set the channels, trims and thresholds of their rows and no others; a channel
enabled or given another range is checked for calibration (R108, R127). RELEASE of a group resets it and goes on (R126);
CLEAR_COUNTERS zeroes the counts of the channels it names and nothing else.

Concluded to answer a next state (`exec c s = .next t`) and to have this effect, a command of a serving block at the boundary of its
tick: `setChannelConfig`, `setEnable`, `setUserTrim`, `setFaultThreshold`, `releaseGroup`, `clearCounters`. -/
def Obligations.AnalogueCommandsTakeEffect : Prop :=
  ∀ (d : Datagram) (s : State),
    (Takes .setChannelConfig d s → Completes (.setChannelConfig d) .setChannelConfig d s fun q v w =>
      Answered q .done [] w ∧ Only [.cfg, .sys, .mbx, .rcd] v w ∧
      w.cfg = { v.cfg with channels := w.cfg.channels, any := v.cfg.any || decide (0 < q.u8 1) } ∧
      (∀ c, q.u8 0 ≤ c → c < q.u8 0 + q.u8 1 →
        w.channelCfg c = { enabled := q.u8 2 == 1, range := q.u8 3, last := q.u8 4 == 1 }) ∧
      (∀ c, (c < q.u8 0 ∨ q.u8 0 + q.u8 1 ≤ c) → w.channelCfg c = v.channelCfg c)) ∧
    (Takes .setEnable d s → Completes (.setEnable d) .setEnable d s fun q v w =>
      Answered q .done [] w ∧ Only [.cfg, .sys, .mbx, .rcd] v w ∧
      w.channelCfg (q.u8 0) = { v.channelCfg (q.u8 0) with enabled := q.u8 1 == 1 } ∧
      (∀ c, c ≠ q.u8 0 → w.channelCfg c = v.channelCfg c)) ∧
    (Takes .setUserTrim d s → Completes (.setUserTrim d) .setUserTrim d s fun q v w =>
      Leaves q .done [] { v with cfg.trims := v.cfg.trims.put (8 * q.u8 0 + q.u8 1) { gain := q.f 2, off := q.f 6 },
                                 cfg.any := true } w) ∧
    (Takes .setFaultThreshold d s → Completes (.setFaultThreshold d) .setFaultThreshold d s fun q v w =>
      Answered q .done [] w ∧ Only [.cfg, .mbx, .rcd] v w ∧
      (∀ g < 12, q.u8 0 = 0xFF ∨ q.u8 0 = g → w.threshold (resource 2 g) = (q.u8 1, q.u16 2)) ∧
      (∀ r, (∀ g < 12, q.u8 0 = 0xFF ∨ q.u8 0 = g → r ≠ resource 2 g) → w.threshold r = v.threshold r)) ∧
    (Takes .releaseGroup d s → Completes (.releaseGroup d) .releaseGroup d s fun q v w =>
      GoesOn q { v with ain := w.ain, sys := w.sys } w ∧ (w.group (q.u8 0)).mode = .inReset ∧
      (∀ g, g ≠ q.u8 0 → w.group g = v.group g) ∧ w.ain.channels = v.ain.channels ∧
      w.sys = { v.sys with history := w.sys.history } ∧
      w.sys.history.head? = some { domain := 6, index := q.u8 0, cause := 0x0604, tick := v.time.tick, start := v.sys.startCount }) ∧
    (Takes .clearCounters d s → Completes (.clearCounters d) .clearCounters d s fun q v w =>
      Leaves q .done [] { v with ain.channels := w.ain.channels } w ∧
      (∀ c < 96, q.u8 0 = 0xFF ∨ c / 8 = q.u8 0 → w.channel c =
        { v.channel c with samples := 0, ovr := 0, settling := 0, urgent := 0, excess := 0, parity := 0 }) ∧
      (∀ c < 96, q.u8 0 ≠ 0xFF → c / 8 ≠ q.u8 0 → w.channel c = v.channel c))

/-! ### Class 0x05: field ports and uplinks -/

/-- The commands that configure ports and uplinks set what their rows give and nothing else; thresholds hold for the resources named
(R145, R455), and CLEAR_PORT_COUNTERS zeroes the counts of the ports it names.

Concluded to answer a next state (`exec c s = .next t`) and to have this effect, a command of a serving block at the boundary of its
tick: `setPortConfig`, `setPortFaultThreshold`, `clearPortCounters`, `setUplink`. -/
def Obligations.PortSettingsTakeEffect : Prop :=
  ∀ (d : Datagram) (s : State),
    (Takes .setPortConfig d s → Completes (.setPortConfig d) .setPortConfig d s fun q v w =>
      let c : PortCfg := { enabled := BitVec.ofNat 8 (q.u8 1), phyRole := BitVec.ofNat 8 (q.u8 2), inCount := q.u8 3,
                           outCount := q.u8 4, shroudLen := q.u8 5, gIn := q.u16 6, dOut := q.u16 8, w := q.u8 10,
                           nodeId := BitVec.ofNat 32 (q.u32 11) }
      Leaves q .done [] { v with cfg.ports := v.cfg.ports.put (q.u8 0) c, cfg.any := true } w) ∧
    (Takes .setUplink d s → Completes (.setUplink d) .setUplink d s fun q v w =>
      let c : UplinkCfg := { role := BitVec.ofNat 8 (q.u8 1), addr := BitVec.ofNat 32 (q.u32 2), mask := BitVec.ofNat 32 (q.u32 6),
                             gateway := BitVec.ofNat 32 (q.u32 10), mtu := q.u16 14 }
      Leaves q .done [] { v with cfg.uplinks := v.cfg.uplinks.put (q.u8 0) c, cfg.any := true } w) ∧
    (Takes .setPortFaultThreshold d s → Completes (.setPortFaultThreshold d) .setPortFaultThreshold d s fun q v w =>
      Answered q .done [] w ∧ Only [.cfg, .mbx, .rcd] v w ∧
      (∀ r, (r ∈ portResources (q.u8 0) → w.threshold r = (q.u8 1, q.u16 2)) ∧
        (r ∉ portResources (q.u8 0) → w.threshold r = v.threshold r))) ∧
    (Takes .clearPortCounters d s → Completes (.clearPortCounters d) .clearPortCounters d s fun q v w =>
      Leaves q .done [] { v with fld.ports := w.fld.ports } w ∧
      (∀ n < 48, q.u8 0 = 0xFF ∨ q.u8 0 = n → w.port n =
        { v.port n with rx := 0, tx := 0, missing := 0, late := 0, fcs := 0, cycleBad := 0, linkLosses := 0 }) ∧
      (∀ n < 48, q.u8 0 ≠ 0xFF → q.u8 0 ≠ n → w.port n = v.port n))

/-- The long-running commands of class 0x05 start what their rows say and are ACCEPTED: the release bit of a node (R138), an acyclic
transfer whose first segment is sent in its cycle, or waits for the next where the port has sent one (R140), the reset and training
of a port or uplink (R141, R144).

Concluded to answer a next state (`exec c s = .next t`) and to have this effect, a command of a serving block at the boundary of its
tick: `releaseNode`, `writeNodeParams`, `readNodeParams`, `releasePort`, `releaseUplink`. -/
def Obligations.PortWorkGoesOn : Prop :=
  ∀ (d : Datagram) (s : State),
    (Takes .releaseNode d s → Completes (.releaseNode d) .releaseNode d s fun q v w =>
      GoesOn q (updPort (q.u8 0) (fun p => { p with release := true }) v) w) ∧
    (Takes .writeNodeParams d s → Completes (.writeNodeParams d) .writeNodeParams d s fun q v w =>
      GoesOn q { v with fld := w.fld } w ∧
      Begins (q.u8 0) { write := true, left := q.bytes 3 (q.u16 1), request := some q.ref } v w) ∧
    (Takes .readNodeParams d s → Completes (.readNodeParams d) .readNodeParams d s fun q v w =>
      GoesOn q { v with fld := w.fld } w ∧ Begins (q.u8 0) { write := false, left := [], request := some q.ref } v w) ∧
    (Takes .releasePort d s → Completes (.releasePort d) .releasePort d s fun q v w =>
      GoesOn q { v with fld := w.fld, sys.history := w.sys.history } w ∧
      w.port (q.u8 0) = { v.port (q.u8 0) with
        mode := .inReset, downSince := none, fresh := false, frame := none, acyclic := none, release := false,
        inCheck := true, checking := 0, checkFrom := v.sys.opNs } ∧
      (∀ n, n ≠ q.u8 0 → w.port n = v.port n) ∧ w.fld.uplinks = v.fld.uplinks ∧
      w.sys.history.head? = some { domain := 5, index := q.u8 0, cause := 0x0504, tick := v.time.tick, start := v.sys.startCount }) ∧
    (Takes .releaseUplink d s → Completes (.releaseUplink d) .releaseUplink d s fun q v w =>
      GoesOn q { v with fld := w.fld, sys.history := w.sys.history } w ∧
      w.uplink (q.u8 0) = { v.uplink (q.u8 0) with
        checking := true, checkBad := false, checkFrom := v.sys.opNs, linkAt := none, link := false, inReset := false } ∧
      (∀ u, u ≠ q.u8 0 → w.uplink u = v.uplink u) ∧ w.fld.ports = v.fld.ports ∧
      w.sys.history.head? = some { domain := 5, index := 48 + q.u8 0, cause := 0x0504, tick := v.time.tick, start := v.sys.startCount })

/-! ### Class 0x06: loops, ramps, repetitive memories -/

/-- The commands that configure loops set what their rows give for the loops named and nothing else: wiring with default
supervision, the inactive bank, groups, the start state, thresholds; COPY_ACTIVE makes both banks equal (R148, R172, R199).

Concluded to answer a next state (`exec c s = .next t`) and to have this effect, a command of a serving block at the boundary of its
tick: `setLoopWiring`, `writeBank`, `setSwapGroup`, `copyActive`, `setStartState`, `setLoopFaultThreshold`, `setSupervision`. -/
def Obligations.LoopSettingsTakeEffect : Prop :=
  ∀ (d : Datagram) (s : State),
    (Takes .setLoopWiring d s → Completes (.setLoopWiring d) .setLoopWiring d s fun q v w =>
      Answered q .done [] w ∧ Only [.cfg, .lop, .mbx, .rcd] v w ∧ w.wiring (q.u16 0) = wiringOf q 2 ∧
      (w.loopCfg (q.u16 0)).sup = defaultSupervision (wiringOf q 2).ny ∧
      (∀ l, l ≠ q.u16 0 → w.loopCfg l = v.loopCfg l ∧ w.loop l = v.loop l)) ∧
    (Takes .writeBank d s → Completes (.writeBank d) .writeBank d s fun q v w =>
      let i := 1 - (v.loopCfg (q.u16 0)).active
      Leaves q .done (le 1 i) { v with cfg := w.cfg } w ∧
      (w.loopCfg (q.u16 0)).bank i = { block := q.fs 2 208, params := q.fs 834 16 } ∧
      (w.loopCfg (q.u16 0)).active = (v.loopCfg (q.u16 0)).active ∧
      ((v.loopCfg (q.u16 0)).active ≤ 1 →
        (w.loopCfg (q.u16 0)).bank (v.loopCfg (q.u16 0)).active = (v.loopCfg (q.u16 0)).bank (v.loopCfg (q.u16 0)).active) ∧
      (∀ l, l ≠ q.u16 0 → w.loopCfg l = v.loopCfg l)) ∧
    (Takes .copyActive d s → Completes (.copyActive d) .copyActive d s fun q v w =>
      Leaves q .done [] { v with cfg := w.cfg } w ∧ (∀ l, l ≠ q.u16 0 → w.loopCfg l = v.loopCfg l) ∧
      (w.loopCfg (q.u16 0)).bank (1 - (v.loopCfg (q.u16 0)).active) =
        (v.loopCfg (q.u16 0)).bank (v.loopCfg (q.u16 0)).active) ∧
    (Takes .setSwapGroup d s → Completes (.setSwapGroup d) .setSwapGroup d s fun q v w =>
      Leaves q .done [] { v with cfg := w.cfg } w ∧
      (∀ l ∈ q.list 3 2 (q.u16 1), (w.wiring l).swapGroup = q.u8 0) ∧
      (∀ l ∈ v.groupLoops (q.u8 0), l ∉ q.list 3 2 (q.u16 1) → (w.wiring l).swapGroup = 0xFF)) ∧
    (Takes .setStartState d s → Completes (.setStartState d) .setStartState d s fun q v w =>
      Leaves q .done [] { v with cfg := w.cfg } w ∧ w.loopCfg (q.u16 0) = { v.loopCfg (q.u16 0) with start := q.fs 2 8 } ∧
      (∀ l, l ≠ q.u16 0 → w.loopCfg l = v.loopCfg l)) ∧
    (Takes .setLoopFaultThreshold d s → Completes (.setLoopFaultThreshold d) .setLoopFaultThreshold d s fun q v w =>
      Leaves q .done [] { v with cfg := w.cfg } w ∧
      (∀ l < 1024, q.u16 0 = 0xFFFF ∨ q.u16 0 = l → w.threshold (resource 8 l) = (q.u8 2, q.u16 3)) ∧
      (∀ l < 1024, q.u16 0 ≠ 0xFFFF → q.u16 0 ≠ l → w.threshold (resource 8 l) = v.threshold (resource 8 l))) ∧
    (Takes .setSupervision d s → Completes (.setSupervision d) .setSupervision d s fun q v w =>
      Answered q .done [] w ∧ Only [.cfg, .lop, .mbx, .rcd] v w ∧ (w.loopCfg (q.u16 0)).sup = supervisionOf q 2 ∧
      w.lop = { v.lop with plans := v.lop.plans ++
        [{ tick := q.tick + 2, loop := q.u16 0, kind := .supervision (supervisionOf q 2) }] })

/-- The loop commands take effect two ticks after their tick: they wait as plans of tick k + 2 for the loops they name (R61, R166,
R183), and a start that is due closes its loop at its start state with no memory of earlier updates.

Concluded to answer a next state (`exec c s = .next t`) and to have this effect, a command of a serving block at the boundary of its
tick: `startLoops`, `stopLoops`, `returnClosed`, `enterFallback`, `setRepState`, `commitRepMemory`, `clearRepMemory`. -/
def Obligations.LoopCommandsWaitForTheirTick : Prop :=
  ∀ (d : Datagram) (s : State),
    (Takes .startLoops d s → Completes (.startLoops d) .startLoops d s fun q v w =>
      Waits q { v with lop.plans := w.lop.plans } w ∧ w.lop.plans.take v.lop.plans.length = v.lop.plans ∧
      (∀ l ∈ loopsNamed q, ∃ p ∈ w.lop.plans, p.tick = q.tick + 2 ∧ p.loop = l ∧ p.kind = .start ∧
        ∀ u : State, (u.wiring l).nx ≠ 0 → u.isRetired (loopResource l) = false →
          ((applyPlan p u).loop l).run = .closed ∧ ((applyPlan p u).loop l).xh = (u.loopCfg l).start ∧
          ((applyPlan p u).loop l).z = [])) ∧
    (Takes .stopLoops d s → Completes (.stopLoops d) .stopLoops d s fun q v w =>
      Waits q { v with lop.plans := w.lop.plans } w ∧ w.lop.plans.take v.lop.plans.length = v.lop.plans ∧
      (∀ l ∈ loopsNamed q, ∃ p ∈ w.lop.plans, p.tick = q.tick + 2 ∧ p.loop = l ∧ p.kind = .stop ∧
        ∀ u : State, ((applyPlan p u).loop l).run = .off)) ∧
    (Takes .returnClosed d s → Completes (.returnClosed d) .returnClosed d s fun q v w =>
      Waits q { v with lop.plans := v.lop.plans ++
        [{ tick := q.tick + 2, loop := q.u16 0, kind := .returnClosed, mailbox := some q.ref }] } w) ∧
    (Takes .enterFallback d s → Completes (.enterFallback d) .enterFallback d s fun q v w =>
      Waits q { v with lop.plans := v.lop.plans ++
        [{ tick := q.tick + 2, loop := q.u16 0, kind := .fallback (q.u8 2), mailbox := some q.ref }] } w) ∧
    (Takes .setRepState d s → Completes (.setRepState d) .setRepState d s fun q v w =>
      let p : Plan := { tick := q.tick + 2, loop := (v.repCfg (q.u8 0)).loop, kind := .repState (q.u8 0) (q.u8 1), mailbox := some q.ref }
      Waits q { v with lop.plans := v.lop.plans ++ [p] } w) ∧
    (Takes .commitRepMemory d s → Completes (.commitRepMemory d) .commitRepMemory d s fun q v w =>
      let x := v.rep (q.u8 0)
      let p : Plan := { tick := q.tick + 2, loop := (v.repCfg (q.u8 0)).loop, mailbox := some q.ref,
                        kind := .repCommit (q.u8 0) x.stage0.cells x.stage1.cells }
      Waits q { updRep (q.u8 0) (fun x => { x with stage0 := {}, stage1 := {} }) v with lop.plans := v.lop.plans ++ [p] } w) ∧
    (Takes .clearRepMemory d s → Completes (.clearRepMemory d) .clearRepMemory d s fun q v w =>
      let p : Plan := { tick := q.tick + 2, loop := (v.repCfg (q.u8 0)).loop, kind := .repClear (q.u8 0), mailbox := some q.ref }
      Waits q { v with lop.plans := v.lop.plans ++ [p] } w)

/-- SWAP makes the swap of every loop it names pending for its tick, k + 2 where none is given, in place of an earlier one, and
CANCEL_SWAP leaves none pending; the whole of a command that either replaces or cancels in part ends (R62, R172). RELEASE_LOOP ends
the retirement of the loop and its fault stamps (R456); where loops compute, the loop starts bumplessly two ticks after, and
computes nothing until then (R166, R169).

Concluded to answer a next state (`exec c s = .next t`) and to have this effect, a command of a serving block at the boundary of its
tick: `swap`, `cancelSwap`, `releaseLoop`. -/
def Obligations.SwapsAndLoopRelease : Prop :=
  ∀ (d : Datagram) (s : State),
    (Takes .swap d s → Completes (.swap d) .swap d s fun q v w =>
      (∀ l, (v.loop l).swap.bind (·.2) ≠ some q.ref) →
      (w.box q.mailbox).state = .accepted ∧ Only [.lop, .mbx, .rcd] v w ∧
      (∀ l ∈ swapTargets q v, (w.loop l).swap = some (if q.u64 3 = 0 then q.tick + 2 else q.u64 3, some q.ref)) ∧
      (∀ l, l ∉ swapTargets q v → w.loop l = v.loop l ∨ (w.loop l = { v.loop l with swap := none } ∧
        ∃ l' ∈ swapTargets q v, ∃ r, (v.loop l').swap.bind (·.2) = some r ∧ (v.loop l).swap.bind (·.2) = some r))) ∧
    (Takes .cancelSwap d s → Completes (.cancelSwap d) .cancelSwap d s fun q v w =>
      (∀ l, (v.loop l).swap.bind (·.2) ≠ some q.ref) →
      Answered q .done [] w ∧ Only [.lop, .mbx, .rcd] v w ∧ (∀ l ∈ swapTargets q v, (w.loop l).swap = none) ∧
      (∀ l, l ∉ swapTargets q v → w.loop l = v.loop l ∨ (w.loop l = { v.loop l with swap := none } ∧
        ∃ l' ∈ swapTargets q v, ∃ r, (v.loop l').swap.bind (·.2) = some r ∧ (v.loop l).swap.bind (·.2) = some r))) ∧
    (Takes .releaseLoop d s → Completes (.releaseLoop d) .releaseLoop d s fun q v w =>
      Answered q .done [] w ∧ Only [.sys, .lop, .mbx, .rcd] v w ∧ w.isRetired (loopResource (q.u16 0)) = false ∧
      (∀ r, r ≠ loopResource (q.u16 0) → w.isRetired r = v.isRetired r) ∧
      (w.sys.counters.getD (loopResource (q.u16 0)) {}).stamps = [] ∧ (w.loop (q.u16 0)).run = .off ∧
      (∀ l, l ≠ q.u16 0 → w.loop l = v.loop l) ∧ w.lop.plans = v.lop.plans ++
        (if v.computing then [{ tick := q.tick + 2, loop := q.u16 0, kind := .start }] else []))

/-- The ramp and repetitive-memory commands leave exactly what their rows say (R188 to R199): settings, target and limits, the
snapshot of both memories of one tick, and the staged cells, which a commit puts in use.

Concluded to answer a next state (`exec c s = .next t`) and to have this effect, a command of a serving block at the boundary of its
tick: `setRampConfig`, `setRampTarget`, `setRampLimits`, `setRepConfig`, `snapshotRepMemory`, `readRepMemory`, `writeRepMemory`,
`freeRepSnapshot`. -/
def Obligations.RampAndRepetitiveCommands : Prop :=
  ∀ (d : Datagram) (s : State),
    (Takes .setRampConfig d s → Completes (.setRampConfig d) .setRampConfig d s fun q v w =>
      let c : RampCfg := { source := q.u8 2, target := q.u16 3, out := if q.u16 5 = 0xFFFF then none else some (q.u16 5),
                           init := q.f 7, lo := q.f 11, hi := q.f 15, rate := q.f 19, accel := q.f 23,
                           period := some v.time.periodUs }
      Leaves q .done [] { v with cfg.ramps := v.cfg.ramps.put (q.u16 0) c, cfg.any := true } w) ∧
    (Takes .setRampTarget d s → Completes (.setRampTarget d) .setRampTarget d s fun q v w =>
      Leaves q .done [] { v with rmp.ramps := v.rmp.ramps.upd (q.u16 0) {} (fun x => { x with target := q.f 2, noted := false }),
                                 pts.rampSet := (q.u16 0, true) :: v.pts.rampSet } w) ∧
    (Takes .setRampLimits d s → Completes (.setRampLimits d) .setRampLimits d s fun q v w =>
      Leaves q .done [] { v with rmp.ramps := v.rmp.ramps.upd (q.u16 0) {} (fun x => { x with rate := q.f 2, accel := q.f 6 }),
                                 pts.rampSet := (q.u16 0, false) :: v.pts.rampSet } w) ∧
    (Takes .setRepConfig d s → Completes (.setRepConfig d) .setRepConfig d s fun q v w =>
      Leaves q .done [] { v with cfg.reps := v.cfg.reps.put (q.u8 0) (repOf q 1), cfg.any := true } w) ∧
    (Takes .snapshotRepMemory d s → Completes (.snapshotRepMemory d) .snapshotRepMemory d s fun q v w =>
      ∃ i < 4, v.rmp.snaps.has i = false ∧ ∃ b : RepSnap, b.tick = v.time.tick ∧ b.rep = q.u8 0 ∧
        b.mem0 = (v.rep (q.u8 0)).mem0 ∧ b.mem1 = (v.rep (q.u8 0)).mem1 ∧ Answered q .done (Op.snapshotRepMemory.run q v).payload w ∧
        Only [.mbx, .rcd] { v with rmp.snaps := v.rmp.snaps.put i b } w) ∧
    (Takes .readRepMemory d s → Completes (.readRepMemory d) .readRepMemory d s fun q v w =>
      ∃ b, v.rmp.snaps.find (q.u8 0) = some b ∧
        Leaves q .done (((if q.u8 1 = 0 then b.mem0 else b.mem1).range (q.u16 2) (q.u16 4) 0).flatMap leF)
          { v with rmp.snaps := v.rmp.snaps.put (q.u8 0) { b with used := v.sys.opNs } } w) ∧
    (Takes .freeRepSnapshot d s → Completes (.freeRepSnapshot d) .freeRepSnapshot d s fun q v w =>
      Leaves q .done [] { v with rmp.snaps := v.rmp.snaps.del (q.u8 0) } w) ∧
    (Takes .writeRepMemory d s → Completes (.writeRepMemory d) .writeRepMemory d s fun q v w =>
      Leaves q .done [] { v with rmp.reps := w.rmp.reps } w ∧ (∀ c, c ≠ q.u8 0 → w.rep c = v.rep c) ∧
      (w.rep (q.u8 0)).mem0 = (v.rep (q.u8 0)).mem0 ∧ (w.rep (q.u8 0)).mem1 = (v.rep (q.u8 0)).mem1 ∧
      (q.u8 1 = 0 → (w.rep (q.u8 0)).stage0 = (v.rep (q.u8 0)).stage0.putList (q.u16 2) (q.fs 6 (q.u16 4))) ∧
      (q.u8 1 ≠ 0 → (w.rep (q.u8 0)).stage1 = (v.rep (q.u8 0)).stage1.putList (q.u16 2) (q.fs 6 (q.u16 4))))

/-! ### Class 0x07: output stages -/

/-- The commands that configure output stages set what their rows give and nothing else, SET_CL_ALARM sets or clears ALARM of its
channel until its release (R205, R208), and the two long-running commands are ACCEPTED (R214, R217, R456).

Concluded to answer a next state (`exec c s = .next t`) and to have this effect, a command of a serving block at the boundary of its
tick: `setClConfig`, `setClAlarm`, `setFaoConfig`, `setDioConfig`, `runTestLoad`, `releaseStage`, `setStageFaultThreshold`. -/
def Obligations.StageCommandsTakeEffect : Prop :=
  ∀ (d : Datagram) (s : State),
    (Takes .setClConfig d s → Completes (.setClConfig d) .setClConfig d s fun q v w =>
      Leaves q .done [] { v with cfg.cl := v.cfg.cl.put (q.u8 0) (clOf q), cfg.any := true, stg := w.stg } w ∧
      w.stg = { v.stg with cl := w.stg.cl } ∧ (∀ i, i ≠ q.u8 0 → w.cl i = v.cl i) ∧
      w.cl (q.u8 0) = { v.cl (q.u8 0) with
        limit := if (v.cl (q.u8 0)).foldback then (v.cl (q.u8 0)).limit else baseLimit (q.u8 1) }) ∧
    (Takes .setFaoConfig d s → Completes (.setFaoConfig d) .setFaoConfig d s fun q v w =>
      let c : FaoCfg := { idleValue := q.u8 1 == 1, idleV := q.f 2 }
      Leaves q .done [] { v with cfg.fao := v.cfg.fao.put (q.u8 0) c, cfg.any := true } w) ∧
    (Takes .setDioConfig d s → Completes (.setDioConfig d) .setDioConfig d s fun q v w =>
      Leaves q .done [] { v with cfg := w.cfg } w ∧
      (∀ i, q.u8 0 ≤ i → i < q.u8 0 + q.u8 1 → w.dioCfg i =
        { output := q.u8 2 == 1, filter := q.u8 3, idleOn := q.u8 4 == 1, openLoad := q.u8 5 == 1 }) ∧
      (∀ i, (i < q.u8 0 ∨ q.u8 0 + q.u8 1 ≤ i) → w.dioCfg i = v.dioCfg i)) ∧
    (Takes .setStageFaultThreshold d s → Completes (.setStageFaultThreshold d) .setStageFaultThreshold d s fun q v w =>
      Leaves q .done [] { v with cfg := w.cfg } w ∧
      (q.u8 1 ≠ 0xFF → w.threshold (stageResource (q.u8 0) (q.u8 1)) = (q.u8 2, q.u16 3)) ∧
      (q.u8 1 = 0xFF → ∀ n < (if q.u8 0 = 0 then 48 else if q.u8 0 = 1 then 16 else 64),
        w.threshold (stageResource (q.u8 0) n) = (q.u8 2, q.u16 3)) ∧
      (∀ r, (∀ n < 64, r ≠ stageResource (q.u8 0) n) → w.threshold r = v.threshold r)) ∧
    (Takes .setClAlarm d s → Completes (.setClAlarm d) .setClAlarm d s fun q v w =>
      Waits q (updCl (q.u8 0) (fun x => { x with alarmSet := q.u8 1 == 1 }) v) w) ∧
    (Takes .runTestLoad d s → Completes (.runTestLoad d) .runTestLoad d s fun q v w => GoesOn q v w) ∧
    (Takes .releaseStage d s → Completes (.releaseStage d) .releaseStage d s fun q v w => GoesOn q v w)

/-! ### Class 0x08: recipe sequences -/

/-- The sequence commands: a load begins empty, takes its bytes at their offset, is checked by the commit as a long-running command,
and is dropped by DISCARD_PENDING (R224, R226, R249); bindings and points stand in the settings. START runs the sequence in its
first step, or schedules it for its start tick; HOLD and RESUME set and clear the holds of one sequence or of all; JUMP enters a
step; ABORT enters the abort steps, or ends the sequence where it has none (R237 to R243). The mode is then RUN or HOLD where a
sequence runs (R73).

Concluded to answer a next state (`exec c s = .next t`) and to have this effect, a command of a serving block at the boundary of its
tick: `loadBegin`, `loadData`, `loadCommit`, `discardPending`, `start`, `hold`, `resume`, `jump`, `abort`, `setSequenceBinding`,
`setSequencePoints`. -/
def Obligations.SequenceCommandsTakeEffect : Prop :=
  ∀ (d : Datagram) (s : State),
    (Takes .loadBegin d s → Completes (.loadBegin d) .loadBegin d s fun q v w =>
      Leaves q .done [] { v with sqn.seqs := w.sqn.seqs } w ∧ (∀ i, i ≠ q.u8 0 → w.seq i = v.seq i) ∧
      (w.seq (q.u8 0)).load = some { len := q.u32 1, id := BitVec.ofNat 64 (q.u64 5) } ∧ (w.seq (q.u8 0)).pending = none ∧
      (w.seq (q.u8 0)).active = (v.seq (q.u8 0)).active) ∧
    (Takes .loadData d s → Completes (.loadData d) .loadData d s fun q v w =>
      Leaves q .done [] { v with sqn.seqs := w.sqn.seqs } w ∧ (∀ i, i ≠ q.u8 0 → w.seq i = v.seq i) ∧
      ∀ l, (v.seq (q.u8 0)).load = some l → w.seq (q.u8 0) =
        { v.seq (q.u8 0) with load := some { l with data := l.data.putList (q.u32 1) (q.bytes 7 (q.u16 5)) } }) ∧
    (Takes .loadCommit d s → Completes (.loadCommit d) .loadCommit d s fun q v w =>
      GoesOn q (updSeq (q.u8 0) (fun x => { x with committing := some q.mailbox }) v) w) ∧
    (Takes .discardPending d s → Completes (.discardPending d) .discardPending d s fun q v w =>
      Answered q .done [] w ∧ Only [.sqn, .pts, .sys, .mbx, .rcd] v w ∧ (∀ i, i ≠ q.u8 0 → w.seq i = v.seq i) ∧
      (w.seq (q.u8 0)).pending = none ∧ (w.seq (q.u8 0)).load = none ∧ (w.seq (q.u8 0)).active = (v.seq (q.u8 0)).active) ∧
    (Takes .setSequenceBinding d s → Completes (.setSequenceBinding d) .setSequenceBinding d s fun q v w =>
      Leaves q .done [] { v with cfg.seqs := v.cfg.seqs.upd (q.u8 0) {} (fun c => { c with bound := bindingPairs q }),
                                 cfg.any := true } w) ∧
    (Takes .setSequencePoints d s → Completes (.setSequencePoints d) .setSequencePoints d s fun q v w =>
      let opt := fun (p : Nat) => if p = 0xFFFF then none else some p
      Leaves q .done [] { v with cfg.any := true, cfg.seqs := v.cfg.seqs.upd (q.u8 0) {} fun c =>
        { c with statusBase := opt (q.u16 1), control := opt (q.u16 3) } } w) ∧
    (Takes .start d s → Completes (.start d) .start d s fun q v w =>
      Only [.sqn, .rmp, .pts, .sys, .mbx, .rcd] v w ∧ (∀ i, i ≠ q.u8 0 → w.seq i = v.seq i) ∧
      (q.u64 3 = 0 → (w.seq (q.u8 0)).run = .running ∧ (w.seq (q.u8 0)).step = q.u16 1 ∧ (w.seq (q.u8 0)).elapsed = 0 ∧
        (w.seq (q.u8 0)).active = (v.seq (q.u8 0)).startImage ∧ (w.sys.mode = .run ∨ w.sys.mode = .hold)) ∧
      (q.u64 3 ≠ 0 → (w.box q.mailbox).state = .accepted ∧
        w.seq (q.u8 0) = { v.seq (q.u8 0) with scheduled := some (q.u64 3, q.u16 1, q.mailbox, q.tag) })) ∧
    (Takes .hold d s → Completes (.hold d) .hold d s fun q v w =>
      Only [.sqn, .pts, .sys, .mbx, .rcd] v w ∧
      (q.u8 0 ≠ 0xFF → (w.seq (q.u8 0)).cmdHold = true ∧ (w.seq (q.u8 0)).step = (v.seq (q.u8 0)).step ∧
        ∀ i, i ≠ q.u8 0 → w.seq i = v.seq i) ∧
      (q.u8 0 = 0xFF → w.sqn.allHold = true ∧ ∀ i < 16, (w.seq i).allHold = true ∧ (w.seq i).step = (v.seq i).step)) ∧
    (Takes .resume d s → Completes (.resume d) .resume d s fun q v w =>
      Only [.sqn, .pts, .sys, .mbx, .rcd] v w ∧
      (q.u8 0 ≠ 0xFF → (w.seq (q.u8 0)).cmdHold = false ∧ (w.seq (q.u8 0)).pauseHold = false ∧
        (w.seq (q.u8 0)).allHold = (v.seq (q.u8 0)).allHold ∧ (w.seq (q.u8 0)).safetyHold = (v.seq (q.u8 0)).safetyHold ∧
        ∀ i, i ≠ q.u8 0 → w.seq i = v.seq i) ∧
      (q.u8 0 = 0xFF → w.sqn.allHold = false ∧ ∀ i < 16, (w.seq i).allHold = false ∧ (w.seq i).cmdHold = false ∧
        (w.seq i).pauseHold = false ∧ (w.seq i).safetyHold = (v.seq i).safetyHold)) ∧
    (Takes .jump d s → Completes (.jump d) .jump d s fun q v w =>
      Only [.sqn, .rmp, .pts, .sys, .mbx, .rcd] v w ∧ (∀ i, i ≠ q.u8 0 → w.seq i = v.seq i) ∧
      (w.seq (q.u8 0)).step = q.u16 1 ∧ (w.seq (q.u8 0)).elapsed = 0 ∧ (w.seq (q.u8 0)).cause = 3 ∧
      (w.seq (q.u8 0)).run = (v.seq (q.u8 0)).run) ∧
    (Takes .abort d s → Completes (.abort d) .abort d s fun q v w =>
      Only [.sqn, .rmp, .pts, .sys, .mbx, .rcd] v w ∧
      (∀ i < 16, q.u8 0 = 0xFF ∨ q.u8 0 = i →
        ((v.seq i).run = .ready → (w.seq i).scheduled = none) ∧
        ((v.seq i).run = .running → ∀ im, (v.seq i).active = some im →
          (im.abortFirst < im.steps.length → (w.seq i).run = .aborting ∧ (w.seq i).step = im.abortFirst ∧
            (w.seq i).cause = 4) ∧
          (im.steps.length ≤ im.abortFirst → (w.seq i).run = .ready ∧ (w.seq i).lastEnd = 2))) ∧
      (∀ i, q.u8 0 ≠ 0xFF → q.u8 0 ≠ i → w.seq i = v.seq i))

/-! ### Class 0x09: cyclic programs -/

/-- The commands that load, install and force programs leave exactly what their rows say (R270 to R279): a load begins empty and
takes its bytes at their offset; INSTALL makes the staged set the stored one; a variable force holds the value for its path, and its
removal ends those named; the start kind and the retentive store.

Concluded to answer a next state (`exec c s = .next t`) and to have this effect, a command of a serving block at the boundary of its
tick: `programLoadBegin`, `programLoadData`, `programLoadCommit`, `discardStaged`, `installStaged`, `onlineChange`, `setVarForce`,
`removeVarForce`, `setStartKind`, `clearRetentive`. -/
def Obligations.ProgramSettingsTakeEffect : Prop :=
  ∀ (d : Datagram) (s : State),
    (Takes .programLoadBegin d s → Completes (.programLoadBegin d) .programLoadBegin d s fun q v w =>
      let l : Load := { len := q.u32 0, id := BitVec.ofNat 64 (q.u64 4) }
      Leaves q .done [] { v with prg.load := some l, prg.staged := none } w) ∧
    (Takes .programLoadData d s → Completes (.programLoadData d) .programLoadData d s fun q v w =>
      ∀ l, v.prg.load = some l →
        Leaves q .done [] { v with prg.load := some { l with data := l.data.putList (q.u32 0) (q.bytes 6 (q.u16 4)) } } w) ∧
    (Takes .programLoadCommit d s → Completes (.programLoadCommit d) .programLoadCommit d s fun q v w =>
      GoesOn q { v with prg.committing := some q.mailbox } w) ∧
    (Takes .discardStaged d s → Completes (.discardStaged d) .discardStaged d s fun q v w =>
      Leaves q .done [] { v with prg.staged := none, prg.load := none } w) ∧
    (Takes .installStaged d s → Completes (.installStaged d) .installStaged d s fun q v w =>
      Leaves q .done [] { v with cfg.program := v.prg.staged, cfg.any := true, prg.staged := none } w) ∧
    (Takes .onlineChange d s → Completes (.onlineChange d) .onlineChange d s fun q v w =>
      let c := if q.u64 0 = 0 then q.tick + 2 else q.u64 0
      let window := if q.u16 8 = 0 then 1000 else q.u16 8
      GoesOn q { v with prg.change := some (c, c * v.periodNs + window * 1000000, q.mailbox, q.tag) } w) ∧
    (Takes .setVarForce d s → Completes (.setVarForce d) .setVarForce d s fun q v w =>
      Leaves q .done [] { v with prg.forces := w.prg.forces } w ∧
      (pathAt q 0, BitVec.ofNat 64 (q.u64 (1 + q.u8 0)), q.tick) ∈ w.prg.forces ∧
      (∀ f ∈ w.prg.forces, f.1 = pathAt q 0 → f.2.1 = BitVec.ofNat 64 (q.u64 (1 + q.u8 0))) ∧
      (∀ f, f.1 ≠ pathAt q 0 → (f ∈ w.prg.forces ↔ f ∈ v.prg.forces))) ∧
    (Takes .removeVarForce d s → Completes (.removeVarForce d) .removeVarForce d s fun q v w =>
      Only [.prg, .mbx, .rcd] v w ∧ (q.u8 0 = 0 → w.prg.forces = []) ∧
      (q.u8 0 ≠ 0 → ∀ f, f ∈ w.prg.forces ↔ f ∈ v.prg.forces ∧ f.1 ≠ pathAt q 0) ∧
      Answered q .done (le 2 (v.prg.forces.length - w.prg.forces.length)) w) ∧
    (Takes .setStartKind d s → Completes (.setStartKind d) .setStartKind d s fun q v w =>
      Leaves q .done [] { v with cfg.cold := q.u8 0 == 1, cfg.any := true } w) ∧
    (Takes .clearRetentive d s → Completes (.clearRetentive d) .clearRetentive d s fun q v w =>
      Leaves q .done [] { v with prg.live := [], prg.shadow := [], prg.liveSeq := {}, prg.liveSet := none,
                                 prg.blocks := v.prg.blocks.filter (!·.retentive) } w)

/-- The commands that run tasks (R265 to R279): STOP_TASK stops a task, a running one after its cycle; START_TASK asks for a start;
RESET_CORE takes the core down with its tasks abandoned, and its reset in the history; CLEAR_TASK_COUNTERS zeroes the counters of
the tasks it names.

Concluded to answer a next state (`exec c s = .next t`) and to have this effect, a command of a serving block at the boundary of its
tick: `stopTask`, `startTask`, `resetCore`, `clearTaskCounters`. -/
def Obligations.TaskCommandsTakeEffect : Prop :=
  ∀ (d : Datagram) (s : State),
    (Takes .stopTask d s → Completes (.stopTask d) .stopTask d s fun q v w =>
      Only [.prg, .pts, .mbx, .rcd] v w ∧ (∀ i, i ≠ taskIn q → w.task i = v.task i) ∧
      ((v.task (taskIn q)).mode = .running → (w.box q.mailbox).state = .accepted ∧
        w.task (taskIn q) = { v.task (taskIn q) with stopAfter := some q.ref }) ∧
      ((v.task (taskIn q)).mode ≠ .running → Answered q .done [] w ∧
        ((w.task (taskIn q)).mode = .stopped ∨ (w.task (taskIn q)).mode = .faulted) ∧ (w.task (taskIn q)).held = true)) ∧
    (Takes .startTask d s → Completes (.startTask d) .startTask d s fun q v w =>
      GoesOn q (updTask (taskIn q) (fun x => { x with startReq := some q.ref }) v) w) ∧
    (Takes .resetCore d s → Completes (.resetCore d) .resetCore d s fun q v w =>
      v.prg.coreDown.contains (q.u8 0) = false →
      w.prg.coreDown.contains (q.u8 0) = true ∧
      (v.prg.coreStopped.contains (q.u8 0) = false → (escalate 600 v.sys.opNs (v.sys.coreResets.getD (q.u8 0) [])).2 = false →
        w.prg.coreStopped.contains (q.u8 0) = false) ∧
      (v.prg.coreStopped.contains (q.u8 0) = true → v.sys.coreResets.Sorted → w.prg.coreStopped.contains (q.u8 0) = false) ∧
      w.prg.resets.getD (q.u8 0) 0 = v.prg.resets.getD (q.u8 0) 0 + 1 ∧
      (∀ t ∈ v.taskRecs, t.core = q.u8 0 → (w.task t.index).mode ≠ .running) ∧
      w.sys.history.head? = some { domain := 2, index := q.u8 0, cause := 0x0204, tick := v.time.tick, start := v.sys.startCount } ∧
      Only [.prg, .pts, .sys, .mbx, .rcd] v w) ∧
    (Takes .clearTaskCounters d s → Completes (.clearTaskCounters d) .clearTaskCounters d s fun q v w =>
      Leaves q .done [] { v with prg.tasks := w.prg.tasks } w ∧
      (∀ i < 32, v.prg.tasks.has i = true → q.u8 0 = 0xFF ∨ i / 8 = q.u8 0 → w.task i =
        { v.task i with executed := 0, skips := 0, suppressed := 0, traps := 0, maxRunNs := 0 }) ∧
      (∀ i < 32, q.u8 0 ≠ 0xFF → i / 8 ≠ q.u8 0 → w.task i = v.task i))

/-! ### Class 0x0A: acquisition -/

/-- The acquisition commands leave exactly what their rows say (R281 to R317): stream, record and fast sets, triggers and arming
from tick k + 2, a host mark with the tool time of its tick, segments.

Concluded to answer a next state (`exec c s = .next t`) and to have this effect, a command of a serving block at the boundary of its
tick: `setStreamConfig`, `setRecordSet`, `setFastSet`, `setTrigger`, `enableTriggers`, `hostMark`, `setArm`, `setSegmentConfig`,
`clearSegments`. -/
def Obligations.AcquisitionCommandsTakeEffect : Prop :=
  ∀ (d : Datagram) (s : State),
    (Takes .setStreamConfig d s → Completes (.setStreamConfig d) .setStreamConfig d s fun q v w =>
      Leaves q .done [] { v with cfg.stream := streamOf q, cfg.any := true,
                                 acq.streamPlans := v.acq.streamPlans ++ [(q.tick + 2, streamOf q)] } w) ∧
    (Takes .setRecordSet d s → Completes (.setRecordSet d) .setRecordSet d s fun q v w =>
      Leaves q .done [] { v with cfg.excluded := recordSetAfter q v, cfg.any := true, acq.excluded := recordSetAfter q v,
                                 acq.configDue := true } w) ∧
    (Takes .setFastSet d s → Completes (.setFastSet d) .setFastSet d s fun q v w =>
      Leaves q .done [] { v with cfg.fastSet := fastEntries q, cfg.any := true, acq.fastSet := fastEntries q, acq.fastVals := [],
                                 acq.configDue := true } w) ∧
    (Takes .setTrigger d s → Completes (.setTrigger d) .setTrigger d s fun q v w =>
      let p : Plan := { tick := q.tick + 2, loop := 0, kind := .trigger (q.u8 0) (triggerOf q) }
      Leaves q .done [] { v with cfg.triggers := v.cfg.triggers.put (q.u8 0) (triggerOf q), cfg.any := true,
                                 lop.plans := v.lop.plans ++ [p] } w) ∧
    (Takes .enableTriggers d s → Completes (.enableTriggers d) .enableTriggers d s fun q v w =>
      Answered q .done [] w ∧ Only [.cfg, .lop, .mbx, .rcd] v w ∧ w.lop.loops = v.lop.loops ∧
      (∀ t < 64, (q.u64 0).testBit t = true →
        w.cfg.triggers.getD t {} = { v.cfg.triggers.getD t {} with enabled := q.u8 8 == 1 }) ∧
      (∀ t, (64 ≤ t ∨ (q.u64 0).testBit t = false) → w.cfg.triggers.getD t {} = v.cfg.triggers.getD t {})) ∧
    (Takes .hostMark d s → Completes (.hostMark d) .hostMark d s fun q v w =>
      let m : Mark := { source := 2, unit := v.cfg.unit, stamp := q.tick * v.periodNs, hostTag := BitVec.ofNat 32 (q.u32 0) }
      Leaves q .done (le 8 q.tick) { v with acq.hosts := if v.packs then v.acq.hosts ++ [m] else v.acq.hosts } w) ∧
    (Takes .setArm d s → Completes (.setArm d) .setArm d s fun q v w =>
      let p : Plan := { tick := q.tick + 2, loop := 0, kind := .arm (q.u8 0 == 1), mailbox := some q.ref }
      Waits q { v with lop.plans := v.lop.plans ++ [p],
                       acq.armAt := if v.time.driving then some (q.tick + 1, q.u8 0 == 1) else v.acq.armAt } w) ∧
    (Takes .setSegmentConfig d s → Completes (.setSegmentConfig d) .setSegmentConfig d s fun q v w =>
      Leaves q .done [] { v with cfg.segCfg := some (segOf q), cfg.any := true, acq := w.acq } w ∧
      w.acq.segs = {} ∧ w.acq.segArmed = true) ∧
    (Takes .clearSegments d s → Completes (.clearSegments d) .clearSegments d s fun q v w =>
      Leaves q .done [] { v with acq := w.acq } w ∧ w.acq.segs = {} ∧ w.acq.segArmed = true)

/-! ### Class 0x0B: records -/

/-- The recorder commands leave exactly what their rows say (R324, R329 to R334): a cursor is opened for its mailbox, read and
closed; a rate limit fills its bucket; a challenge is held for one clear, which then goes on.

Concluded to answer a next state (`exec c s = .next t`) and to have this effect, a command of a serving block at the boundary of its
tick: `openCursor`, `readWindow`, `closeCursor`, `setRateLimit`, `getClearChallenge`, `clearAudit`. -/
def Obligations.RecorderCommandsTakeEffect : Prop :=
  ∀ (d : Datagram) (s : State),
    (Takes .openCursor d s → Completes (.openCursor d) .openCursor d s fun q v w =>
      ∃ i < 16, v.rcd.cursors.has i = false ∧ Only [.mbx, .rcd] v w ∧
        (∃ c, w.rcd.cursors = v.rcd.cursors.put i c ∧ c.mailbox = q.mailbox ∧ c.audit = (q.u8 0 == 1) ∧
          c.pos = cursorStart v (q.u8 0 == 1) (q.u8 1) (q.u64 2) ∧ c.used = v.sys.opNs) ∧
        Answered q .done (le 1 i ++ le 8 (cursorStart v (q.u8 0 == 1) (q.u8 1) (q.u64 2))) w) ∧
    (Takes .readWindow d s → Completes (.readWindow d) .readWindow d s fun q v w =>
      Answered q .done (Op.readWindow.run q v).payload w ∧ Only [.mbx, .rcd] v w ∧
      (∃ c, w.rcd.cursors.find (q.u8 0) = some c ∧ c.used = v.sys.opNs) ∧
      (∀ i, i ≠ q.u8 0 → w.rcd.cursors.find i = v.rcd.cursors.find i)) ∧
    (Takes .closeCursor d s → Completes (.closeCursor d) .closeCursor d s fun q v w =>
      Answered q .done [] w ∧ Only [.mbx, .rcd] v w ∧ w.rcd.cursors = v.rcd.cursors.del (q.u8 0)) ∧
    (Takes .setRateLimit d s → Completes (.setRateLimit d) .setRateLimit d s fun q v w =>
      ∀ k, kindOfCode (q.u16 0) = some k →
        Leaves q .done [] { v with cfg.rates := v.cfg.rates.put k.number (q.u8 2, q.u32 3), cfg.any := true } w ∧
        (w.bucket k).tokens = q.u8 2) ∧
    (Takes .getClearChallenge d s → Completes (.getClearChallenge d) .getClearChallenge d s fun q v w =>
      Answered q .done (nonceBytes (Config.nonce v.sys.free) ++ le 8 v.lastAudit ++ le 4 v.rcd.audit.length ++
        v.auditDigest v.lastAudit) w ∧
      w.rcd.challenge = some (Config.nonce v.sys.free, v.sys.opNs) ∧ Only [.mbx, .rcd] { v with sys.free := v.sys.free + 1 } w) ∧
    (Takes .clearAudit d s → Completes (.clearAudit d) .clearAudit d s fun q v w =>
      GoesOn q v w ∧ w.rcd.challenge = none ∧ w.rcd.audit = v.rcd.audit)

/-! ### Class 0x0C: safety -/

/-- The commands of a safety session (R360 to R366): the password opens a session for its mailbox and a wrong one is refused and
counted; the image is loaded, checked, and confirmed with the outputs off; the password is kept as a salted digest.

Concluded to answer a next state (`exec c s = .next t`) and to have this effect, a command of a serving block at the boundary of its
tick: `openSession`, `closeSession`, `configBegin`, `configData`, `configCheck`, `confirm`, `setPassword`, `safetyDiscardPending`. -/
def Obligations.SafetyCommandsTakeEffect : Prop :=
  ∀ (d : Datagram) (s : State),
    (Takes .openSession d s → Completes (.openSession d) .openSession d s fun q v w =>
      Only [.saf, .pts, .mbx, .rcd] v w ∧
      (v.passwordBlocked = false → v.passwordFits (q.bytes 1 (q.u8 0)) = true →
        Answered q .done [] w ∧ w.saf.session = some (q.mailbox, v.sys.opNs) ∧ w.saf.wrong = 0) ∧
      (v.passwordBlocked = false → v.passwordFits (q.bytes 1 (q.u8 0)) = false →
        Answered q .refusedRight [] w ∧ w.saf.wrong = (if v.saf.wrong ≥ 5 then 1 else v.saf.wrong + 1) ∧
        w.saf.wrongAt = v.sys.opNs) ∧
      (v.passwordBlocked = true → Answered q .refusedRight [] w ∧ w.saf.wrong = v.saf.wrong)) ∧
    (Takes .closeSession d s → Completes (.closeSession d) .closeSession d s fun q v w =>
      Answered q .done [] w ∧ Only [.saf, .pts, .mbx, .rcd] v w ∧ w.saf.session = none) ∧
    (Takes .configBegin d s → Completes (.configBegin d) .configBegin d s fun q v w =>
      Answered q .done [] w ∧ Only [.saf, .pts, .mbx, .rcd] v w ∧ ∃ l, w.saf.load = some l ∧ l.len = q.u32 0 ∧
        (v.saf.load = some l ∨ l.data = {})) ∧
    (Takes .configData d s → Completes (.configData d) .configData d s fun q v w =>
      Answered q .done [] w ∧ Only [.saf, .pts, .mbx, .rcd] v w ∧
      ∀ l, v.saf.load = some l → w.saf.load = some { l with data := l.data.putList (q.u32 0) (q.bytes 6 (q.u16 4)) }) ∧
    (Takes .configCheck d s → Completes (.configCheck d) .configCheck d s fun q v w =>
      (w.box q.mailbox).state = .accepted ∧ Only [.saf, .pts, .mbx, .rcd] v w ∧ w.saf.cfg = v.saf.cfg ∧ w.saf.load = v.saf.load) ∧
    (Takes .confirm d s → Completes (.confirm d) .confirm d s fun q v w =>
      (w.box q.mailbox).state = .accepted ∧ Only [.saf, .pts, .mbx, .rcd] v w ∧ w.saf.state = .confirming ∧
      w.saf.before = v.saf.state ∧ w.saf.confirmAt = v.sys.opNs ∧ w.saf.confirmStep = 0 ∧
      ∀ m < 12, (w.safeOut m).demand = false) ∧
    (Takes .setPassword d s → Completes (.setPassword d) .setPassword d s fun q v w =>
      Only [.saf, .pts, .sys, .mbx, .rcd] v w ∧
      (v.passwordFits (q.bytes 1 (q.u8 0)) = true → Answered q .done [] w ∧
        w.saf.password = some (Config.salt v.sys.free, BitVec.ofNat 256 (unle (sha256
          (le 16 (Config.salt v.sys.free).toNat ++ q.bytes (2 + q.u8 0) (newLen q)))))) ∧
      (v.passwordFits (q.bytes 1 (q.u8 0)) = false → Answered q .refusedRight [] w ∧ w.saf.password = v.saf.password)) ∧
    (Takes .safetyDiscardPending d s → Completes (.safetyDiscardPending d) .safetyDiscardPending d s fun q v w =>
      Answered q .done [] w ∧ Only [.saf, .pts, .mbx, .rcd] v w ∧ w.saf.pending = none ∧ w.saf.load = none ∧
      w.saf.cfg = v.saf.cfg)

/-! ### Classes 0x0D to 0x0F: pair, update, faults -/

/-- The pair commands (R396, R397, R407): SET_PAIR_CONFIG sets what its row gives; HANDOVER gives up with cause 0x04 and goes on
until the peer has control; RESYNC goes back to SYNC.

Concluded to answer a next state (`exec c s = .next t`) and to have this effect, a command of a serving block at the boundary of its
tick: `setPairConfig`, `handover`, `resync`. -/
def Obligations.PairCommandsTakeEffect : Prop :=
  ∀ (d : Datagram) (s : State),
    (Takes .setPairConfig d s → Completes (.setPairConfig d) .setPairConfig d s fun q v w =>
      let c : PairCfg := { paired := q.u8 0 == 1, witnesses := (q.list 2 1 8).take (q.u8 1), promote := q.u8 10,
                           autoRejoin := q.u8 11 == 1, yield := q.u8 12 }
      Leaves q .done [] { v with cfg.pair := c, cfg.any := true } w) ∧
    (Takes .handover d s → Completes (.handover d) .handover d s fun q v w =>
      GoesOn q { v with par := w.par } w ∧ w.par.handoverBox = some q.mailbox ∧
      (v.cfg.pair.paired = true → v.par.role = .active → w.par.role = .givenUp ∧ w.par.giveUp = 4 ∧
        w.par.delayed = (if v.par.mirrored then some v.time.tick else none))) ∧
    (Takes .resync d s → Completes (.resync d) .resync d s fun q v w =>
      Answered q .done [] w ∧ Only [.par, .sys, .mbx, .rcd] v w ∧ w.sys.mode = .sync ∧ w.par.role = .syncing ∧
      w.par.split = false ∧ w.par.solo = false)

/-- The update commands (R414 to R424, R435): staging begins, takes its bytes at their offset and is discarded; verification goes
on; an activation is scheduled, readied and cancelled with deferral reason 10; RUN is confirmed, with the rollback counters raised
to its indices, or rejected, with a restart 10 ms later.

Concluded to answer a next state (`exec c s = .next t`) and to have this effect, a command of a serving block at the boundary of its
tick: `stageBegin`, `stageData`, `stageVerify`, `stageDiscard`, `scheduleActivation`, `groupReady`, `cancelActivation`,
`updateConfirm`, `reject`. -/
def Obligations.UpdateCommandsTakeEffect : Prop :=
  ∀ (d : Datagram) (s : State),
    (Takes .stageBegin d s → Completes (.stageBegin d) .stageBegin d s fun q v w =>
      (w.box q.mailbox).status = .done ∧ Only [.upd, .mbx, .rcd] v w ∧ w.upd.stageLen = q.u32 0 ∧
      w.upd.stageHash = q.bytes 4 48 ∧ w.upd.stage.state = .partly ∧ w.upd.run = v.upd.run ∧ w.upd.fallback = v.upd.fallback) ∧
    (Takes .stageData d s → Completes (.stageData d) .stageData d s fun q v w =>
      (w.box q.mailbox).status = .done ∧ Only [.upd, .mbx, .rcd] v w ∧
      w.upd.stageData = v.upd.stageData.putList (q.u32 0) (q.bytes 6 (q.u16 4)) ∧ w.upd.run = v.upd.run ∧
      w.upd.fallback = v.upd.fallback) ∧
    (Takes .stageVerify d s → Completes (.stageVerify d) .stageVerify d s fun q v w => GoesOn q v w) ∧
    (Takes .stageDiscard d s → Completes (.stageDiscard d) .stageDiscard d s fun q v w =>
      Leaves q .done [] { v with upd.stage := {}, upd.stageLen := 0, upd.stageHash := [], upd.stageData := {},
                                 upd.stageBlocks := [] } w) ∧
    (Takes .scheduleActivation d s → Completes (.scheduleActivation d) .scheduleActivation d s fun q v w =>
      let x : Schedule := { at_ := v.activationTick (q.u64 0), group := BitVec.ofNat 32 (q.u32 8),
                            members := BitVec.ofNat 16 (q.u16 12), auto := q.u8 14 == 1, hold := q.u16 15 }
      Leaves q .done (le 8 x.at_ ++ leBool (v.notReady (q.u16 12) == 0) ++ le 1 (v.notReady (q.u16 12)))
        { v with upd.schedule := some x } w) ∧
    (Takes .groupReady d s → Completes (.groupReady d) .groupReady d s fun q v w =>
      ∀ x, v.upd.schedule = some x →
        let all := x.members &&& BitVec.ofNat 16 (q.u16 4) == x.members
        Leaves q .done [] { v with upd.schedule := some { x with
          groupOk := x.groupOk || (all && decide (v.time.tick ≤ v.deadline x)) } } w) ∧
    (Takes .cancelActivation d s → Completes (.cancelActivation d) .cancelActivation d s fun q v w =>
      Answered q .done [] w ∧ Only [.upd, .mbx, .rcd] v w ∧ w.upd.schedule = none ∧
      (v.upd.schedule.isSome = true → w.upd.lastDefer = 10)) ∧
    (Takes .updateConfirm d s → Completes (.updateConfirm d) .updateConfirm d s fun q v w =>
      Answered q .done [] w ∧ Only [.upd, .sys, .mbx, .rcd] v w ∧ w.upd.run = { v.upd.run with state := .confirmed } ∧
      w.upd.window = none ∧ w.sys.fuses.rollbackModule = max v.sys.fuses.rollbackModule v.upd.run.header.rollback ∧
      v.sys.fuses.rollbackIsland ≤ w.sys.fuses.rollbackIsland ∧
      (8, v.record .confirmed [v.upd.run.header.version]) ∈ w.rcd.waiting) ∧
    (Takes .reject d s → Completes (.reject d) .reject d s fun q v w =>
      Answered q .done [] w ∧ Only [.upd, .sys, .mbx, .rcd] v w ∧ w.upd.run = { v.upd.run with state := .rejected } ∧
      w.sys = { v.sys with restart := some (5, v.sys.opNs + 10000000) })

/-- The commands of class 0x0F (R444, R455, R447, R460): a domain reset stands in the history with its cause and goes on; a fault
counter loses its stamps; the commissioning key is stored with its hash in the fuses; the debug lock is blown.

Concluded to answer a next state (`exec c s = .next t`) and to have this effect, a command of a serving block at the boundary of its
tick: `resetDomain`, `clearFaultCounter`, `setCommissioningKey`, `setDebugLock`. -/
def Obligations.FaultCommandsTakeEffect : Prop :=
  ∀ (d : Datagram) (s : State),
    (Takes .resetDomain d s → Completes (.resetDomain d) .resetDomain d s fun q v w =>
      (q.u8 0 = 0 → w.sys.acqUp = false ∧ w.acq.resetBox = some q.mailbox) ∧
      (q.u8 0 = 1 → q.u8 1 < 48 → (w.port (q.u8 1)).mode = .training ∧ (w.port (q.u8 1)).acyclic = none) ∧
      (q.u8 0 = 1 → 48 ≤ q.u8 1 → q.u8 1 < 52 → (w.uplink (q.u8 1 - 48)).link = false) ∧
      (1 < q.u8 0 → (w.group (q.u8 1)).mode = .running ∧ (w.group (q.u8 1)).refsLeft = 8) ∧
      w.sys.history = ({ domain := (if q.u8 0 = 0 then 4 else if q.u8 0 = 1 then 5 else 6),
                         index := (if q.u8 0 = 0 then 0 else q.u8 1),
                         cause := (if q.u8 0 = 0 then 0x0403 else if q.u8 0 = 1 then 0x0503 else 0x0603),
                         tick := v.time.tick, start := v.sys.startCount } :: v.sys.history).take 16) ∧
    (Takes .clearFaultCounter d s → Completes (.clearFaultCounter d) .clearFaultCounter d s fun q v w =>
      Leaves q .done [] { v with sys.counters := v.sys.counters.upd (q.u32 0) {} fun c => { c with stamps := [] } } w) ∧
    (Takes .setCommissioningKey d s → Completes (.setCommissioningKey d) .setCommissioningKey d s fun q v w =>
      let key := q.bytes 0 32
      Leaves q .done [] { v with sys.keyRecord := some (key, BitVec.ofNat 32 (crc32c key)), sys.fuses.keySet := true,
                                 sys.fuses.keyHash := BitVec.ofNat 256 (unle (sha256 key)) } w ∧
      (8, v.record .keySet []) ∈ w.rcd.waiting) ∧
    (Takes .setDebugLock d s → Completes (.setDebugLock d) .setDebugLock d s fun q v w =>
      Leaves q .done [] { v with sys.fuses.debugLock := 4 } w)

/-! ### Events: power, modes, resets and faults -/

/-- Power and resets (R436, R440, R71, R327, R391): a start counts itself and enters BOOT with the settings kept and the straps
read, and the island starts with it, every Shroud connection anew (R335, R437); VIN below 17 V saves the count of pending records
and an active pair member gives up with cause 3; VIN below 16 V and RESET_N clear the main die, and a pulse shorter than 10 µs does
nothing.

Concluded to answer a next state with this effect (`exec c s = .next t`): `powerGood`, `vinBelow17v`, `vinBelow16v`, `resetNLow`,
`delayedRestart`. -/
def Obligations.PowerAndResetsEnterBoot : Prop :=
  ∀ s : State, Settled s →
    (∀ lands r, s.sys.powered = false → Runs (.powerGood lands r) s fun t =>
      t.sys.mode = .boot ∧ t.sys.powered = true ∧ t.sys.inReset = false ∧ t.sys.startCount = s.sys.startCount + 1 ∧
      t.sys.powerCycles = s.sys.powerCycles + 1 ∧ t.sys.straps = lands ∧ t.sys.lidCenti = r.lidCenti ∧ t.sys.memoryFails = !r.memoryReady ∧
      (∀ r, resKind r ≠ 11 → t.isRetired r = false) ∧ t.saf.cfg = s.saf.cfg ∧ (∀ c, t.conn c = {}) ∧
      Only [.sys, .mbx, .pts, .ain, .rcd, .stg, .saf, .shr, .par, .upd, .mon] s t) ∧
    (s.sys.powered = true → s.sys.inReset = false → Runs .vinBelow17v s fun t =>
      t.rcd.atLoss = s.rcd.queue.length ∧ Only [.rcd, .par, .stg] s t ∧
      (s.cfg.pair.paired = true → s.par.role = .active →
        t.par.role = .givenUp ∧ t.par.giveUp = 3 ∧ t.par.own = BitVec.ofNat 8 s.unitBit) ∧
      (s.cfg.pair.paired = false → t.par = s.par)) ∧
    (s.sys.powered = true → Runs .vinBelow16v s fun t =>
      t.sys.inReset = true ∧ t.sys.powered = false ∧ t.sys.mode = .boot ∧ t.sys.startCount = s.sys.startCount ∧
      t.par.own = BitVec.ofNat 8 s.unitBit ∧ t.cfg = s.cfg ∧ t.saf.state = s.saf.state ∧ t.mbx.issued = [] ∧ t.pts.forces = [] ∧
      t.rcd.atLoss = s.rcd.queue.length ∧
      t.sys.history.head? = some { domain := 0, index := 0, cause := 3, tick := s.time.tick, start := s.sys.startCount }) ∧
    (∀ held, s.sys.inReset = false → s.sys.mode ≠ .halt → 10000 ≤ held → Runs (.resetNLow held) s fun t =>
      t.sys.mode = .boot ∧ t.sys.startCount = s.sys.startCount + 1 ∧ t.cfg = s.cfg ∧ t.saf.state = s.saf.state ∧
      (∀ m, (t.box m).state = .empty) ∧ t.mbx.issued = [] ∧ t.pts.forces = [] ∧
      t.sys.history.head? = some { domain := 0, index := 0, cause := 2, tick := s.time.tick, start := s.sys.startCount }) ∧
    (∀ held, held < 10000 → Runs (.resetNLow held) s (Only [] s)) ∧
    (∀ cause due, Live s → s.sys.mode ≠ .halt → s.sys.restart = some (cause, due) → due ≤ s.sys.opNs + s.periodNs →
      Runs .delayedRestart s fun t => t.sys.mode = .boot ∧ t.sys.startCount = s.sys.startCount + 1 ∧ t.cfg = s.cfg ∧
        t.sys.history.head? = some { domain := 0, index := 0, cause := cause, tick := s.time.tick, start := s.sys.startCount })

/-- BOOT and what follows it (R74, R408, R421, R424, R426, R438): a slot that passes takes the module to CONFIGURE with the stored
settings in use, none takes it to HALT; an activation in progress is taken up again; the copy of an activation and the migration of
settings end as R421 and R426 say; a cold lid keeps a T9648-A in BOOT until it is warm. Leaving SERVICE, temperature and permanent
faults (R25, R74, R457, R458): the service port's link going down starts the count, whose end, or 600 s without a request, leaves
SERVICE; a lid above 70 °C stops spilling and lowers the supply margin; a lid above 95 °C is a permanent fault, which takes the
module to HALT at rank 2 of the tick (R42), and a cause found or still present at a start takes it there from BOOT.

Concluded to answer a next state with this effect (`exec c s = .next t`): `bootComplete`, `lidTempRecheck`, `lidWarmReached`,
`activationCopyComplete`, `settingsMigration`, `thermalLimit`, `lidOvertemp`, `serviceTimeout`, `serviceLinkDown`. -/
def Obligations.BootServiceAndTemperature : Prop :=
  ∀ s : State, Live s →
    (s.sys.mode = .boot → s.sys.coldHold = false → s.standingFault = none → s.upd.journal = none →
      (bootSlots { s with out := [] }).1.isSome = true → Runs .bootComplete s fun t =>
        t.sys.mode = .configure ∧ t.sys.prevMode = .boot ∧ t.mbx.bindings = t.cfg.bindings ∧ t.mbx.udpPort = t.cfg.udpPort ∧
        t.pts.inForce = t.cfg.points ∧ t.sqn.bound = t.cfg.seqs ∧ t.sys.startCount = s.sys.startCount) ∧
    (s.sys.mode = .boot → s.sys.coldHold = false → s.standingFault = none → s.upd.journal = none →
      (bootSlots { s with out := [] }).1 = none → Runs .bootComplete s fun t => t.sys.mode = .halt ∧ t.sys.haltCause = 1) ∧
    (∀ cause, s.sys.mode = .boot → s.sys.coldHold = false → s.standingFault = some cause → Runs .bootComplete s fun t =>
      t.sys.mode = .halt ∧ t.sys.haltCause = cause) ∧
    (∀ block, s.sys.mode = .boot → s.sys.coldHold = false → s.standingFault = none → s.upd.journal = some block →
      Runs .bootComplete s fun t => t.sys.mode = .activate ∧ t.upd.journal = some block ∧ t.cfg = s.cfg) ∧
    (∀ lid, s.sys.coldHold = true → Runs (.lidTempRecheck lid) s fun t =>
      t.sys = { s.sys with lidCenti := lid, coldHold := lidCold lid } ∧ Only [.sys, .rcd] s t) ∧
    (s.sys.warming = true → Runs .lidWarmReached s fun t =>
      t.sys = { s.sys with warming := false, lidCenti := max s.sys.lidCenti (-1000) } ∧ Only [.sys] s t) ∧
    (s.sys.mode = .activate → Runs .activationCopyComplete s fun t =>
      t.sys.mode = .boot ∧ t.sys.startCount = s.sys.startCount + 1 ∧ t.upd.fallback = s.upd.run ∧
      t.upd.run = { s.upd.stage with state := .unconfirmed } ∧ t.upd.stage = {} ∧ t.upd.journal = none ∧ t.upd.migrate = true ∧
      t.upd.factory = s.upd.factory ∧ (s.upd.slot ≠ 1 → t.upd.other = s.cfg)) ∧
    (s.upd.migrate = true → s.upd.slot = 0 → s.sys.mode ≠ .boot → s.sys.mode ≠ .activate →
      s.upd.run.header.settingsMin ≤ s.upd.otherSchema → Runs (.settingsMigration none) s fun t =>
        t.cfg = s.upd.other ∧ t.upd.migrate = false ∧ t.upd.schema = s.upd.run.header.settings ∧
        t.upd.sourceDigest = Config.settingsDigest s.upd.other ∧ t.mbx.bindings = t.cfg.bindings ∧ t.sys.mode = s.sys.mode) ∧
    (∀ failing, s.upd.migrate = true → s.upd.slot = 0 → s.sys.mode ≠ .boot → s.sys.mode ≠ .activate → s.sys.mode ≠ .halt →
      (failing.isSome = true ∨ s.upd.otherSchema < s.upd.run.header.settingsMin) → Runs (.settingsMigration failing) s fun t =>
        t.upd.run = { s.upd.run with state := .rejected } ∧ t.sys.mode = .boot ∧ t.sys.startCount = s.sys.startCount + 1) ∧
    (Runs .serviceLinkDown s fun t => Only [.sys] s t ∧ t.sys =
      { s.sys with serviceLink := false, serviceDown := if s.sys.serviceLink then some s.sys.opNs else s.sys.serviceDown }) ∧
    (s.sys.mode = .service →
      (s.sys.serviceDown.any (fun a => s.sys.opNs - a ≥ 10000000000) = true ∨ s.sys.opNs - s.sys.serviceUsed ≥ 600000000000) →
      Runs .serviceTimeout s fun t => t.saf.session = none ∧ t.cfg = s.cfg ∧
        (s.inLockout = false → t.sys.mode = .configure) ∧
        (s.inLockout = true → t.sys.mode = .lockout ∧ t.sys.lockoutFrom = .service)) ∧
    (∀ lid, Runs (.thermalLimit lid) s fun t =>
      t.sys = { s.sys with lidCenti := lid, hot := decide (lid > 7000) } ∧ Only [.sys, .stg, .rcd, .acq] s t ∧
      (s.sys.hot ≠ decide (lid > 7000) → t.stg = { s.stg with margin := if lid > 7000 then 0x3FC00000 else 0x40000000 }) ∧
      (s.sys.hot = false → lid > 7000 → t.acq = { s.acq with spilling := false }) ∧ (lid ≤ 7000 → t.acq = s.acq)) ∧
    (Runs .lidOvertemp s fun t => Only [.sys] s t ∧
      t.sys = { s.sys with haltDue := if s.sys.haltDue = 0 then 7 else s.sys.haltDue }) ∧
    (∀ v : State, v.sys.haltDue ≠ 0 → v.sys.mode ≠ .halt →
      (followHalt v).sys.mode = .halt ∧ (followHalt v).sys.haltCause = v.sys.haltDue ∧ (followHalt v).cfg = v.cfg ∧
      ∀ l ∈ v.wired, ((followHalt v).loop l).run = .off)

/-- Resets of the supervisor, a program core, the loop engine and acquisition (R17, R69, R70, R168, R192, R277, R304, R444, R445):
the domain stops serving, the reset stands in the history with its cause, what the domain held is cleared, and it serves again at
its restart; the third reset within its window is a whole-module reset (supervisor), stops the core's tasks, or is a permanent fault
(loop engine), which waits for rank 2 of the tick.

Concluded to answer a next state with this effect (`exec c s = .next t`): `supervisorLockstepMismatch`, `supervisorWatchdog`,
`supervisorRestartComplete`, `coreFault`, `coreWatchdog`, `coreRestartComplete`, `releaseDeadlineMissed`, `loopEngineRestart`,
`acquisitionReset`. -/
def Obligations.DomainsResetAndServeAgain : Prop :=
  ∀ s : State, Live s →
    let entry := fun (domain index cause : Nat) =>
      some ({ domain, index, cause, tick := s.time.tick, start := s.sys.startCount } : ResetEntry)
    (∀ c cause, (c = Instr.supervisorLockstepMismatch ∧ cause = 0x0101) ∨ (c = Instr.supervisorWatchdog ∧ cause = 0x0102) →
      ((escalate 600 s.sys.opNs s.sys.supResets).2 = false → Runs c s fun t =>
        t.sys.supUp = false ∧ (∀ d, t.deaf d = true) ∧ t.sys.history.head? = entry 1 0 cause ∧
        t.mbx = { s.mbx with parts := [] } ∧ Only [.sys, .rcd, .mbx, .prg, .sqn, .fld] s t) ∧
      ((escalate 600 s.sys.opNs s.sys.supResets).2 = true → s.sys.mode ≠ .halt → Runs c s fun t =>
        t.sys.mode = .boot ∧ t.sys.startCount = s.sys.startCount + 1 ∧ t.sys.history.head? = entry 0 0 7 ∧ t.cfg = s.cfg)) ∧
    (s.sys.supUp = false → Runs .supervisorRestartComplete s fun t =>
      t.sys.supUp = true ∧ Only [.sys, .rcd, .mbx, .par, .stg] s t ∧
      ∀ m, ((s.box m).isOpen = true → (t.box m).status = .restarted ∧ (t.box m).isOpen = false) ∧
        ((∀ x ∈ s.mbx.boxes.cells, x.1 = m → x.2.isOpen = false) → t.box m = s.box m)) ∧
    (∀ (core : Fin 4) c cause, (c = Instr.coreFault core ∧ cause = 0x0201) ∨ (c = Instr.coreWatchdog core ∧ cause = 0x0202) →
      s.prg.coreDown.contains core.val = false → Runs c s fun t =>
        t.prg.coreDown.contains core.val = true ∧ t.prg.resets.getD core 0 = s.prg.resets.getD core 0 + 1 ∧
        t.sys.history.head? = entry 2 core cause ∧ t.cfg = s.cfg ∧
        (∀ x ∈ s.taskRecs, x.core = core.val → (t.task x.index).held = true ∧ (t.task x.index).mode ≠ .running) ∧
        ((escalate 600 s.sys.opNs (s.sys.coreResets.getD core [])).2 = true → t.prg.coreStopped.contains core.val = true ∧
          ∀ x ∈ s.taskRecs, x.core = core.val → (t.task x.index).mode = .faulted)) ∧
    (∀ core : Fin 4, s.prg.coreDown.contains core.val = true → Runs (.coreRestartComplete core) s fun t =>
      t.prg = { s.prg with coreDown := s.prg.coreDown.filter (· != core.val) } ∧ Only [.prg, .mbx] s t) ∧
    (s.computing = true → s.lop.released = false → s.par.role ≠ .givenUp → s.sys.mode ≠ .handover →
      ((escalate 600 s.sys.opNs s.sys.engineResets).2 = false → Runs .releaseDeadlineMissed s fun t =>
        t.sys.engineUp = false ∧ t.sys.engineBack = s.time.tick + s.ticksOfMs 2 + 1 ∧ t.rmp.ramps = {} ∧
        t.sys.history.head? = entry 3 0 0x0302 ∧ t.cfg = s.cfg ∧ (∀ l, (t.loop l).run = (s.loop l).run ∧ (t.loop l).z = []) ∧
        (∀ i < 16, (t.seq i).running = false ∧ (t.seq i).scheduled = none)) ∧
      ((escalate 600 s.sys.opNs s.sys.engineResets).2 = true → Runs .releaseDeadlineMissed s fun t =>
        t.sys.haltDue = (if s.sys.haltDue = 0 then 3 else s.sys.haltDue) ∧ t.sys.engineUp = false)) ∧
    (s.sys.engineUp = false → s.sys.engineBack ≤ s.time.tick → Runs .loopEngineRestart s fun t =>
      t.sys.engineUp = true ∧ Only [.sys, .lop, .rmp, .pts, .rcd] s t ∧
      (∀ l ∈ s.wired, (s.loop l).run ≠ .off → s.isRetired (loopResource l) = false →
        (t.loop l).run = .closed ∧ (t.loop l).xh = (s.loopCfg l).start)) ∧
    (∀ ovr, Runs (.acquisitionReset ovr) s fun t =>
      t.sys.acqUp = false ∧ t.sys.history.head? = entry 4 0 (if ovr then 0x0402 else 0x0401) ∧ t.acq.waiting = [] ∧
      t.acq.back = some (s.time.tick + s.ticksOfMs 2) ∧ t.acq.ring = s.acq.ring ∧ Only [.sys, .rcd, .mbx, .acq] s t)

/-- Memory and NAND faults (R449 to R453, R455): a corrected word counts once for its memory and once for its region or page, and a
page that has two within 24 h retires; an uncorrectable word of any region counts, unless its outcome is a whole-module reset; one
of the point table, the mirror buffers, a repetitive memory or the record queue retires its region, and one of a row whose outcome
is the reset of a domain resets it; a NAND block is counted, and an exhausted reserve ends spilling or makes the SLC store
read-only, a permanent fault that HALT follows at rank 2 of the tick (R457).

Concluded to answer a next state with this effect (`exec c s = .next t`): `memoryCorrectedError`, `memoryUncorrectableError`,
`nandBlockFault`. -/
def Obligations.MemoryFaultsAreCountedAndContained : Prop :=
  ∀ s : State, Live s →
    (∀ addr row off, regionOf sramRegions addr = some (row, off) →
      (Runs (.memoryCorrectedError addr) s fun t =>
        (t.sys.ecc.getD 0 {}).corrected = (s.sys.ecc.getD 0 {}).corrected + 1 ∧ (t.sys.ecc.getD 0 {}).lastAddress = addr ∧
        (s.isRetired (resource 10 row) = false → (t.sys.counters.getD (resource 10 row) {}).total =
          (s.sys.counters.getD (resource 10 row) {}).total + 1) ∧ Only [.sys, .rcd] s t) ∧
      (row = 5 ∨ row = 8 ∨ row = 10 ∨ row = 12 → Runs (.memoryUncorrectableError addr) s fun t =>
        (t.sys.ecc.getD 0 {}).uncorrectable = (s.sys.ecc.getD 0 {}).uncorrectable + 1 ∧
        (t.isRetired (resource 10 row) || t.sys.toRetire.any (·.1 == resource 10 row)) = true ∧
        (row = 5 → (t.ownEntry (off / 8)).valid = false) ∧ (row = 8 → t.par.parts = [] ∧ t.par.rx = []) ∧ t.cfg = s.cfg) ∧
      (row = 0 → (escalate 600 s.sys.opNs s.sys.supResets).2 = false → Runs (.memoryUncorrectableError addr) s fun t =>
        t.sys.supUp = false ∧ (t.sys.ecc.getD 0 {}).uncorrectable = (s.sys.ecc.getD 0 {}).uncorrectable + 1) ∧
      (row = 9 → Runs (.memoryUncorrectableError addr) s fun t => t.sys.acqUp = false ∧
        (t.sys.ecc.getD 0 {}).uncorrectable = (s.sys.ecc.getD 0 {}).uncorrectable + 1)) ∧
    (∀ addr, ((regionOf sramRegions addr).isSome || (regionOf dramRegions addr).isSome || (regionOf mramRegions addr).isSome) = true →
      Runs (.memoryUncorrectableError addr) s fun t =>
        let memory := if (regionOf sramRegions addr).isSome then 0 else if (regionOf dramRegions addr).isSome then 1 else 2
        (t.sys.mode = .boot ∧ t.sys.startCount = s.sys.startCount + 1) ∨
          ((t.sys.ecc.getD memory {}).uncorrectable = (s.sys.ecc.getD memory {}).uncorrectable + 1 ∧
            (t.sys.ecc.getD memory {}).lastAddress = addr)) ∧
    (∀ addr, regionOf sramRegions addr = none → (regionOf dramRegions addr).isSome = true →
      Runs (.memoryCorrectedError addr) s fun t =>
        let page := (addr - 0x1000000000) / 4096
        (t.sys.ecc.getD 1 {}).corrected = (s.sys.ecc.getD 1 {}).corrected + 1 ∧ t.sys.pageStamps.find page = some s.sys.opNs ∧
        ((s.sys.pageStamps.find page).any (fun a => s.sys.opNs - a ≤ 86400000000000) = true →
          (t.isRetired (resource 11 page) || t.sys.toRetire.any (·.1 == resource 11 page)) = true) ∧ Only [.sys, .rcd] s t) ∧
    (∀ addr, regionOf sramRegions addr = none → regionOf dramRegions addr = none → (regionOf mramRegions addr).isSome = true →
      Runs (.memoryCorrectedError addr) s fun t =>
        (t.sys.ecc.getD 2 {}).corrected = (s.sys.ecc.getD 2 {}).corrected + 1 ∧ Only [.sys, .rcd] s t) ∧
    (∀ f : NandFault, let a := NandArea.code f.area
      (f.exhausted = false → Runs (.nandBlockFault f) s fun t => Only [.sys, .rcd] s t ∧ t.sys = { s.sys with
        blocksRetired := s.sys.blocksRetired.upd a 0 fun n => if f.refresh then n else n + 1 }) ∧
      (f.exhausted = true → f.area = .slc → Runs (.nandBlockFault f) s fun t => Only [.sys, .rcd] s t ∧
        t.sys.slcReadOnly = true ∧ t.sys.haltDue = if s.sys.haltDue = 0 then 5 else s.sys.haltDue) ∧
      (f.exhausted = true → f.area = .spill → Runs (.nandBlockFault f) s fun t =>
        t.acq.spillDead = true ∧ t.acq.spilling = false ∧ Only [.sys, .acq, .rcd] s t))

/-! ### Events: ticks, loops and sequences -/

/-- A tick boundary resolves the tick that ends and starts the next (R36, R41, R42, R68): no issued command is left, and, where no
lock-out, step, reset or command of class 0x01 or 0x02 moves mode or grid in the tick, operating time and the tick index go on to
the next boundary of the grid in force, or to the first of a new grid that is due. The rows that name an event which R41 has
resolved at the boundary of its tick are that boundary (notes/assumptions/50): the new base period, an elapsed count at its level, a
scheduled start, a cyclic or an event task's start, and the exchange of program sets.

Concluded to answer a next state with this effect (`exec c s = .next t`): `tickBoundary`, `tickPeriodChange`, `elapsedReached`,
`scheduledStart`, `cyclicTaskStart`, `eventTaskStart`, `onlineChangeBoundary`. -/
def Obligations.TickBoundaryStartsNextTick : Prop :=
  ∀ s : State, Live s →
    (∀ io : TickIO, Runs (.tickBoundary io) s fun t =>
      t.mbx.issued = [] ∧ t.mbx.holding = false ∧
      (s.saf.lockEvents = [] → s.mirroring = false → s.time.stepNow = none → t.sys.startCount = s.sys.startCount →
        (∀ q ∈ s.mbx.issued, q.op.desc.cls ≠ 0x01 ∧ q.op.desc.cls ≠ 0x02) →
        t.time.tick = s.nextBoundary.1 ∧
        (s.periodDue = none → t.sys.opNs = s.sys.opNs + s.periodNs ∧ t.time.periodUs = s.time.periodUs) ∧
        (∀ p n e, s.periodDue = some (p, n, e) → t.sys.opNs = s.sys.opNs + (s.nextBoundary.2 - s.toolNs) ∧
          t.time.periodUs = p ∧ t.time.fastN = n))) ∧
    (s.periodDue.isSome = true → Runs .tickPeriodChange s fun t => exec (.tickBoundary {}) s = .next t) ∧
    (∀ i : Fin 16, s.elapsedDue i = true → Runs (.elapsedReached i) s fun t => exec (.tickBoundary {}) s = .next t) ∧
    (∀ i : Fin 16, s.startDue i = true → Runs (.scheduledStart i) s fun t => exec (.tickBoundary {}) s = .next t) ∧
    (∀ (core : Fin 4) (task : Fin 8), s.programsRun = true →
      (s.taskRec (8 * core + task)).any (·.dueAt s.nextBoundary.1) = true →
      Runs (.cyclicTaskStart core task) s fun t => exec (.tickBoundary {}) s = .next t) ∧
    (∀ (core : Fin 4) (task : Fin 8), s.programsRun = true → (s.taskRec (8 * core + task)).any (·.event) = true →
      ((tickEffect {} { s with out := [] }).task (8 * core + task)).changedAt = s.nextBoundary.1 →
      Runs (.eventTaskStart core task) s fun t => exec (.tickBoundary {}) s = .next t) ∧
    (s.programsRun = true → s.changeDue s.nextBoundary.1 = true →
      Runs .onlineChangeBoundary s fun t => exec (.tickBoundary {}) s = .next t)

/-- Fast ticks, the deadline of prompt loops and the period release (R161, R162, R172): a fast tick starts an update of every prompt
loop and finishes those that wait for nothing; the deadline finishes the loop it names; the release releases once, and the swaps of
its tick are answered. Supervision of loops and learning (R178 to R184, R197): an input that has been missing or frozen for its
ticks is declared, and a required one takes a closed loop into its fallback; OPEN ends in its after_open mode; AUTO returns
bumplessly to CLOSED; learning resumes after its calm ticks. No other loop changes.

Concluded to answer a next state with this effect (`exec c s = .next t`): `fastTick`, `promptDeadline`, `periodRelease`,
`inputLost`, `inputFrozen`, `openTimeout`, `autoReturn`, `learningResumed`. -/
def Obligations.LoopsRunAndAreSupervised : Prop :=
  ∀ s : State, Live s →
    (∀ j, j < s.time.fastN → Runs (.fastTick j) s fun t =>
      t.lop.fast = j ∧ Only [.lop, .ain, .pts, .stg, .acq, .sys, .rcd, .rmp] s t ∧
      ∀ l ∈ s.promptRunning, (t.loop l).arrived = [] ∧ (t.loop l).fastDone = (t.awaited l).isEmpty) ∧
    (∀ (l : Fin 1024) (j : Nat), j < s.time.fastN → s.promptRunning.contains l.val = true → (s.loop l).fastDone = false →
      Runs (.promptDeadline l j) s fun t =>
        (t.loop l).fastDone = true ∧ (∀ l', l' ≠ l.val → t.loop l' = s.loop l') ∧
        Only [.lop, .pts, .stg, .sys, .rcd, .rmp] s t) ∧
    (s.lop.released = false → s.sys.engineUp = true → s.par.role ≠ .givenUp → s.effMode ≠ .sync → s.effMode ≠ .handover →
      (s.effMode = .standby → s.par.split = true) → Runs .periodRelease s fun t =>
        t.lop = { s.lop with released := true, unreleased := [], doneDue := [] } ∧ Only [.lop, .stg, .mbx] s t) ∧
    (∀ (l : Fin 1024) (i : Fin 4), s.loopRuns l = true → i.val < (s.wiring l).ny →
      ((s.loop l).sup.lossTicks.getD i 3 ≤ (s.loop l).missing.getD i 0 → (s.loop l).lost.getLsbD i = false →
        Runs (.inputLost l i) s fun t => (t.loop l).lost.getLsbD i = true ∧ (t.loop l).frozen = (s.loop l).frozen ∧
          ((s.loop l).run = .closed → (t.loop l).unhealthy = true →
            (t.loop l).run = RunState.ofCode (s.loop l).sup.fallback ∧ (t.loop l).entries = (s.loop l).entries + 1) ∧
          (∀ l', l' ≠ l.val → t.loop l' = s.loop l') ∧ Only [.lop, .rcd] s t) ∧
      ((s.loop l).sup.freezeTicks.getD i 1000 ≤ (s.loop l).freeze.getD i 0 → (s.loop l).frozen.getLsbD i = false →
        Runs (.inputFrozen l i) s fun t => (t.loop l).frozen.getLsbD i = true ∧ (t.loop l).lost = (s.loop l).lost ∧
          ((s.loop l).run = .closed → (t.loop l).unhealthy = true →
            (t.loop l).run = RunState.ofCode (s.loop l).sup.fallback ∧ (t.loop l).entries = (s.loop l).entries + 1) ∧
          (∀ l', l' ≠ l.val → t.loop l' = s.loop l') ∧ Only [.lop, .rcd] s t)) ∧
    (∀ l : Fin 1024, s.loopRuns l = true → (s.loop l).run = .openLoop → (s.loop l).sup.openTicks ≤ (s.loop l).openFor →
      (s.loop l).returnDue = false → Runs (.openTimeout l) s fun t =>
        t.loop l = { s.loop l with run := RunState.ofCode (s.loop l).sup.afterOpen, fbValue := (s.loop l).ua,
                                   since := s.time.tick } ∧
        (∀ l', l' ≠ l.val → t.loop l' = s.loop l') ∧ Only [.lop, .rcd] s t) ∧
    (∀ l : Fin 1024, s.loopRuns l = true → (s.loop l).returnDue = true → Runs (.autoReturn l) s fun t =>
      t.loop l = { s.loop l with run := .closed, first := .bumplessReturn, byCommand := false, since := s.time.tick } ∧
      (∀ l', l' ≠ l.val → t.loop l' = s.loop l') ∧ Only [.lop, .rcd] s t) ∧
    (∀ (c : Fin 128) (i : Fin 2), (s.rep c).learning.getD i true = false → (s.repCfg c).calm ≤ (s.rep c).calm.getD i 0 →
      Runs (.learningResumed c i) s fun t =>
        t.rep c = { s.rep c with learning := listUpd i (fun _ => true) (s.rep c).learning } ∧
        (∀ c', c' ≠ c.val → t.rep c' = s.rep c') ∧ Only [.rmp, .rcd] s t)

/-- Rank 5 of a tick boundary (R236, R237, R238): where a transition of a running sequence fires, it is counted and enters its
target step, or ends the sequence; a scheduled start whose tick comes is entered with the pending image. Neither changes another
sequence. ELAPSED_REACHED and SCHEDULED_START are the boundaries at which an elapsed count or a start tick brings this about
(notes/assumptions/50).

Concluded to answer a next state with this effect (`exec c s = .next t`): `elapsedReached`, `scheduledStart`. -/
def Obligations.SequencesFireAndStart : Prop :=
  ∀ i : Fin 16,
    (∀ (s0 v : State) (st : Step) (n : Nat) (tr : Transition), (v.seq i).running = true → (v.seq i).held = false →
      (v.seq i).stepNow = some st →
      let q := { v.seq i with elapsed := (v.seq i).elapsed + 1 }
      firedOf q (termTable s0 q) = some (n, tr) →
        let w := evaluate s0 i v
        (w.seq i).transitions = (v.seq i).transitions + 1 ∧ w.cfg = v.cfg ∧
        (tr.target = endTarget → (w.seq i).running = false ∧ (w.seq i).fired = n ∧
          (w.seq i).lastEnd = (if (v.seq i).run = .running then 1 else 2)) ∧
        (tr.target ≠ endTarget → tr.target ≠ abortTarget → (w.seq i).step = tr.target ∧ (w.seq i).elapsed = 0 ∧
          (w.seq i).fired = n ∧ (w.seq i).cause = (if tr.timeout then 2 else 1) ∧ (w.seq i).run = (v.seq i).run) ∧
        (∀ j, j ≠ i.val → w.seq j = v.seq j)) ∧
    (∀ (v : State) tick first m tag, (v.seq i).scheduled = some (tick, first, m, tag) → v.startDue i = true →
      let w := scheduledStart i v
      (w.seq i).scheduled = none ∧ (w.seq i).run = .running ∧ (w.seq i).step = first ∧
      (w.seq i).active = (v.seq i).startImage ∧ (w.seq i).pending = none ∧ w.cfg = v.cfg ∧ ∀ j, j ≠ i.val → w.seq j = v.seq j) ∧
    (∀ s : State, Live s → s.elapsedDue i = true → Runs (.elapsedReached i) s fun t =>
      exec (.tickBoundary {}) s = .next t ∧ t.mbx.issued = []) ∧
    (∀ s : State, Live s → s.startDue i = true → Runs (.scheduledStart i) s fun t =>
      exec (.tickBoundary {}) s = .next t ∧ t.mbx.issued = [])

/-! ### Events: analogue inputs and time -/

/-- The converters (R101, R103, R110 to R124): an end of conversion gives the channel of its slot its sample, or the reference its
result, a word of wrong parity is discarded and counted, and the slot count moves on; clamps, the wrap of the slot count, the
watchdog and a failed bank supply do what their rules say, to their group alone.

Concluded to answer a next state with this effect (`exec c s = .next t`): `conversionEnd`, `slotCountWrap`, `clampDetect`,
`clampRelease`, `groupWatchdog`, `bankSupplyFail`. -/
def Obligations.ConvertersDeliverAndRecover : Prop :=
  ∀ s : State, Live s →
    (∀ (g : Fin 12) (r : Conversion), s.groupRuns g = true → Runs (.conversionEnd g r) s fun t =>
      Only [.ain, .mbx, .lop, .pts, .stg, .acq, .sys, .rcd, .rmp, .par, .upd] s t ∧
      (t.group g).count = ((s.group g).count + 1) % 256 ∧
      (∀ i urgent, (s.group g).slot = .channel i urgent →
        let c := 8 * g.val + i
        let code := readCode r (s.channelCfg c).range
        let ovr := r.range != .within || (s.group g).clamped.getLsbD i
        (r.parityOk = true →
          (t.channel c).samples = (s.channel c).samples + 1 ∧
          (t.channel c).lastWord = sampleWord false urgent (s.group g).settling ovr (c % 8) code ∧
          (t.channel c).inTick = (s.channel c).inTick ++
            [{ value := convertCode s c code, sub := r.sub, settling := (s.group g).settling, ovr, urgent }]) ∧
        (r.parityOk = false →
          (t.channel c).parity = (s.channel c).parity + 1 ∧ (t.channel c).samples = (s.channel c).samples ∧
          (t.channel c).inTick = (s.channel c).inTick)) ∧
      (∀ k, (s.group g).slot = .reference k → r.parityOk = true → (t.group g).tDie = r.tDie) ∧
      (∀ k, (s.group g).slot = .reference k → r.parityOk = true → (s.group g).settling = false →
        (t.group g).lastRef = listUpd k (fun _ => (s.refResult (s.group g) g k (readCode r 1)).1) (s.group g).lastRef) ∧
      (∀ k, (s.group g).slot = .reference k → r.parityOk = true → (s.group g).settling = true →
        (t.group g).lastRef = (s.group g).lastRef ∧ (t.group g).trimGain = (s.group g).trimGain ∧
        (t.group g).trimOff = (s.group g).trimOff)) ∧
    (∀ g : Fin 12, s.groupRuns g = true → Runs (.slotCountWrap g) s fun t =>
      t.group g = { s.group g with count := 0, refDue := true } ∧ (∀ h, h ≠ g.val → t.group h = s.group h) ∧ Only [.ain] s t) ∧
    (∀ c : Fin 96, Runs (.clampDetect c) s fun t =>
      t.group (c / 8) = { s.group (c / 8) with clamped := (s.group (c / 8)).clamped ||| BitVec.ofNat 8 (2 ^ (c.val % 8)) } ∧
      (∀ h, h ≠ c.val / 8 → t.group h = s.group h) ∧ Only [.ain] s t) ∧
    (∀ (c : Fin 96) (sub : Nat), Runs (.clampRelease c sub) s fun t =>
      (t.group (c / 8)).clamped = (s.group (c / 8)).clamped &&& ~~~(BitVec.ofNat 8 (2 ^ (c.val % 8))) ∧
      ((t.group (c / 8)).clamped = 0 → (t.group (c / 8)).clampEnd = s.toolNs + sub + 10000) ∧
      (∀ h, h ≠ c.val / 8 → t.group h = s.group h) ∧ Only [.ain] s t) ∧
    (∀ g : Fin 12, s.groupRuns g = true → Runs (.groupWatchdog g) s fun t =>
      (t.group g).watchdogs = (s.group g).watchdogs + 1 ∧ (t.group g).mode = .running ∧ (t.group g).refsLeft = 8 ∧
      (t.group g).settle = 0 ∧ (∀ h, h ≠ g.val → t.group h = s.group h) ∧ t.ain.channels = s.ain.channels ∧
      t.sys.history.head? = some { domain := 6, index := g, cause := 0x0601, tick := s.time.tick, start := s.sys.startCount } ∧
      Only [.ain, .sys, .rcd, .mbx] s t) ∧
    (∀ b : Fin 4, s.ain.bankDown.contains b.val = false → Runs (.bankSupplyFail b) s fun t =>
      t.ain = { s.ain with bankDown := b :: s.ain.bankDown } ∧ Only [.ain, .sys] s t ∧
      ∀ r, r = resource 1 b ∨ r = resource 2 (3 * b) ∨ r = resource 2 (3 * b + 1) ∨ r = resource 2 (3 * b + 2) →
        (t.isRetired r || t.sys.toRetire.any (·.1 == r)) = true)

/-- gPTP (R27, R29, R30, R33, R129): a Sync of the configured domain gives its uplink's offset, its timestamp and the peer delay
less the tool time of its receipt, which moves a locked unit as R33 says and steps or slews a free one; a Sync that it does not hear
moves nothing; a lost source leaves holdover or FREE; the peer delay, the field ports' Sync with its Follow_Up, and delay requests
are counted and answered. Halyard (R46 to R49, R308, R309, R420): an edge disciplines a listener and stops a driver; its absence
makes Halyard invalid and lets the backup master take over; HAL_ARM, HAL_FIRE_N and HAL_ACT are driven and obeyed as their rules
say.

Concluded to answer a next state with this effect (`exec c s = .next t`): `syncReceived`, `gptpSourceTimeout`, `fieldSyncSend`,
`pdelayRequest`, `halyardEdge`, `halyardTimeout`, `backupMasterTakeover`, `halArmDrive`, `halArmEdge`, `halFireDrive`,
`halFireEdge`, `halActDrive`, `halActEdge`, `peerDelayMeasurement`. -/
def Obligations.TimeFollowsGptpAndHalyard : Prop :=
  ∀ s : State, Live s →
    (∀ (u : Fin 2) (m : SyncMessage) (p : PtpStamp) (interval : Nat), s.hearsSync u m = true → syncStamp m = some p →
      syncIntervalNs m = some interval → Runs (.syncReceived u m) s fun t =>
        let off := ptpNs p + (s.gptp u).peerDelay - ((s.toolNs + m.rxSub : Nat) : Int)
        let g := { s.gptp u with valid := true, offset := off, grandmaster := m.grandmaster, interval,
                                 lastSync := s.sys.opNs + m.rxSub }
        let v := setGptp u (fun _ => g) s
        let far := 1000000 < off.natAbs
        t.gptp u = g ∧ t.gptp (1 - u) = s.gptp (1 - u) ∧ t.time.tick = s.time.tick ∧
        Only [.time, .fld, .rcd, .par, .stg, .upd] s t ∧
        (v.bestSource = some (u.val + 1) → t.time.source = u + 1 ∧
          (s.time.state = .locked → (far → t.time.state = .unaligned ∧ t.time.step = some off) ∧
            (¬ far → 200 < off.natAbs → t.time.state = .slewing ∧ t.time.slew = off) ∧
            (off.natAbs ≤ 200 → t.time.state = .locked)) ∧
          (s.time.state = .free → s.sys.mode.steps = true → t.time.state = .acquiring ∧ t.time.stepNow = some off) ∧
          (s.time.state = .free → s.sys.mode.steps = false → far → t.time.state = .unaligned ∧ t.time.step = some off) ∧
          (s.time.state = .free → s.sys.mode.steps = false → ¬ far → t.time.state = .acquiring ∧ t.time.slew = off) ∧
          (s.time.state = .holdover → ¬ far → t.time.state = .slewing))) ∧
    (∀ (u : Fin 2) (m : SyncMessage), s.hearsSync u m = false ∨ syncStamp m = none ∨ syncIntervalNs m = none →
      Runs (.syncReceived u m) s (Only [.fld] s)) ∧
    (∀ (u : Fin 2) (announce : Bool), (s.gptp u).valid = true → (announce = true ∨ s.syncLost u = true) →
      Runs (.gptpSourceTimeout ⟨u, announce⟩) s fun t =>
      (t.gptp u).valid = false ∧ t.gptp (1 - u) = s.gptp (1 - u) ∧ Only [.time, .rcd, .par, .stg, .upd] s t ∧
      ((setGptp u (fun g => { g with valid := false }) s).bestSource = none → t.time.source = 0 ∧
        (s.time.state = .locked ∨ s.time.state = .slewing → t.time.state = .holdover ∧ t.time.holdSince = s.sys.opNs) ∧
        (s.time.state = .acquiring → t.time.state = .free ∧ t.time.stepNow = none) ∧
        (s.time.state = .unaligned → t.time.state = .free ∧ t.time.step = none))) ∧
    (∀ (u : Fin 2) (ns : Nat), s.uplinkUp u = true → Runs (.peerDelayMeasurement u ns) s fun t =>
      t.gptp u = { s.gptp u with peerDelay := ns, exchanges := (s.gptp u).exchanges + 1 } ∧
      t.gptp (1 - u) = s.gptp (1 - u) ∧ t.out = [.peerDelay u] ∧ Only [.time, .fld] s t) ∧
    (Runs .fieldSyncSend s fun t =>
      t.time = { s.time with syncSent := s.time.syncSent + 1, syncSeq := s.time.syncSeq + 1 } ∧ Only [.time] s t ∧
      ∀ n < 48, s.portSends n = true → .sync n (s.time.syncSeq % 65536) ∈ t.out ∧
        .followUp n (s.time.syncSeq % 65536) (s.toolNs / 1000000000) (s.toolNs % 1000000000) ∈ t.out) ∧
    (∀ (p : PortId) (n : Nat), s.answersPdelay p = some n → Runs (.pdelayRequest p) s fun t =>
      t.out = [.pdelayResponse n] ∧ t.time = { s.time with pdelay := s.time.pdelay.upd n 0 (· + 1) } ∧ Only [.time, .fld] s t) ∧
    (∀ e : HalEdge,
      (s.time.driving = true → s.cfg.timeRole = 1 → Runs (.halyardEdge e) s fun t =>
        t.time.driving = false ∧ t.time.conflict = true ∧ t.time.halValid = false ∧ Only [.time, .rcd, .par, .stg, .upd] s t) ∧
      (s.time.driving = true → s.cfg.timeRole ≠ 1 → Runs (.halyardEdge e) s fun t =>
        t.time.driving = false ∧ t.time.halEdgeAt = some s.sys.opNs ∧
        t.acq = { s.acq with halArmOut := false, armAt := none } ∧ Only [.time, .rcd, .acq] s t) ∧
      (s.listens = true → Runs (.halyardEdge e) s fun t =>
        t.time.halEdgeAt = some s.sys.opNs ∧ Only [.time, .rcd, .par, .stg, .upd] s t ∧
        (e.width = .marker → t.time.halPos = some 0 ∧ t.time.halBits = [] ∧
          t.time.halOffset = s.time.halTicks * s.periodNs + (s.cfg.halDelay - e.offsetNs)) ∧
        (∀ p, e.width ≠ .marker → s.time.halPos = some p → p < 94 → t.time.halPos = some (p + 1) ∧
          t.time.halBits = decide (e.width = .one) :: s.time.halBits))) ∧
    (s.listens = true → s.halSilent 2 = true → Runs .halyardTimeout s fun t =>
      t.time.halValid = false ∧ t.time.halPos = none ∧ t.time.halBits = [] ∧ Only [.time, .rcd, .par, .stg, .upd] s t) ∧
    (s.cfg.timeRole = 2 → s.time.driving = false → (s.time.halEdgeAt = none ∨ s.halSilent 3 = true) →
      Runs .backupMasterTakeover s fun t => t.time.driving = true ∧ t.time.halValid = false ∧ t.time.halArm = false ∧
        t.acq = { s.acq with halArmOut := false, armAt := none, armNext := some false } ∧
        Only [.time, .acq, .rcd, .par, .stg, .upd] s t) ∧
    (∀ k level, s.acq.armAt = some (k, level) → s.time.driving = true → k ≤ s.time.tick → Runs .halArmDrive s fun t =>
      t.out = [.halArm level] ∧ t.acq = { s.acq with armAt := none, halArmOut := level, armNext := some level } ∧
      t.time = { s.time with halArm := level } ∧ Only [.acq, .time] s t) ∧
    (∀ high, Runs (.halArmEdge high) s fun t => t.time = { s.time with halArm := high } ∧ Only [.acq, .time] s t ∧
      t.acq = (if s.cfg.timeRole = 0 then s.acq else { s.acq with armNext := some high })) ∧
    (s.acq.fireDue = true → s.cfg.timeRole ≠ 0 → Runs .halFireDrive s fun t =>
      t.acq = { s.acq with fireDue := false } ∧ Only [.acq] s t ∧
      t.out = [.halFire (s.periodNs / 4 + s.cfg.unit * s.periodNs / 32) (3 * s.periodNs / 4)]) ∧
    (∀ sub, s.acq.armed = true → s.cfg.timeRole ≠ 0 → Runs (.halFireEdge sub) s fun t => Only [.acq] s t ∧
      let inside := s.periodNs / 4 ≤ sub ∧ sub ≤ 3 * s.periodNs / 4 + 100
      (¬ inside → t.acq = { s.acq with edgesIgnored := s.acq.edgesIgnored + 1 }) ∧
      (inside → s.acq.fireSeen = true → t.acq = s.acq) ∧
      (inside → s.acq.fireSeen = false → t.acq.fireSeen = true ∧
        t.acq.halMark = some { source := 1, unit := firingUnit s.periodNs sub, stamp := s.toolNs + sub })) ∧
    (∀ x, s.upd.schedule = some x → x.proceeding = true → s.time.driving = true → s.time.tick + 1 = x.at_ →
      Runs .halActDrive s fun t => t.out = [.halAct (s.periodNs / 4) (3 * s.periodNs / 4)] ∧ Only [] s t) ∧
    (s.cfg.timeRole ≠ 0 → s.time.driving = false → Runs .halActEdge s fun t =>
      t.time = { s.time with halAct := some s.time.tick } ∧ Only [.time] s t)

/-! ### Events: field ports, uplinks and mailboxes -/

/-- Field ports (R131, R132, R137 to R141): a timely frame of the right node is taken, a bad, late or foreign one counted, one whose
bytes are no cyclic frame is no input; the output frame is sent with the bytes of R131; a lost link resets the port, and retires it
after its limit; a link gained sends the node its configuration (notes/assumptions/49); acyclic segments go on, end, and are sent
again after 100 cycles, one in a cycle. Uplinks and the service port (R74, R143, R144): a fault counts and a lost link is a reset of
the domain; a link that stays lost retires its uplink; a link gained serves again; ARP and echo requests to the module's own address
are answered.

Concluded to answer a next state with this effect (`exec c s = .next t`): `fieldInputFrame`, `fieldOutputFrame`, `portLinkLoss`,
`linkRegainTimeout`, `acyclicSegment`, `acyclicTimeout`, `uplinkFault`, `arpRequest`, `icmpEchoRequest`, `portLinkUp`. -/
def Obligations.PortsAndUplinksServe : Prop :=
  (∀ (s : State) (n : Fin 48), Live s →
      (∀ p sub, s.portSends n = true → Runs (.fieldInputFrame n ⟨p, sub⟩ false) s fun t =>
        (t.port n).fcs = (s.port n).fcs + 1 ∧ (t.port n).rx = (s.port n).rx ∧ (t.port n).frame = (s.port n).frame ∧
        Only [.fld, .sys] s t) ∧
      (∀ p sub, s.portSends n = true → readFrame p = none → Runs (.fieldInputFrame n ⟨p, sub⟩ true) s fun t =>
        t.port n = { s.port n with rx := (s.port n).rx + 1 } ∧ Only [.fld] s t) ∧
      (∀ p sub (f : FieldFrame), s.portSends n = true → readFrame p = some f → f.version = 1 → f.kind = 2 → f.port.toNat = n →
        (f.cycle.toNat = s.time.tick % 2 ^ 32 → f.nodeId = (s.portCfg n).nodeId → (s.port n).inCheck = false →
          Runs (.fieldInputFrame n ⟨p, sub⟩ true) s fun t =>
            (t.port n).rx = (s.port n).rx + 1 ∧ (t.port n).frame = some f ∧ (t.port n).fresh = true ∧ (t.port n).frameSub = sub ∧
            (t.port n).nodeStatus = f.status ∧ (t.port n).obeyed = f.claim ∧ (∀ k, k ≠ n.val → t.port k = s.port k) ∧
            Only [.fld, .mbx] s t) ∧
        (f.cycle.toNat = s.time.tick % 2 ^ 32 → f.nodeId ≠ (s.portCfg n).nodeId →
          Runs (.fieldInputFrame n ⟨p, sub⟩ true) s fun t =>
            (t.port n).idBad = (s.port n).idBad + 1 ∧ (t.port n).frame = (s.port n).frame ∧ Only [.fld, .sys] s t) ∧
        (f.cycle.toNat ≠ s.time.tick % 2 ^ 32 → 0 < s.time.tick → f.cycle.toNat = (s.time.tick - 1) % 2 ^ 32 →
          Runs (.fieldInputFrame n ⟨p, sub⟩ true) s fun t =>
            (t.port n).late = (s.port n).late + 1 ∧ (t.port n).frame = (s.port n).frame ∧ Only [.fld, .sys] s t)) ∧
      (s.portSends n = true → Runs (.fieldOutputFrame n) s fun t =>
        t.port n = { s.port n with tx := (s.port n).tx + 1 } ∧ (∀ k, k ≠ n.val → t.port k = s.port k) ∧ Only [.fld, .shr] s t ∧
        ∃ f : FieldFrame, t.out = [.fieldFrame n (cyclicBytes f)] ∧ f.kind = 1 ∧ f.claim = s.par.own ∧
          f.nodeId = (s.portCfg n).nodeId ∧ f.entries.length = (s.portCfg n).outCount) ∧
      ((s.isRetired (resource 7 n) = false ∨ (s.port n).inCheck = true) → Runs (.portLinkLoss (.field n)) s fun t =>
        t.port n = { Port.cut .inReset (some s.sys.opNs) (s.port n) with linkLosses := (s.port n).linkLosses + 1 } ∧
        (∀ k, k ≠ n.val → t.port k = s.port k) ∧
        t.sys.history.head? = some { domain := 5, index := n, cause := 0x0501, tick := s.time.tick, start := s.sys.startCount } ∧
        Only [.fld, .sys, .rcd, .mbx, .par, .stg, .upd] s t) ∧
      ((s.isRetired (resource 7 n) = false ∨ (s.port n).inCheck = true) → Runs (.portLinkUp (.field n)) s fun t =>
        let v := updPort n (fun x => { x with mode := .linked, downSince := none }) s
        Only [.fld, .mbx, .par, .stg, .upd] s t ∧
        ((s.portCfg n).enabled = 0 ∨ s.starting = true → t.fld = v.fld) ∧
        ((s.portCfg n).enabled ≠ 0 → s.starting = false →
          Begins n { write := true, left := Config.nodeConfig (s.portCfg n).w, request := none } v t)) ∧
      (∀ a, (s.port n).downSince = some a → 1000000000 ≤ s.sys.opNs - a → Runs (.linkRegainTimeout (.field n)) s fun t =>
        (t.isRetired (resource 7 n) || t.sys.toRetire.any (·.1 == resource 7 n)) = true ∧ Only [.sys] s t) ∧
      (∀ a p seg last, (s.port n).acyclic = some a → a.due = false → s.portRuns n = true → readSegment n p = some seg →
        let got := (a.got ++ seg).take blockMost
        (a.write = true → a.left.drop 96 ≠ [] → Runs (.acyclicSegment n p last) s fun t =>
          Begins n { a with left := a.left.drop 96, tries := 1, age := 0 } s t ∧ Only [.fld] s t) ∧
        (a.write = true → a.left.drop 96 = [] → Runs (.acyclicSegment n p last) s fun t =>
          (t.port n).acyclic = none ∧ Only [.fld, .mbx, .rcd] s t ∧
          (∀ r, a.request = some r → s.sys.supUp = true → (s.box r.1).isOpen = true → (s.box r.1).tag = r.2 →
            (t.box r.1).status = .done)) ∧
        (a.write = false → last = false → got.length < blockMost → Runs (.acyclicSegment n p last) s fun t =>
          Begins n { a with got, tries := 1, age := 0 } s t ∧ Only [.fld] s t) ∧
        (a.write = false → (last = true ∨ got.length = blockMost) → Runs (.acyclicSegment n p last) s fun t =>
          (t.port n).acyclic = none ∧ Only [.fld, .mbx] s t ∧
          (∀ r, a.request = some r → s.sys.supUp = true → (s.box r.1).isOpen = true → (s.box r.1).tag = r.2 →
            (t.box r.1).status = .done ∧ (t.box r.1).payload = le 2 got.length ++ got))) ∧
      (∀ a, (s.port n).acyclic = some a → a.due = false → 100 ≤ a.age →
        (a.tries < 3 → Runs (.acyclicTimeout n) s fun t =>
          Begins n { a with tries := a.tries + 1 } s t ∧ Only [.fld] s t) ∧
        (3 ≤ a.tries → Runs (.acyclicTimeout n) s fun t => (t.port n).acyclic = none ∧ Only [.fld, .mbx] s t ∧
          (∀ r, a.request = some r → s.sys.supUp = true → (s.box r.1).isOpen = true → (s.box r.1).tag = r.2 →
            (t.box r.1).status = .timeout)))) ∧
  (∀ s : State, Live s →
      (∀ (u : Fin 4) (f : UplinkFault), s.isRetired (uplinkResource u) = false → Runs (.uplinkFault u f) s fun t =>
        let total := (s.sys.counters.getD (uplinkResource u) {}).total
        (f = .linkLoss → (t.uplink u).link = false ∧ (t.uplink u).downSince = some s.sys.opNs ∧
          (t.sys.counters.getD (uplinkResource u) {}).total = total + 1) ∧
        (f = .trainingFailed → (t.sys.counters.getD (uplinkResource u) {}).total = total + 1) ∧
        (∀ k, f = .fcsErrors k → (t.uplink u).drops = (s.uplink u).drops + k ∧
          (t.sys.counters.getD (uplinkResource u) {}).total = if 10 < k then total + 1 else total) ∧
        (∀ v, v ≠ u.val → (t.uplink v).link = (s.uplink v).link ∧ (t.uplink v).drops = (s.uplink v).drops) ∧
        Only [.fld, .sys, .rcd, .acq, .mbx] s t) ∧
      (∀ (u : Fin 4) (f : UplinkFault), s.isRetired (uplinkResource u) = true →
        (f = .linkLoss ∨ ∃ k, 0 < k ∧ f = .fcsErrors k) → Runs (.uplinkFault u f) s fun t =>
          (t.uplink u).checkBad = true ∧ t.sys = s.sys ∧ Only [.fld, .rcd, .acq] s t) ∧
      (∀ u : Fin 4, s.isRetired (uplinkResource u) = false → Runs (.portLinkLoss (.uplink u)) s fun t =>
        (t.uplink u).link = false ∧ (t.uplink u).downSince = some s.sys.opNs ∧
        (∀ v, v ≠ u.val → (t.uplink v).link = (s.uplink v).link ∧ (t.uplink v).drops = (s.uplink v).drops) ∧
        t.sys.history.head? =
          some { domain := 5, index := 48 + u, cause := 0x0501, tick := s.time.tick, start := s.sys.startCount } ∧
        Only [.fld, .sys, .rcd, .acq, .mbx] s t) ∧
      (∀ u : Fin 4, (s.isRetired (uplinkResource u) = false ∨ (s.uplink u).checking = true) →
        Runs (.portLinkUp (.uplink u)) s fun t =>
          t.uplink u = { s.uplink u with link := true, inReset := false, downSince := none,
                                         linkAt := if (s.uplink u).checking then some s.sys.opNs else none } ∧
          (∀ v, v ≠ u.val → t.uplink v = s.uplink v) ∧ Only [.fld, .mbx] s t) ∧
      (∀ (u : Fin 4) (a : Nat), (s.uplink u).downSince = some a → 10000000000 ≤ s.sys.opNs - a →
        Runs (.linkRegainTimeout (.uplink u)) s fun t =>
          (t.isRetired (uplinkResource u) || t.sys.toRetire.any (·.1 == uplinkResource u)) = true ∧ Only [.sys] s t) ∧
      (Runs (.portLinkLoss .service) s fun t => Only [.sys] s t ∧ t.sys =
        { s.sys with serviceLink := false, serviceDown := if s.sys.serviceLink then some s.sys.opNs else s.sys.serviceDown }) ∧
      (Runs (.portLinkUp .service) s fun t => Only [.sys, .mbx] s t ∧
        t.sys = { s.sys with serviceLink := true, serviceDown := none, serviceUsed := s.sys.opNs }) ∧
      (∀ (p : Path) (target : U32), s.sys.supUp = true → s.pathRetired p = false → target ≠ 0 → target = s.ownAddr p →
        Runs (.arpRequest p target) s fun t => t.out = [.arpReply p target] ∧ Only [.fld] s t) ∧
      (∀ (u : Fin 4) (dst : U32) (data : List Byte), s.sys.supUp = true → s.isRetired (resource 12 u) = false → dst ≠ 0 →
        dst = (s.uplinkNow u).addr → Runs (.icmpEchoRequest u dst data) s fun t => t.out = [.echoReply u data] ∧ Only [.fld] s t))

/-- What ends after a time without use (R54, R61, R97, R198, R331, R361, R388): a partial datagram 100 ms old is counted and gone; a
completion notice is sent again, 8 times in all, and the mailbox is ANSWERED with the last; snapshots, cursors, the safety session
and the caps of the grade end. A long-running command's end answers its mailbox and sends a completion notice unless the request
asked for none (R61), but where a standby has to confirm an image first (R394); the verification of STAGE judges it (R414), and a
clear of the audit log leaves what was written after (R329).

Concluded to answer a next state with this effect (`exec c s = .next t`): `fragmentTimeout`, `longRunningCompletion`,
`completionNoticeResend`, `snapshotExpiry`, `repSnapshotExpiry`, `cursorExpiry`, `sessionTimeout`, `gradeCapExpiry`. -/
def Obligations.UnusedThingsExpireAndLongCommandsEnd : Prop :=
  (∀ s : State, Settled s →
      (∀ p : Path, s.sys.inReset = false → Runs (.fragmentTimeout p) s fun t => Only [.mbx] s t ∧
        t.mbx = { s.mbx with parts := s.mbx.parts.filter (!s.partDue p ·),
                             fragments := s.mbx.fragments + (s.mbx.parts.filter (s.partDue p ·)).length }) ∧
      (∀ m : Fin 64, s.sys.inReset = false → s.sys.supUp = true → (s.box m).state = .notifying →
        Runs (.completionNoticeResend m) s fun t => Only [.mbx] s t ∧ (∀ k, k ≠ m.val → t.box k = s.box k) ∧
          t.box m = { s.box m with notices := (s.box m).notices + 1,
                                   state := if 7 ≤ (s.box m).notices then .answered else .notifying } ∧
          (s.mbx.holding = false → s.pathRetired (s.box m).path = false →
            ∃ bytes, ∀ x ∈ s.sends (s.box m).path (s.box m).addr (s.box m).port bytes, x ∈ t.out)) ∧
      (∀ (i : Fin 4) x, s.sys.inReset = false → s.pts.snaps.find i = some x → 10000000000 ≤ s.sys.opNs - x.used →
        Runs (.snapshotExpiry i) s fun t => t.pts = { s.pts with snaps := s.pts.snaps.del i } ∧ Only [.pts] s t) ∧
      (∀ (i : Fin 4) x, s.sys.inReset = false → s.rmp.snaps.find i = some x → 10000000000 ≤ s.sys.opNs - x.used →
        Runs (.repSnapshotExpiry i) s fun t => t.rmp = { s.rmp with snaps := s.rmp.snaps.del i } ∧ Only [.rmp] s t) ∧
      (∀ (i : Fin 16) x, s.sys.inReset = false → s.rcd.cursors.find i = some x → 60000000000 ≤ s.sys.opNs - x.used →
        Runs (.cursorExpiry i) s fun t => t.rcd = { s.rcd with cursors := s.rcd.cursors.del i } ∧ Only [.rcd] s t) ∧
      (∀ m a, s.saf.session = some (m, a) → 600000000000 ≤ s.sys.opNs - a → Runs .sessionTimeout s fun t =>
        t.saf = { s.saf with session := none } ∧ Only [.saf, .rcd] s t) ∧
      (s.sys.inReset = false → ∀ a, capWindowNs .dramPage ≤ s.sys.opNs - a → s.par.pageCap = some a →
        Runs (.gradeCapExpiry .dramPage) s fun t => t.par.pageCap = none ∧ t.par.stayCap = s.par.stayCap ∧
          t.par.testCap = s.par.testCap ∧ t.par.role = s.par.role ∧ s.par.grade ≤ t.par.grade ∧ Only [.par, .stg, .upd] s t) ∧
      (s.sys.inReset = false → ∀ a, capWindowNs .stayErrors ≤ s.sys.opNs - a → s.par.stayCap = some a →
        Runs (.gradeCapExpiry .stayErrors) s fun t => t.par.stayCap = none ∧ t.par.pageCap = s.par.pageCap ∧
          t.par.testCap = s.par.testCap ∧ t.par.role = s.par.role ∧ s.par.grade ≤ t.par.grade ∧ Only [.par, .stg, .upd] s t) ∧
      (s.sys.inReset = false → ∀ a, capWindowNs .selfTest ≤ s.sys.opNs - a → s.par.testCap = some a →
        Runs (.gradeCapExpiry .selfTest) s fun t => t.par.testCap = none ∧ t.par.pageCap = s.par.pageCap ∧
          t.par.stayCap = s.par.stayCap ∧ t.par.role = s.par.role ∧ s.par.grade ≤ t.par.grade ∧ Only [.par, .stg, .upd] s t)) ∧
  (∀ (s : State) (m : Fin 64) (op : Op) (o : LongOutcome), Live s → s.sys.supUp = true → (s.box m).state = .accepted →
      (s.box m).req.op = some op →
      let q := rd (s.box m).req.payload 0 1
      (((o = .finish ∧ op ∈ [.clearAudit, .configCheck, .stageVerify]) ∨
        (o = .finish ∧ op ∈ [.loadCommit, .programLoadCommit] ∧ s.followed = false) ∨
        (o = .finish ∧ op = .releaseUplink ∧ (s.uplinkCheck q).isSome = true) ∨
        (o = .finish ∧ op = .releasePort ∧ 1000000000 ≤ s.sys.opNs - (s.box m).opened) ∨
        (∃ v, o = .measured v ∧ op ∈ [.runTestLoad, .releaseStage]) ∨ (∃ c, o = .references c ∧ op = .releaseGroup) ∨
        (o = .timeout ∧ longOps.contains op = true ∧ op ≠ .releasePort ∧ op ≠ .releaseUplink ∧
          1000000000 ≤ s.sys.opNs - (s.box m).opened)) →
      Runs (.longRunningCompletion m o) s fun t =>
        (t.box m).isOpen = false ∧ (t.box m).tag = (s.box m).tag ∧
        ((s.box m).noNotice = false → (t.box m).state = .notifying ∧ (t.box m).notices = 1) ∧
        ((s.box m).noNotice = true → (t.box m).state = .answered) ∧
        (o = .timeout → (t.box m).status = .timeout) ∧ (op = .releasePort → o = .finish → (t.box m).status = .retired) ∧
        (op = .stageVerify → o = .finish → s.upd.stage.hollow = false →
          t.upd.stage.state = .verified ∨ t.upd.stage.state = .failed) ∧
        (op = .clearAudit → o = .finish → (t.box m).status = .done ∧ t.rcd.auditLost = 0 ∧
          ∀ r ∈ t.rcd.audit, rd (s.box m).req.payload 32 8 < r.seq ∨ s.rcd.seq ≤ r.seq) ∧
        (op = .releaseUplink → s.uplinkCheck q = some true → (t.box m).status = .done ∧ t.isRetired (uplinkResource q) = false) ∧
        (op = .releaseUplink → s.uplinkCheck q = some false → (t.box m).status = .retired)) ∧
      (o = .finish → op ∈ [.loadCommit, .programLoadCommit] → s.followed = true → Runs (.longRunningCompletion m o) s fun t =>
        (t.box m).tag = (s.box m).tag ∧ ((t.box m).isOpen = false ∨
          ∃ x ∈ t.mbx.unconfirmed, x.mailbox = m.val ∧ x.tag = (s.box m).tag)))

/-! ### Events: programs, acquisition and recorder -/

/-- Tasks (R252, R253, R256 to R258, R261, R262, R265, R266): at rank 7 a start that falls due runs a waiting task on the latched
inputs and is skipped by a running one, which FAULTS at max_skips; a start of an event task within its least interval is suppressed.
CYCLIC_TASK_START, EVENT_TASK_START and ONLINE_CHANGE_BOUNDARY are the boundaries at which that falls due (notes/assumptions/50).
The end of a cycle commits its variables, writes its shadow block and stages its outputs; a trap ends it without commit. Online
change (R272, R273): at the first boundary with no task running the staged set replaces the running one, and matched variables, live
data, blocks and forces are kept; where the window passes first, the change ends BUSY.

Concluded to answer a next state with this effect (`exec c s = .next t`): `cyclicTaskStart`, `eventTaskStart`, `taskEnd`,
`cigenTrap`, `onlineChangeBoundary`, `onlineChangeTimeout`. -/
def Obligations.TasksRunAndOnlineChangeEnds : Prop :=
  (∀ (core : Fin 4) (task : Fin 8),
    let i := 8 * core.val + task.val
    (∀ (s0 v : State) (r : TaskRec), v.taskRec i = some r → v.coreServes r.core = true →
      ((v.task i).mode = .waiting →
        let t := taskDue s0 r v
        (t.task i).mode = .running ∧ (t.task i).executed = (v.task i).executed + 1 ∧ (t.task i).lastStart = v.time.tick ∧
        (t.task i).consecutive = 0 ∧ (t.task i).overrun = false ∧ (t.task i).stamp = v.nextBoundary.2 / 1000 ∧
        (t.task i).latched = (r.inputs.map fun p => (p, s0.value p, (s0.entry p).status)) ∧ Only [.prg, .mbx] v t) ∧
      ((v.task i).mode = .running →
        let t := taskDue s0 r v
        (t.task i).skips = (v.task i).skips + 1 ∧ (t.task i).overrun = true ∧
        (t.task i).consecutive = (v.task i).consecutive + 1 ∧
        ((v.task i).consecutive + 1 < r.maxSkips → (t.task i).mode = .running ∧ Only [.prg, .rcd] v t) ∧
        (r.maxSkips ≤ (v.task i).consecutive + 1 → (t.task i).mode = .faulted ∧ t.prg.committed = v.prg.committed ∧
          Only [.prg, .rcd, .pts] v t)) ∧
      ((v.task i).started = true → v.time.tick < (v.task i).lastStart + r.cycle →
        let t := eventDue s0 r v
        t.task i = { v.task i with suppressed := (v.task i).suppressed + 1 } ∧ Only [.prg] v t)) ∧
    ∀ s : State, Live s →
      (s.programsRun = true → (s.taskRec i).any (·.dueAt s.nextBoundary.1) = true →
        Runs (.cyclicTaskStart core task) s fun t => exec (.tickBoundary {}) s = .next t ∧ t.mbx.issued = []) ∧
      (s.programsRun = true → (s.taskRec i).any (·.event) = true →
        ((tickEffect {} { s with out := [] }).task i).changedAt = s.nextBoundary.1 →
        Runs (.eventTaskStart core task) s fun t => exec (.tickBoundary {}) s = .next t ∧ t.mbx.issued = []) ∧
      (∀ p r (e : CycleEnd), s.prg.running = some p → s.taskRec i = some r → (s.task i).mode = .running →
        (s.task i).preempted = false → s.coreServes r.core = true → Runs (.taskEnd core task e) s fun t =>
          (t.task i).mode = (if (s.task i).stopAfter.isSome then .stopped else .waiting) ∧ (t.task i).lastRunNs = e.runNs ∧
          (t.task i).lastEnd = s.time.tick ∧ t.prg.committed = forAll (s.unforced (e.vars ++ e.retentive)) putVar s.prg.committed ∧
          t.prg.live = s.prg.live ∧
          (∃ b ∈ t.prg.shadow, b.task = i ∧ b.seq = s.prg.liveSeq.getD i 0 + 1 ∧
            b.words.map (fun w => (w.path, w.value)) = s.unforced e.retentive) ∧
          t.prg.ends = s.prg.ends ++
            [{ core := r.core, task := r.task, cycle := e, tick := s.time.tick, points := r.outputs, priority := r.priority }] ∧
          Only [.prg] s t) ∧
      (∀ (code : Byte) (pc : U32), (s.task i).mode = .running → (s.task i).preempted = false → (s.task i).stopAfter = none →
        Runs (.cigenTrap core task code pc) s fun t =>
          (t.task i).mode = .waiting ∧ (t.task i).traps = (s.task i).traps + 1 ∧ (t.task i).lastTrap = code.toNat ∧
          t.prg.trapped = s.prg.trapped ++ [i] ∧ t.prg.committed = s.prg.committed ∧ t.prg.ends = s.prg.ends ∧
          Only [.prg, .rcd] s t)) ∧
  (∀ (v : State) (b c w m : Nat) (tag : U16) (old new : ProgSet), v.prg.change = some (c, w, m, tag) →
    v.prg.running = some old → v.prg.staged = some new →
      (v.changeDue b = true ↔ c ≤ b ∧ v.tasksIdle = true) ∧
      let t := exchangeSets b v
      t.prg.running = some new ∧ t.prg.staged = none ∧ t.prg.change = none ∧ t.cfg.program = some new ∧
      t.prg.committed = (v.prg.committed.filter fun x => matched old new x.1) ∧
      t.prg.live = (v.prg.live.filter fun x => matched old new x.path) ∧
      t.prg.blocks = (v.prg.blocks.filter fun x => matched old new x.path) ∧
      t.prg.forces = (v.prg.forces.filter fun f => matched old new f.1) ∧
      (v.sys.supUp = true → (v.box m).tag = tag → (v.box m).isOpen = true → (t.box m).status = .done ∧
        (t.box m).payload = le 8 b)) ∧
  (∀ s : State, Live s →
    (s.programsRun = true → s.changeDue s.nextBoundary.1 = true → Runs .onlineChangeBoundary s fun t =>
      exec (.tickBoundary {}) s = .next t ∧ t.mbx.issued = []) ∧
    ∀ (c w m : Nat) (tag : U16), s.prg.change = some (c, w, m, tag) → w ≤ s.toolNs → Runs .onlineChangeTimeout s fun t =>
      t.prg = { s.prg with change := none } ∧ Only [.prg, .mbx] s t ∧
      (s.sys.supUp = true → (s.box m).tag = tag → (s.box m).isOpen = true → (t.box m).status = .busy))

/-- The stream (R289, R294, R295, R311): packing takes the records of every tick but the newest; an acknowledgement to the module's
address and stream port frees what it names and a bad one is counted, one to another address or on an uplink that brings nothing is
not taken; a path without acknowledgement is left for the other, or the host is unreachable and is probed; a capture counts itself
in its tick. The recorder (R323, R324, R327): a batch commits up to 64 records in order; a bucket below its burst gains a token;
suppressed counts not carried within 60 s go into one summary.

Concluded to answer a next state with this effect (`exec c s = .next t`): `recordPacking`, `acknowledgement`, `pathTimeout`,
`probeSend`, `segmentCapture`, `batchCommit`, `tokenRefill`, `suppressedSummary`. -/
def Obligations.StreamAndRecorderMoveOn : Prop :=
  ∀ s : State, Live s →
    (s.acqDark = false → Runs .recordPacking s fun t =>
      t.acq.waiting = s.acq.waiting.drop (s.acq.waiting.length - 1) ∧ s.acq.nextSeq ≤ t.acq.nextSeq ∧
      Only [.acq, .fld, .rcd] s t) ∧
    (∀ (u : Fin 2) (src dst : U32) (port : U16) (b : List Byte),
      (s.uplinkUp u = false → Runs (.acknowledgement u ⟨src, dst, port⟩ b) s fun t => Only [] s t ∧ t.out = []) ∧
      (s.uplinkUp u = true → (dst ≠ (s.uplinkNow u).addr ∨ port ≠ 50649 ∨ (s.acqDark = true ∧ s.sys.mode ≠ .halt)) →
        Runs (.acknowledgement u ⟨src, dst, port⟩ b) s fun t =>
          (t.uplink u).rx = (s.uplink u).rx + 1 ∧ Only [.fld] s t ∧ t.out = []) ∧
      (s.uplinkUp u = true → dst = (s.uplinkNow u).addr → port = 50649 → (s.acqDark = false ∨ s.sys.mode = .halt) →
        (ackGood b = false ∨ src ≠ s.hostAddr u ∨ src = 0 → Runs (.acknowledgement u ⟨src, dst, port⟩ b) s fun t =>
          t.acq = { s.acq with acksDropped := s.acq.acksDropped + 1 } ∧ Only [.acq, .fld] s t) ∧
        (ackGood b = true → src = s.hostAddr u → src ≠ 0 → rd b 4 4 = s.acq.streamId →
          Runs (.acknowledgement u ⟨src, dst, port⟩ b) s fun t =>
            t.acq.ring = (s.acq.ring.filter fun f => f.stream != s.acq.streamId || rd b 8 8 ≤ f.seq) ∧
            t.acq.ackSeq = max s.acq.ackSeq (min (rd b 8 8) s.acq.nextSeq) ∧ t.acq.reachable = true ∧
            (s.acq.reachable = false → t.acq.path = u) ∧ t.acq.ackLost0 = false ∧ t.acq.ackLost1 = false ∧
            Only [.acq, .fld, .rcd] s t))) ∧
    (s.acqDark = false → s.acq.reachable = true → s.hostSet = true → s.pathOk s.acq.path = true →
      s.acq.stream.ackMs * 1000000 ≤ s.sys.opNs - s.acq.lastAck → Runs .pathTimeout s fun t =>
        (s.acq.path = 0 → t.acq.ackLost0 = true) ∧ (s.acq.path ≠ 0 → t.acq.ackLost1 = true) ∧
        (s.acq.path = 0 → s.pathOk 1 = true → s.acq.ackLost1 = false → t.acq.path = 1 ∧ t.acq.reachable = true) ∧
        (s.acq.path = 0 → (s.pathOk 1 = false ∨ s.acq.ackLost1 = true) → t.acq.reachable = false) ∧
        (s.acq.path = 1 → s.pathOk 0 = true → s.acq.ackLost0 = false → t.acq.path = 0 ∧ t.acq.reachable = true) ∧
        (s.acq.path = 1 → (s.pathOk 0 = false ∨ s.acq.ackLost0 = true) → t.acq.reachable = false) ∧
        Only [.acq, .fld, .rcd] s t) ∧
    (s.acqDark = false → s.acq.reachable = false → s.hostSet = true → Runs .probeSend s fun t =>
      t.acq = { s.acq with probeU1 := !s.acq.probeU1 } ∧ Only [.acq, .fld] s t ∧
      (∀ u, u = (if s.acq.probeU1 then 1 else 0) → s.pathOk u = true →
        ∃ b, t.out = [.streamBytes u (s.hostAddr u) s.acq.stream.hostPort b])) ∧
    (∀ cfg, s.cfg.segCfg = some cfg → s.captures = true → s.acq.segCount * cfg.interval < s.time.periodUs →
      Runs .segmentCapture s fun t => t.acq.segCount = s.acq.segCount + 1 ∧ Only [.acq] s t ∧
        t.acq.lastCapture = s.toolNs + s.acq.segCount * cfg.interval * 1000) ∧
    (s.batchDue = true → Runs .batchCommit s fun t =>
      Only [.rcd] s t ∧ (s.rcd.queue.drop 64) <+: t.rcd.queue ∧
      ∀ r, (s.rcd.queue.take 64).getLast? = some r → t.rcd.committed = r.seq + 1) ∧
    (∀ (code : U16) k, kindOfCode code.toNat = some k → (s.bucket k).tokens < (s.rate k).1 →
      (s.rate k).2 * 1000000 ≤ s.sys.opNs - (s.bucket k).below → Runs (.tokenRefill code) s fun t =>
        (t.bucket k).tokens = (s.bucket k).tokens + 1 ∧ t.rcd.queue = s.rcd.queue ∧ Only [.rcd] s t) ∧
    (∀ k ∈ allKinds, 0 < (s.bucket k).suppressed → 60000000000 ≤ s.sys.opNs - (s.bucket k).since →
      Runs .suppressedSummary s fun t => Only [.rcd] s t ∧ t.rcd.queue = s.rcd.queue ∧
        ∃ args, t.rcd.waiting = s.rcd.waiting ++ [(9, s.record .suppressedSummary args)] ∧ 2 ≤ args.length ∧ args.length ≤ 10)

/-! ### Events: the safety island and Shroud -/

/-- A sample of the island counts itself and changes the safety functions, their points, the stages they force off and the Shroud
states alone (R340, R350); whatever it finds, an island in lock-out demands no output and closes no output's two switches (R343,
R357).

Concluded to answer a next state with this effect (`exec c s = .next t`): `safetySample`. -/
def Obligations.SafetySampleHoldsLockoutOff : Prop :=
  ∀ (io : SafetyIO) (s : State), Settled s → Runs (.safetySample io) s fun t =>
    t.saf.samples = s.saf.samples + 1 ∧ t.saf.supplyBad = io.supplyBad ∧
    Only [.saf, .pts, .stg, .shr, .rcd, .mbx] s t ∧
    (t.saf.state = .lockout → ∀ m < 12, (t.safeOut m).demand = false ∧ ((t.safeOut m).high && (t.safeOut m).low) = false) ∧
    (s.safetyCfg = none → ∀ m < 12, (t.safeOut m).demand = false)

/-- Faults of the island (R335, R337, R338, R355, R357, R421): outside UNCONFIGURED each takes the island into lock-out with its
cause, all switches open and the mode told, a fault of VSAFE from 100 ms after power-good on; the watchdog clears the island's
memory; new firmware that passes its checks starts in lock-out. Outputs, axes and confirmation (R344, R346, R347, R353, R361): a
test pulse opens or closes the switch under test, and its end restores the commanded state or is a fault; an overload opens both
switches; the axes are evaluated on their sources; confirmation that takes too long ends and leaves the configuration pending.

Concluded to answer a next state with this effect (`exec c s = .next t`): `confirmationTimeout`, `testPulse`, `testPulseEnd`,
`safetyOutputOverload`, `axisEvaluation`, `tickMirrorSilent`, `vsafeFault`, `islandMonitorFault`, `islandLockstepMismatch`,
`islandWatchdog`, `islandScrub`, `configConnectionFrame`, `islandFirmwareRestart`. -/
def Obligations.IslandFaultsPulsesAndAxes : Prop :=
  ∀ s : State, Settled s →
    let supervises := s.saf.state = .run ∨ s.saf.state = .lockout ∨
      (s.saf.state = .confirming ∧ (s.saf.before = .run ∨ s.saf.before = .lockout))
    let locked := fun (cause : Nat) (t : State) => t.saf.state = .lockout ∧ t.saf.fault = cause ∧
      t.saf.lockEvents = s.saf.lockEvents ++ [true] ∧
      ∀ m < 12, (t.safeOut m).demand = false ∧ (t.safeOut m).high = false ∧ (t.safeOut m).low = false
    (∀ c cause, (c = Instr.tickMirrorSilent ∧ cause = 12) ∨ (c = .vsafeFault ∧ cause = 9 ∧ 100000000 ≤ s.sys.opNs - s.sys.opSinceGood) ∨ (c = .islandMonitorFault ∧ cause = 10) ∨
        (c = .islandLockstepMismatch ∧ cause = 1) →
      (supervises → Runs c s fun t => locked cause t ∧ t.saf.faults = s.saf.faults + 1 ∧
        Only [.saf, .pts, .stg, .rcd, .mbx] s t) ∧
      (s.saf.state = .unconfigured → Runs c s fun t => t.saf = s.saf ∧ Only [.pts] s t)) ∧
    (s.sys.opNs - s.sys.opSinceGood < 100000000 → Runs .vsafeFault s fun t => Only [] s t ∧ t.out = []) ∧
    (supervises → Runs .islandWatchdog s fun t => locked 11 t ∧ t.saf.samples = 0 ∧ t.saf.session = none ∧
      t.saf.cfg = s.saf.cfg ∧ t.shr = {} ∧ Only [.saf, .shr, .pts, .stg, .rcd, .mbx] s t) ∧
    (∀ a b, supervises → Runs (.islandScrub a b) s fun t => t.saf.rounds = s.saf.rounds + 1 ∧
      ((a && b) = true → t.saf.state = s.saf.state ∧ Only [.saf, .pts] s t) ∧ ((a && b) = false → locked 2 t)) ∧
    (s.sys.inReset = false → s.sys.supUp = true → Runs .configConnectionFrame s fun t =>
      t.saf.heldMode = s.sys.mode.code ∧ t.saf.state = s.saf.state ∧ Only [.saf, .pts] s t ∧
      (heldOff s.sys.mode.code = true → ∀ m < 12, (t.safeOut m).demand = false)) ∧
    (s.sys.firmwareDefer = true →
      let run := s.upd.run
      (run.reason = 0 → s.sys.fuses.rollbackIsland ≤ run.header.island → Runs .islandFirmwareRestart s fun t =>
        t.sys.firmwareDefer = false ∧ t.saf.firmware = BitVec.ofNat 32 (Config.unstated 64 [run.header.crc]) ∧
        (supervises → locked 11 t) ∧ t.saf.cfg = s.saf.cfg ∧ Only [.sys, .saf, .shr, .pts, .stg, .rcd, .mbx] s t) ∧
      (run.reason ≠ 0 ∨ run.header.island < s.sys.fuses.rollbackIsland → Runs .islandFirmwareRestart s fun t =>
        t.sys = { s.sys with firmwareDefer := false } ∧ Only [.sys, .rcd] s t)) ∧
    (∀ (m : Fin 12) k high, s.safetyCfg = some k → pulseSwitch (k.outCfg m) (s.safeOut m).nextHigh = some high →
      (s.safeOut m).pulse = none → Runs (.testPulse m) s fun t =>
        let dark := (s.safeOut m).high && (s.safeOut m).low
        (t.safeOut m).pulse = some { high, dark } ∧ (t.safeOut m).high = (high != dark) ∧ (t.safeOut m).low = (high == dark) ∧
        (∀ n, n ≠ m.val → t.safeOut n = s.safeOut n) ∧ Only [.saf] s t) ∧
    (∀ (m : Fin 12) p, (s.safeOut m).pulse = some p →
      (Runs (.testPulseEnd m true) s fun t =>
        let on := p.dark || (s.safeOut m).pendingOn
        (t.safeOut m).pulse = none ∧ (t.safeOut m).high = on ∧ (t.safeOut m).low = on ∧
        (t.safeOut m).tests = (s.safeOut m).tests + 1 ∧ (t.safeOut m).nextHigh = !p.high ∧
        (∀ n, n ≠ m.val → t.safeOut n = s.safeOut n) ∧ Only [.saf] s t) ∧
      (s.saf.state = .run → Runs (.testPulseEnd m false) s fun t =>
        t.saf.state = .lockout ∧ t.saf.fault = 5 ∧ (t.safeOut m).faulted = true ∧
        ∀ n < 12, (t.safeOut n).high = false ∧ (t.safeOut n).low = false)) ∧
    (∀ m : Fin 12, ((s.safeOut m).high || (s.safeOut m).low) = true → Runs (.safetyOutputOverload m) s fun t =>
      (t.safeOut m).overload = true ∧ (t.safeOut m).high = false ∧ (t.safeOut m).low = false ∧
      (t.safeOut m).overloads = (s.safeOut m).overloads + 1 ∧ (∀ n, n ≠ m.val → t.safeOut n = s.safeOut n) ∧
      t.saf.state = s.saf.state ∧ Only [.saf, .pts] s t) ∧
    (∀ k, s.safetyCfg = some k → Runs .axisEvaluation s fun t =>
      t.saf.evals = s.saf.evals + 1 ∧ Only [.saf, .pts, .stg, .rcd, .mbx] s t ∧
      ∀ x c, k.axes[x]? = some c → (t.axis x).pA = (axisSource c.scale c.srcA s).1 ∧ (t.axis x).vA = (axisSource c.scale c.srcA s).2 ∧
        (t.axis x).pB = (axisSource c.scale c.srcB s).1 ∧ (t.axis x).vB = (axisSource c.scale c.srcB s).2) ∧
    (s.saf.state = .confirming → 30000000000 ≤ s.sys.opNs - s.saf.confirmAt → Runs .confirmationTimeout s fun t =>
      t.saf.state = s.saf.before ∧ t.saf.confirmBox = none ∧ t.saf.pending = s.saf.pending ∧ t.saf.cfg = s.saf.cfg ∧
      Only [.saf, .pts, .rcd, .mbx] s t ∧
      ∀ m, s.saf.confirmBox = some m → s.sys.supUp = true → (s.box m).isOpen = true → (t.box m).status = .timeout)

/-- Shroud (R371 to R380): a frame that passes every check in its turn is accepted with its data and moves the watchdog, a wrong CRC
is counted; a datagram hands its frames to their connections or is dropped; an expired watchdog and a silent path have their
outcomes; each unit's datagrams carry the next frames of its connections.

Concluded to answer a next state with this effect (`exec c s = .next t`): `shroudFrame`, `shroudDatagram`, `shroudWatchdogExpiry`,
`pathMissing`, `pathMissingFault`, `shroudUplinkSend`. -/
def Obligations.ShroudConnectionsRun : Prop :=
  ∀ s : State, Settled s →
    let formed := fun (k : ConnCfg) (b : List Byte) => b.length = 16 + k.length ∧ rd b 8 1 = k.length ∧ rd b 10 2 = 0 ∧ rd b 9 1 ≤ 1
    let good := fun (k : ConnCfg) (b : List Byte) => formed k b ∧ crc32c (b.take (12 + k.length)) = rd b (12 + k.length) 4 ∧
      rd b 0 4 = k.identity.toNat ∧ rd b 6 2 = k.window
    let next := fun (k : ConnCfg) (now : Nat) (b : List Byte) => (s.conn k.number).mode = .notEstablished ∨
      ((s.conn k.number).mode = .valid ∧ now ≤ (s.conn k.number).deadline ∧
        1 ≤ (rd b 4 2 + 65536 - (s.conn k.number).last) % 65536 ∧ (rd b 4 2 + 65536 - (s.conn k.number).last) % 65536 ≤ 64)
    let taken := fun (k : ConnCfg) (now : Nat) (b : List Byte) (t : State) =>
      (t.conn k.number).mode = .valid ∧ (t.conn k.number).last = rd b 4 2 ∧ (t.conn k.number).deadline = now + k.windowNs ∧
      (t.conn k.number).data = (b.drop 12).take k.length ∧ (t.conn k.number).accepted = (s.conn k.number).accepted + 1
    (∀ (c : Fin 64) (a : ShroudArrival) k, s.connCfg c = some k → k.input = true →
      (good k a.bytes → next k a.stampNs a.bytes → Runs (.shroudFrame c a) s fun t => taken k a.stampNs a.bytes t ∧
        Only [.shr, .rcd] s t ∧ ∀ n, n ≠ c.val → t.conn n = s.conn n) ∧
      (formed k a.bytes → crc32c (a.bytes.take (12 + k.length)) ≠ rd a.bytes (12 + k.length) 4 →
        a.stampNs ≤ (s.conn c).deadline → Runs (.shroudFrame c a) s fun t =>
          (t.conn c).crcErrors = (s.conn c).crcErrors + 1 ∧ (t.conn c).accepted = (s.conn c).accepted ∧
          (t.conn c).data = (s.conn c).data)) ∧
    (∀ (p : Fin 2) src b stamp,
      (s.uplinkUp p = false → Runs (.shroudDatagram p src b stamp) s fun t => Only [] s t ∧ t.out = []) ∧
      (s.uplinkUp p = true →
        (rd b 0 2 ≠ 0x5AF0 ∨ rd b 2 1 ≠ 1 ∨ rd b 4 1 ≠ p ∨ s.safetyCfg = none → Runs (.shroudDatagram p src b stamp) s fun t =>
          t.shr = { s.shr with drops := s.shr.drops + 1 } ∧ (t.uplink p).rx = (s.uplink p).rx + 1 ∧ Only [.shr, .fld] s t) ∧
        (∀ cfg k, s.safetyCfg = some cfg → rd b 0 2 = 0x5AF0 → rd b 2 1 = 1 → rd b 4 1 = p → rd b 5 1 = 1 → rd b 6 2 = 0 →
          (cfg.conns.filter fun k => k.input && k.field.isNone && k.unit == rd b 3 1 && (p.val = 0 || k.dual) &&
            (if p.val = 0 then k.addr0 else k.addr1) == src) = [k] →
          (good k (b.drop 8) → next k stamp (b.drop 8) → Runs (.shroudDatagram p src b stamp) s fun t =>
            taken k stamp (b.drop 8) t ∧ Only [.shr, .fld, .rcd] s t) ∧
          (formed k (b.drop 8) → crc32c ((b.drop 8).take (12 + k.length)) = rd (b.drop 8) (12 + k.length) 4 →
            rd (b.drop 8) 0 4 ≠ k.identity.toNat → Runs (.shroudDatagram p src b stamp) s fun t =>
              (t.conn k.number).idErrors = (s.conn k.number).idErrors + 1 ∧
              (t.conn k.number).accepted = (s.conn k.number).accepted ∧ (t.conn k.number).data = (s.conn k.number).data)))) ∧
    (∀ (c : Fin 64) k, s.connCfg c = some k → k.input = true →
      ((s.conn c).mode = .valid → (s.conn c).deadline ≤ s.islandNs → Runs (.shroudWatchdogExpiry c) s fun t =>
        (t.conn c).mode = .lost ∧ (k.opt = true → Only [.shr, .rcd] s t) ∧
        (k.opt = false → s.saf.state ≠ .confirming → t.saf.state = .lockout ∧ t.saf.fault = 8)) ∧
      (∀ p : Fin 2, s.pathSilent k p 1 = true → (if p.val = 0 then (s.conn c).miss0 else (s.conn c).miss1) = false →
        Runs (.pathMissing c p) s fun t => (t.conn c).missing = (s.conn c).missing + 1 ∧
          (if p.val = 0 then (t.conn c).miss0 else (t.conn c).miss1) = true ∧ Only [.shr, .rcd] s t) ∧
      (∀ p : Fin 2, s.pathSilent k p 3 = true → (if p.val = 0 then (s.conn c).pathFault0 else (s.conn c).pathFault1) = false →
        s.saf.state ≠ .confirming → Runs (.pathMissingFault c p) s fun t =>
          (if p.val = 0 then (t.conn c).pathFault0 else (t.conn c).pathFault1) = true ∧ t.saf.state = .lockout ∧
          t.saf.fault = 8)) ∧
    (∀ cfg, Live s → s.safetyCfg = some cfg → (cfg.conns.map (·.number)).Nodup → Runs .shroudUplinkSend s fun t =>
      Only [.shr, .fld] s t ∧ ∀ k ∈ cfg.conns, k.input = false → k.field = none →
        (t.conn k.number).outSeq = ((s.conn k.number).outSeq + 1) % 65536 ∧
        (s.uplinkUp 0 = true → ∃ a b, Output.shroudDatagram 0 a b ∈ t.out))

/-! ### Events: pair, stages, update and monitor -/

/-- The pair (R201, R386, R390 to R403): claim words, heartbeats, mirror parts and bulk items are taken or sent as their rules say;
a heartbeat confirms the items whose mirror it names (notes/assumptions/51); a complete mirror is kept and an incomplete one puts a
standby into SYNC; promotion, giving up and the self-test change role, claim and grade.

Concluded to answer a next state with this effect (`exec c s = .next t`): `claimWord`, `claimWordTimeout`, `heartbeat`,
`heartbeatSend`, `heartbeatLoss`, `stayLinkUp`, `mirrorSend`, `mirrorFrame`, `loadPoint`, `mirrorDeadline`, `bulkItem`,
`controlFrame`, `healthFrame`, `claimChangeDelayed`, `witnessPromotion`, `witnessLossGiveUp`, `automaticYield`, `selfTestSweep`,
`claimWordSend`. -/
def Obligations.PairMembersMirrorAndChangeRoles : Prop :=
  ∀ s : State, Live s →
    (∀ w : U32, let c : Byte := BitVec.ofNat 8 (w.toNat / 65536)
      (claimWordGood w = false → Runs (.claimWord w) s (Only [] s)) ∧
      (claimWordGood w = true → c.toNat % 2 = s.unitBit → Runs (.claimWord w) s fun t =>
        t.par = { s.par with looped := s.par.looped + 1 } ∧ Only [.par, .rcd] s t) ∧
      (claimWordGood w = true → c.toNat % 2 ≠ s.unitBit → Runs (.claimWord w) s fun t =>
        t.par.peer = c ∧ t.par.claimTick = some s.time.tick ∧ t.par.claimLost = false ∧ t.par.solo = false ∧
        t.par.role = s.par.role ∧ Only [.par, .stg] s t)) ∧
    (Runs .claimWordTimeout s fun t => t.par = { s.par with claimLost := true } ∧ Only [.par, .stg] s t) ∧
    (s.sys.powered = true → Runs .claimWordSend s fun t => t.out = [.claimWord (claimWordOf s.par.own)] ∧
      t.par = { s.par with words := s.par.words + 1 } ∧ Only [.par] s t) ∧
    (∀ h : HeartbeatFrame, (stayGood 1 h.frame = false ∨ s.par.stayUp = false) → Runs (.heartbeat h) s fun t =>
      Only [] s t ∧ t.out = []) ∧
    (∀ h : HeartbeatFrame, stayGood 1 h.frame = true → s.par.stayUp = true → Runs (.heartbeat h) s fun t =>
      t.par.hbTick = some s.time.tick ∧ t.par.hbLost = false ∧ t.par.peerUnit = stayUnit h.frame ∧ t.par.peerRole = h.role.toNat ∧ t.par.peerGrade = h.grade.toNat ∧
      t.par.role = s.par.role ∧ Only [.par, .mbx] s t ∧
      (∀ m, s.par.handoverBox = some m → h.role = 1 → t.par.handoverBox = none ∧
        (s.sys.supUp = true → (s.box m).isOpen = true → (t.box m).status = .done)) ∧
      (s.par.handoverBox = none → h.role = 3 → s.sys.supUp = true → ∀ x ∈ s.mbx.unconfirmed, x.tick ≤ h.lastMirror →
        (s.box x.mailbox).tag = x.tag → (s.box x.mailbox).isOpen = true → (t.box x.mailbox).status = .done)) ∧
    (s.par.stayUp = true → s.sys.supUp = true → Runs .heartbeatSend s fun t => Only [] s t ∧
      ∃ h, t.out = [.heartbeat h] ∧ h.claim = s.par.own ∧ h.lastMirror = s.par.lastMirror ∧ h.grade = BitVec.ofNat 8 s.gradeNow ∧
        h.role = BitVec.ofNat 8 s.par.role.code) ∧
    (∀ d, (d = true ∨ s.heartbeatSilent = true → Runs (.heartbeatLoss d) s fun t =>
        t.par = { s.par with hbLost := true, stayUp := s.par.stayUp && !d } ∧ Only [.par] s t) ∧
      (d = false → s.heartbeatSilent = false → Runs (.heartbeatLoss d) s (Only [] s))) ∧
    (∀ p, Runs (.stayLinkUp p) s fun t => t.par.stayUp = true ∧ t.par.peerInfo = some p ∧ Only [.par, .rcd, .mbx] s t ∧
      (s.cfg.pair.paired = true → t.par.checksOk = decide (pairCheck p s = 0))) ∧
    (s.cfg.pair.paired = true → s.par.role = .active → s.lop.released = true → s.par.stayUp = true → s.par.mirrored = false →
      s.par.snapTick + 1 = s.time.tick → Runs .mirrorSend s fun t =>
        t.par.mirrored = true ∧ t.par.lastMirror = s.par.snapTick ∧ t.par.sentParts.map (·.content) = s.par.snap ∧
        t.out = t.par.sentParts.map Output.mirror ∧ Only [.par] s t) ∧
    (∀ f : MirrorFrame, stayGood 2 f.frame = true → s.mirroring = true → stayTick f.frame + 1 = s.time.tick →
      stayPart f.frame < stayParts f.frame →
      (s.par.rxTick ≠ stayTick f.frame → Runs (.mirrorFrame f) s fun t => t.par.rxTick = stayTick f.frame ∧
        t.par.parts = [stayPart f.frame] ∧ t.par.rx = [f.content] ∧ t.par.partCount = stayParts f.frame ∧ Only [.par] s t) ∧
      (s.par.rxTick = stayTick f.frame → s.par.parts ≠ [] → s.par.parts.contains (stayPart f.frame) = false →
        Runs (.mirrorFrame f) s fun t =>
          t.par.parts = s.par.parts ++ [stayPart f.frame] ∧ t.par.rx = s.par.rx ++ [f.content] ∧ Only [.par] s t)) ∧
    (s.mirroring = true →
      (s.mirrorComplete = true → Runs .loadPoint s fun t => Only [.pts, .stg] s t ∧
        ∀ p, (p < 144 ∨ 272 ≤ p) → t.entry p = s.entry p) ∧
      (s.mirrorComplete = false → Runs .loadPoint s fun t => Only [] s t ∧
        t.out = s.missingParts.map fun i => .control (s.stayFrame 5 (s.time.tick - 1) i 1 0 []))) ∧
    (s.mirroring = true → s.par.judged ≠ some s.time.tick →
      (s.mirrorComplete = true → Runs .mirrorDeadline s fun t => Only [.par] s t ∧
        t.par = { s.par with judged := some s.time.tick, apply := some (s.par.rxTick, s.par.rxDigest, s.par.rx) }) ∧
      (s.mirrorComplete = false → s.par.role = .standby → s.par.peerIncumbentSeen = false → Runs .mirrorDeadline s fun t =>
        t.par.incomplete = s.par.incomplete + 1 ∧ t.par.role = .syncing ∧ t.effMode = .sync ∧
        Only [.par, .rcd, .sys, .stg, .upd] s t)) ∧
    (∀ frames op payload, bulkGood frames = true → s.mirroring = true → Runs (.bulkItem ⟨frames, .command op payload⟩) s fun t =>
      t.par = { s.par with instDue := s.par.instDue ++ [.command op payload] } ∧ Only [.par] s t) ∧
    (∀ frames (c : Fin 4) (k : Fin 8) v r l, bulkGood frames = true → s.mirroring = true →
      s.par.instTasks.contains (8 * c.val + k.val) = false →
      Runs (.bulkItem ⟨frames, .instanceData c k v r l⟩) s fun t => Only [.par] s t ∧ t.par = { s.par with
        instDue := s.par.instDue ++ [.instanceData c k v r l], instTasks := (8 * c.val + k.val) :: s.par.instTasks }) ∧
    (∀ frames i, bulkGood frames = false → Runs (.bulkItem ⟨frames, i⟩) s (Only [] s)) ∧
    (∀ header rest f, let b := header ++ rest; stayGood 5 b = true → s.par.stayUp = true →
      (s.par.sentParts.find? fun f => stayTick f.frame == stayTick b && stayPart f.frame == stayPart b) = some f →
      Runs (.controlFrame header rest) s fun t => t.out = [.mirror f] ∧ Only [] s t) ∧
    (∀ b (r : HealthReport), stayGood 4 b = true → s.cfg.pair.paired = true → s.par.stayUp = true →
      Runs (.healthFrame ⟨b, r⟩) s fun t =>
        t.par.peerReport = r ∧ t.par.ownReport.reportTick = s.time.tick ∧ (∃ f, t.out = [.health f t.par.ownReport]) ∧
        t.par.role = s.par.role ∧ Only [.par, .stg, .upd, .rcd] s t) ∧
    (∀ k, s.par.delayed = some k → Runs .claimChangeDelayed s fun t => t.par.delayed = none ∧ t.par.role = s.par.role ∧
      (s.sys.supUp = true → t.par.own = s.claimNow) ∧ Only [.par, .stg] s t) ∧
    (s.witnessPromotes = true → Runs .witnessPromotion s fun t => t.par.role = .handover ∧ t.par.solo = true ∧
      t.par.switches = s.par.switches + 1 ∧ t.effMode = .handover ∧ Only [.par, .prg, .sys, .rcd, .stg, .upd] s t) ∧
    (s.unsupportedNow = true → Runs .witnessLossGiveUp s fun t => t.par.role = .givenUp ∧ t.par.giveUp = 5 ∧
      Only [.par, .rcd, .stg] s t) ∧
    (s.cfg.pair.paired = true → s.par.role = .active → s.par.yieldSince.any (fun a => s.sys.opNs - a ≥ 10000000000) = true →
      Runs .automaticYield s fun t => t.par.role = .givenUp ∧ t.par.giveUp = 7 ∧ Only [.par, .rcd, .stg] s t) ∧
    (∀ x v, s.cfg.pair.paired = true → s.par.role = .standby →
      s.isRetired (stageResource (stageKind x) (stageIndex x)) = false →
      (testPass (stageKind x) v = true → Runs (.selfTestSweep x v) s fun t => Only [.par] s t ∧
        t.par.ownReport = { s.par.ownReport with testsPassed := s.par.ownReport.testsPassed + 1 }) ∧
      (testPass (stageKind x) v = false → Runs (.selfTestSweep x v) s fun t => t.par.testCap = some s.sys.opNs ∧
        t.par.grade ≤ 2 ∧ t.par.ownReport.testsFailed = s.par.ownReport.testsFailed + 1 ∧
        Only [.par, .rcd, .stg, .upd] s t))

/-- The stages (R211 to R213, R217, R219, R220, R469): what the stage finds is kept in its own status and recorded, an overload and
a wrong land are transient events, a mismatch that has stood 10 ms retires its stage, and a low DSUP acts on its group. No other
stage changes.

Concluded to answer a next state with this effect (`exec c s = .next t`): `complianceDetect`, `openLoopDetect`, `foldback`,
`readbackMismatch`, `monitorMismatch`, `digitalInputEdge`, `outputOverload`, `overloadRetry`, `openLoadDetect`, `landMismatch`,
`dsupUndervoltage`. -/
def Obligations.StagesDetectAndProtect : Prop :=
  ∀ s : State, Live s →
    (∀ i : Fin 48,
      ((s.cl i).compliance = false → (s.clCfg i).mode = 0 → (s.cl i).drive ≠ .off → Runs (.complianceDetect i true) s fun t =>
        t.cl i = { s.cl i with compliance := true, compliances := (s.cl i).compliances + 1 } ∧
        (∀ k, k ≠ i.val → t.cl k = s.cl k) ∧ Only [.stg, .rcd] s t) ∧
      ((s.cl i).compliance = true → Runs (.complianceDetect i false) s fun t =>
        t.cl i = { s.cl i with compliance := false } ∧ (∀ k, k ≠ i.val → t.cl k = s.cl k) ∧ Only [.stg, .rcd] s t) ∧
      ((s.cl i).openLoop = false → (s.clCfg i).mode = 0 → (s.cl i).drive ≠ .off → fLt (fOfNat 4) (s.cl i).applied = true →
        Runs (.openLoopDetect i true) s fun t => t.cl i = { s.cl i with openLoop := true, opens := (s.cl i).opens + 1 } ∧
          (∀ k, k ≠ i.val → t.cl k = s.cl k) ∧ Only [.stg, .rcd] s t) ∧
      ((s.cl i).openLoop = true → Runs (.openLoopDetect i false) s fun t =>
        t.cl i = { s.cl i with openLoop := false } ∧ (∀ k, k ≠ i.val → t.cl k = s.cl k) ∧ Only [.stg, .rcd] s t) ∧
      (∀ v, fLe (fOfNat 150) v = true →
        (foldbackSteps (s.sys.opNs + s.periodNs) v (s.cl i) = true → Runs (.foldback i v) s fun t =>
          t.cl i = { s.cl i with junction := v, foldback := true, limit := fMax 0 (fSub (s.cl i).limit (fRat 1 2)),
                                 foldTemp := v, foldAt := s.sys.opNs } ∧
          (∀ k, k ≠ i.val → t.cl k = s.cl k) ∧ Only [.stg, .rcd] s t) ∧
        (foldbackSteps (s.sys.opNs + s.periodNs) v (s.cl i) = false → Runs (.foldback i v) s fun t =>
          t.cl i = { s.cl i with junction := v } ∧ (∀ k, k ≠ i.val → t.cl k = s.cl k) ∧ Only [.stg] s t)) ∧
      (∀ v, fLe (fOfNat 150) v = false → fLt v (fOfNat 140) = true → (s.cl i).foldback = true → Runs (.foldback i v) s fun t =>
        t.cl i = { s.cl i with junction := v, foldback := false, limit := baseLimit (s.clCfg i).mode } ∧
        (∀ k, k ≠ i.val → t.cl k = s.cl k) ∧ Only [.stg, .rcd] s t) ∧
      (10000000 < (s.cl i).mismatch * s.periodNs → Runs (.readbackMismatch i) s fun t =>
        (t.isRetired (clResource i) || t.sys.toRetire.any (·.1 == clResource i)) = true ∧ Only [.sys] s t)) ∧
    (∀ j : Fin 16, 10000000 < (s.fao j).mismatchNs → Runs (.monitorMismatch j) s fun t =>
      (t.isRetired (faoResource j) || t.sys.toRetire.any (·.1 == faoResource j)) = true ∧ Only [.sys] s t) ∧
    (∀ (d : Fin 64),
      (∀ level sub, (s.dioCfg d).output = false → (s.dio d).level ≠ level → Runs (.digitalInputEdge d level sub) s fun t =>
        (t.dio d).level = level ∧ (t.dio d).edges = (s.dio d).edges + 1 ∧
        (t.dio d).lastEdge = some (sub / 1000 * 1000) ∧ (t.dio d).rose = ((s.dio d).rose || level) ∧
        (t.dio d).fell = ((s.dio d).fell || !level) ∧ (∀ k, k ≠ d.val → t.dio k = s.dio k) ∧ Only [.stg] s t) ∧
      ((s.dioCfg d).output = true → (s.dio d).level = true → (s.dio d).overload = false → Runs (.outputOverload d) s fun t =>
        t.dio d = { s.dio d with overload := true, level := false, overloads := (s.dio d).overloads + 1, overloadAt := s.sys.opNs } ∧
        (∀ k, k ≠ d.val → t.dio k = s.dio k) ∧ Only [.stg, .sys, .rcd] s t) ∧
      ((s.dioCfg d).output = true → (s.dio d).overload = true → (s.dio d).drive ≠ .off →
        (if (s.dio d).drive = .held then (s.dio d).command else (s.dioCommand d).getD false) = true →
        (s.dio d).overloadAt + 100000000 < s.sys.opNs + s.periodNs → Runs (.overloadRetry d) s fun t =>
          t.dio d = { s.dio d with overload := false, level := true } ∧
          (∀ k, k ≠ d.val → t.dio k = s.dio k) ∧ Only [.stg] s t) ∧
      ((s.dioCfg d).output = true → (s.dioCfg d).openLoad = true → (s.dio d).level = true → Runs (.openLoadDetect d) s fun t =>
        t.dio d = { s.dio d with openLoad := true } ∧ (∀ k, k ≠ d.val → t.dio k = s.dio k) ∧ Only [.stg] s t) ∧
      ((s.dioCfg d).output = true → (s.dio d).lineClosed = true → (s.dio d).overload = false →
        s.stg.dsupLow.contains (d.val / 8) = false → s.isRetired (dioResource d) = false → Runs (.landMismatch d) s fun t =>
          (t.sys.counters.getD (dioResource d) {}).total = (s.sys.counters.getD (dioResource d) {}).total + 1 ∧
          Only [.sys, .rcd] s t)) ∧
    (∀ (g : Fin 8) below, s.stg.dsupLow.contains g.val = !below → Runs (.dsupUndervoltage g below) s fun t =>
      t.stg.dsupLow.contains g.val = below ∧ t.stg.cl = s.stg.cl ∧ t.stg.fao = s.stg.fao ∧
      (∀ d, d / 8 ≠ g.val → t.dio d = s.dio d) ∧ Only [.stg, .rcd] s t)

/-- Activation, confirmation and rejection (R419 to R424): at its deadline a schedule is judged, and at a_t − 1 the unit proceeds or
defers with its reason; a proceeding unit restarts at a_t; RUN is confirmed when its grade has held, and rejected when the window
closes.

Concluded to answer a next state with this effect (`exec c s = .next t`): `activationDeadline`, `activationProceed`,
`activationRestart`, `autoConfirm`, `confirmationWindowClose`. -/
def Obligations.ActivationsProceedOrDefer : Prop :=
  ∀ s : State, Live s →
    (∀ x, s.upd.schedule = some x → x.proceeding = false → s.deadline x ≤ s.time.tick → Runs .activationDeadline s fun t =>
      t.upd = { s.upd with schedule := some { x with
        judged := true, readyNow := s.notReady x.members.toNat = 0 && (x.readyNow || !x.judged) } } ∧ Only [.upd] s t) ∧
    (∀ x, s.upd.schedule = some x → x.proceeding = false → s.time.tick + 1 = x.at_ →
      (s.whyDefer x = 0 → Runs .activationProceed s fun t =>
        t.upd = { s.upd with schedule := some { x with proceeding := true } } ∧ Only [.upd] s t) ∧
      (s.whyDefer x ≠ 0 → Runs .activationProceed s fun t =>
        t.upd = { s.upd with schedule := none, lastDefer := s.whyDefer x } ∧ Only [.upd, .rcd] s t)) ∧
    (∀ x, s.upd.schedule = some x → x.proceeding = true → s.time.tick = x.at_ →
      (s.effMode ≠ .handover → s.cfg.timeRole = 0 → s.sys.mode ≠ .halt → Runs .activationRestart s fun t =>
        t.sys.mode = .boot ∧ t.sys.startCount = s.sys.startCount + 1 ∧ t.upd.journal = some 0 ∧ t.upd.schedule = none ∧
        t.upd.auto = x.auto ∧ t.upd.autoHold = x.hold ∧ t.cfg = s.cfg) ∧
      (s.effMode = .handover → Runs .activationRestart s fun t =>
        t.upd = { s.upd with schedule := none, lastDefer := 6 } ∧ Only [.upd, .rcd] s t)) ∧
    (s.autoDue = true → ∀ c, c = Instr.autoConfirm ∨ (c = .confirmationWindowClose ∧
        s.upd.window.any (fun w => s.sys.opNs - w ≥ 600000000000) = true) → Runs c s fun t =>
      t.upd.run = { s.upd.run with state := .confirmed } ∧ t.upd.window = none ∧
      t.sys.fuses.rollbackModule = max s.sys.fuses.rollbackModule s.upd.run.header.rollback ∧ Only [.upd, .sys, .rcd] s t) ∧
    (s.upd.window.any (fun w => s.sys.opNs - w ≥ 600000000000) = true → s.upd.run.state = .unconfirmed → s.autoDue = false →
      Runs .confirmationWindowClose s fun t =>
        t.upd.run = { s.upd.run with state := .rejected } ∧ t.upd.window = none ∧ Only [.upd, .rcd] s t)

/-- The Amest monitor (R480 to R483): while it serves, each command prints its lines, each ended by CR LF, and the prompt, ends a
running TICK output and changes nothing else; while debug_lock reads as set only HELP and ID are answered, and a command outside its
modes prints no line (notes/assumptions/39). While TICK runs, a line is printed every second of tool time until a character comes.

Concluded to answer a next state with this effect (`exec c s = .next t`): `monHelp`, `monId`, `monMode`, `monHealth`, `monTick`,
`monitorTickLine`, `monPt`, `monRec`, `monTrace`, `monitorCharacterReceived`. -/
def Obligations.MonitorPrintsAndChangesNothing : Prop :=
  ∀ s : State, Live s → s.monitorServes = true →
    let prints := fun (lines : List String) (t : State) => t.out = (lines.map endLine ++ ["amest> "]).map Output.monitor ∧
      t.mon = { s.mon with ticking := false } ∧ Only [.mon] s t
    let dark := s.sys.mode = .boot ∨ s.sys.mode = .activate
    (Runs (.monHelp .unknown) s (prints ["ERR unknown"])) ∧ (Runs (.monHelp .tooLong) s (prints ["ERR long"])) ∧
    (s.debugLocked = false → ¬ dark → Runs (.monHelp .known) s (prints ["HELP ID MODE HEALTH TICK PT REC TRACE"])) ∧
    (s.debugLocked = true → Runs (.monHelp .known) s (prints ["HELP ID"])) ∧
    (Runs .monId s (prints [idText s])) ∧
    (s.debugLocked = true → ∀ c, c = Instr.monMode ∨ c = .monHealth ∨ c = .monTick ∨ c = .monTrace ∨ (∃ p n, c = .monPt p n) ∨
      (∃ n, c = .monRec n) → Runs c s (prints ["ERR locked"])) ∧
    (s.debugLocked = false → Runs .monMode s (prints [modeText s]) ∧ Runs .monTrace s (prints s.mon.trace)) ∧
    (s.debugLocked = false → dark → ∀ c, c = Instr.monHealth ∨ c = .monTick ∨ (∃ p n, c = .monPt p n) ∨ (∃ n, c = .monRec n) →
      Runs c s (prints [])) ∧
    (s.debugLocked = false → ¬ dark → Runs .monHealth s (prints [healthText s]) ∧
      (∀ p n, 1 ≤ n → n ≤ 16 → (s.nativePoint p).isSome = true →
        Runs (.monPt p (some n)) s (prints ((rangeOf p n).flatMap (pointText s)))) ∧
      (∀ n, 1 ≤ n → n ≤ 16 → Runs (.monRec (some n)) s
        (prints ((s.rcd.general.reverse.take n).map fun r => hexText 128 (unbe r.bytes)))) ∧
      Runs .monTick s fun t => t.mon = { s.mon with ticking := true, lineAt := none } ∧ Only [.mon] s t) ∧
    (s.mon.ticking = true → (∀ c, Runs (.monitorCharacterReceived c) s (prints [])) ∧
      (s.lineDue = true → Runs .monitorTickLine s fun t => t.mon = { s.mon with lineAt := some s.toolNs } ∧ Only [.mon] s t ∧
        t.out = [.monitor (endLine ("TICK " ++ toString s.lastTick ++ " " ++ toString s.time.state.code))])) ∧
    (s.mon.ticking = false → ∀ c, c = Instr.monitorTickLine ∨ (∃ b, c = .monitorCharacterReceived b) → Runs c s fun t =>
      Only [] s t ∧ t.out = [])
end

