-- ==== Sys2Proof/Laws/Table.lean ====
section
/-! SUPPORT. The laws of sparse tables: a read after a write, entries a write leaves alone, and the canonical form, which
every operation keeps. -/

namespace Sys2Proof.Machine

theorem cellsFind_put_same {α : Type} (i : Nat) (v : α) (l : List (Nat × α)) : cellsFind i (cellsPut i v l) = some v := by
  induction l with
  | nil => simp [cellsPut, cellsFind]
  | cons c l ih =>
    obtain ⟨k, w⟩ := c
    by_cases h : i < k
    · simp [cellsPut, h, cellsFind]
    · by_cases e : i = k
      · simp [cellsPut, e, cellsFind]
      · have e' : k ≠ i := fun x => e x.symm
        simp [cellsPut, h, e, cellsFind, e', ih]

theorem cellsFind_put_other {α : Type} {i j : Nat} (v : α) (l : List (Nat × α)) (h : j ≠ i) :
    cellsFind j (cellsPut i v l) = cellsFind j l := by
  have h' : i ≠ j := fun x => h x.symm
  induction l with
  | nil => simp [cellsPut, cellsFind, h']
  | cons c l ih =>
    obtain ⟨k, w⟩ := c
    by_cases a : i < k
    · simp [cellsPut, a, cellsFind, h']
    · by_cases e : i = k
      · subst e
        simp [cellsPut, cellsFind, h']
      · simp [cellsPut, a, e, cellsFind, ih]

theorem cellsFind_del_other {α : Type} {i j : Nat} (l : List (Nat × α)) (h : j ≠ i) :
    cellsFind j (cellsDel i l) = cellsFind j l := by
  have h' : i ≠ j := fun x => h x.symm
  induction l with
  | nil => rfl
  | cons c l ih =>
    obtain ⟨k, w⟩ := c
    by_cases e : i = k
    · subst e
      simp [cellsDel, cellsFind, h']
    · simp [cellsDel, e, cellsFind, ih]

@[simp] theorem Tab.find_put_same {α : Type} (t : Tab α) (i : Nat) (v : α) : (t.put i v).find i = some v :=
  cellsFind_put_same i v t.cells

theorem Tab.find_put_other {α : Type} (t : Tab α) {i j : Nat} (v : α) (h : j ≠ i) : (t.put i v).find j = t.find j :=
  cellsFind_put_other v t.cells h

theorem Tab.find_del_other {α : Type} (t : Tab α) {i j : Nat} (h : j ≠ i) : (t.del i).find j = t.find j :=
  cellsFind_del_other t.cells h

@[simp] theorem Tab.getD_put_same {α : Type} (t : Tab α) (i : Nat) (v d : α) : (t.put i v).getD i d = v := by
  simp [Tab.getD]

theorem Tab.getD_put_other {α : Type} (t : Tab α) {i j : Nat} (v d : α) (h : j ≠ i) :
    (t.put i v).getD j d = t.getD j d := by
  simp [Tab.getD, Tab.find_put_other t v h]

@[simp] theorem Tab.getD_upd_same {α : Type} (t : Tab α) (i : Nat) (d : α) (f : α → α) :
    (t.upd i d f).getD i d = f (t.getD i d) := Tab.getD_put_same _ _ _ _

theorem Tab.getD_upd_other {α : Type} (t : Tab α) {i j : Nat} (d : α) (f : α → α) (h : j ≠ i) :
    (t.upd i d f).getD j d = t.getD j d := Tab.getD_put_other _ _ _ h

/-! ### The canonical form -/

theorem cellsPut_keys {α : Type} (i : Nat) (v : α) (l : List (Nat × α)) (k : Nat) :
    k ∈ (cellsPut i v l).map (·.1) → k = i ∨ k ∈ l.map (·.1) := by
  induction l with
  | nil => simp [cellsPut]
  | cons c l ih =>
    obtain ⟨x, w⟩ := c
    unfold cellsPut
    split
    · simp
    · split
      · rename_i e
        subst e
        simp
      · simp only [List.map_cons, List.mem_cons]
        rintro (h | h)
        · exact .inr (.inl h)
        · exact (ih h).imp id .inr

theorem cellsPut_sorted {α : Type} (i : Nat) (v : α) (l : List (Nat × α)) (h : (l.map (·.1)).Pairwise (· < ·)) :
    ((cellsPut i v l).map (·.1)).Pairwise (· < ·) := by
  induction l with
  | nil => simp [cellsPut]
  | cons c l ih =>
    obtain ⟨x, w⟩ := c
    simp only [List.map_cons, List.pairwise_cons] at h
    obtain ⟨h1, h2⟩ := h
    unfold cellsPut
    split
    · rename_i a
      simp only [List.map_cons, List.pairwise_cons, List.mem_cons]
      refine ⟨?_, h1, h2⟩
      rintro y (rfl | hy)
      · exact a
      · exact Nat.lt_trans a (h1 y hy)
    · split
      · rename_i e
        subst e
        simp only [List.map_cons, List.pairwise_cons]
        exact ⟨h1, h2⟩
      · rename_i a e
        simp only [List.map_cons, List.pairwise_cons]
        refine ⟨fun y hy => ?_, ih h2⟩
        rcases cellsPut_keys i v l y hy with rfl | hy
        · omega
        · exact h1 y hy

theorem cellsDel_mem {α : Type} (i : Nat) (l : List (Nat × α)) (k : Nat) :
    k ∈ (cellsDel i l).map (·.1) → k ∈ l.map (·.1) := by
  induction l with
  | nil => simp [cellsDel]
  | cons c l ih =>
    obtain ⟨x, w⟩ := c
    unfold cellsDel
    split
    · intro h
      exact List.mem_cons_of_mem _ h
    · simp only [List.map_cons, List.mem_cons]
      exact Or.imp id ih

theorem cellsDel_sorted {α : Type} (i : Nat) (l : List (Nat × α)) (h : (l.map (·.1)).Pairwise (· < ·)) :
    ((cellsDel i l).map (·.1)).Pairwise (· < ·) := by
  induction l with
  | nil => simp [cellsDel]
  | cons c l ih =>
    obtain ⟨x, w⟩ := c
    simp only [List.map_cons, List.pairwise_cons] at h
    unfold cellsDel
    split
    · exact h.2
    · simp only [List.map_cons, List.pairwise_cons]
      exact ⟨fun y hy => h.1 y (cellsDel_mem i l y hy), ih h.2⟩

theorem Tab.put_sorted {α : Type} {t : Tab α} (i : Nat) (v : α) (h : t.Sorted) : (t.put i v).Sorted :=
  cellsPut_sorted i v t.cells h

theorem Tab.del_sorted {α : Type} {t : Tab α} (i : Nat) (h : t.Sorted) : (t.del i).Sorted := cellsDel_sorted i t.cells h

theorem Tab.upd_sorted {α : Type} {t : Tab α} (i : Nat) (d : α) (f : α → α) (h : t.Sorted) : (t.upd i d f).Sorted :=
  Tab.put_sorted _ _ h

theorem Tab.putList_sorted {α : Type} (l : List α) {t : Tab α} (i : Nat) (h : t.Sorted) : (t.putList i l).Sorted := by
  induction l generalizing t i with
  | nil => exact h
  | cons v l ih => exact ih _ (Tab.put_sorted _ _ h)

theorem Tab.ofList_sorted {α : Type} (l : List α) : (Tab.ofList l).Sorted := by
  suffices h : ∀ n, ((l.zipIdx n).map (·.2)).Pairwise (· < ·) by
    simpa [Tab.Sorted, Tab.ofList, List.map_map, Function.comp_def] using h 0
  induction l with
  | nil => simp
  | cons a l ih =>
    intro n
    simp only [List.zipIdx_cons, List.map_cons, List.pairwise_cons]
    refine ⟨fun y hy => ?_, ih _⟩
    obtain ⟨⟨v, k⟩, hk, rfl⟩ := List.mem_map.1 hy
    have := List.le_snd_of_mem_zipIdx hk
    exact this

theorem Tab.empty_sorted {α : Type} : ({} : Tab α).Sorted := List.Pairwise.nil

/-! ### Folds -/

/-- What every step of a fold keeps, the fold keeps. -/
theorem forAll_keeps {α β : Type} {P : β → Prop} {f : α → β → β} (l : List α) (h : ∀ a b, a ∈ l → P b → P (f a b)) {b : β}
    (hb : P b) : P (forAll l f b) := by
  unfold forAll
  induction l generalizing b with
  | nil => exact hb
  | cons a l ih =>
    exact ih (fun a' b' ha hb' => h a' b' (List.mem_cons_of_mem _ ha) hb') (h a b List.mem_cons_self hb)

/-- What no step of a fold changes, the fold does not change. -/
theorem forAll_same {α β γ : Type} (g : β → γ) {f : α → β → β} (l : List α) (h : ∀ a b, g (f a b) = g b) (b : β) :
    g (forAll l f b) = g b :=
  forAll_keeps (P := fun x => g x = g b) l (fun a b' _ hb => (h a b').trans hb) rfl

/-- A fold none of whose steps changes anything. -/
theorem forAll_id {α β : Type} {f : α → β → β} (l : List α) (b : β) (h : ∀ a ∈ l, f a b = b) : forAll l f b = b := by
  unfold forAll
  induction l with
  | nil => rfl
  | cons a l ih =>
    rw [List.foldl_cons, h a List.mem_cons_self]
    exact ih fun a' ha => h a' (List.mem_cons_of_mem _ ha)

end Sys2Proof.Machine
end

