-- ==== Sys2Proof/Laws/State.lean ====
section
/-! SUPPORT. What each update of one part of the state leaves of every part, and what it makes of its own: one lemma per
field per update. -/

namespace Sys2Proof.Machine

/-! ### updBox -/

@[simp] theorem updBox_pending (m : Nat) (f : Mailbox → Mailbox) (s : State) : (updBox m f s).pending = s.pending := rfl
@[simp] theorem updBox_cfg (m : Nat) (f : Mailbox → Mailbox) (s : State) : (updBox m f s).cfg = s.cfg := rfl
@[simp] theorem updBox_sys (m : Nat) (f : Mailbox → Mailbox) (s : State) : (updBox m f s).sys = s.sys := rfl
@[simp] theorem updBox_time (m : Nat) (f : Mailbox → Mailbox) (s : State) : (updBox m f s).time = s.time := rfl
@[simp] theorem updBox_pts (m : Nat) (f : Mailbox → Mailbox) (s : State) : (updBox m f s).pts = s.pts := rfl
@[simp] theorem updBox_ain (m : Nat) (f : Mailbox → Mailbox) (s : State) : (updBox m f s).ain = s.ain := rfl
@[simp] theorem updBox_fld (m : Nat) (f : Mailbox → Mailbox) (s : State) : (updBox m f s).fld = s.fld := rfl
@[simp] theorem updBox_lop (m : Nat) (f : Mailbox → Mailbox) (s : State) : (updBox m f s).lop = s.lop := rfl
@[simp] theorem updBox_rmp (m : Nat) (f : Mailbox → Mailbox) (s : State) : (updBox m f s).rmp = s.rmp := rfl
@[simp] theorem updBox_stg (m : Nat) (f : Mailbox → Mailbox) (s : State) : (updBox m f s).stg = s.stg := rfl
@[simp] theorem updBox_sqn (m : Nat) (f : Mailbox → Mailbox) (s : State) : (updBox m f s).sqn = s.sqn := rfl
@[simp] theorem updBox_prg (m : Nat) (f : Mailbox → Mailbox) (s : State) : (updBox m f s).prg = s.prg := rfl
@[simp] theorem updBox_acq (m : Nat) (f : Mailbox → Mailbox) (s : State) : (updBox m f s).acq = s.acq := rfl
@[simp] theorem updBox_rcd (m : Nat) (f : Mailbox → Mailbox) (s : State) : (updBox m f s).rcd = s.rcd := rfl
@[simp] theorem updBox_saf (m : Nat) (f : Mailbox → Mailbox) (s : State) : (updBox m f s).saf = s.saf := rfl
@[simp] theorem updBox_shr (m : Nat) (f : Mailbox → Mailbox) (s : State) : (updBox m f s).shr = s.shr := rfl
@[simp] theorem updBox_par (m : Nat) (f : Mailbox → Mailbox) (s : State) : (updBox m f s).par = s.par := rfl
@[simp] theorem updBox_upd (m : Nat) (f : Mailbox → Mailbox) (s : State) : (updBox m f s).upd = s.upd := rfl
@[simp] theorem updBox_mon (m : Nat) (f : Mailbox → Mailbox) (s : State) : (updBox m f s).mon = s.mon := rfl
@[simp] theorem updBox_out (m : Nat) (f : Mailbox → Mailbox) (s : State) : (updBox m f s).out = s.out := rfl

/-! ### updGroup -/

@[simp] theorem updGroup_pending (g : Nat) (f : Group → Group) (s : State) : (updGroup g f s).pending = s.pending := rfl
@[simp] theorem updGroup_cfg (g : Nat) (f : Group → Group) (s : State) : (updGroup g f s).cfg = s.cfg := rfl
@[simp] theorem updGroup_sys (g : Nat) (f : Group → Group) (s : State) : (updGroup g f s).sys = s.sys := rfl
@[simp] theorem updGroup_time (g : Nat) (f : Group → Group) (s : State) : (updGroup g f s).time = s.time := rfl
@[simp] theorem updGroup_mbx (g : Nat) (f : Group → Group) (s : State) : (updGroup g f s).mbx = s.mbx := rfl
@[simp] theorem updGroup_pts (g : Nat) (f : Group → Group) (s : State) : (updGroup g f s).pts = s.pts := rfl
@[simp] theorem updGroup_fld (g : Nat) (f : Group → Group) (s : State) : (updGroup g f s).fld = s.fld := rfl
@[simp] theorem updGroup_lop (g : Nat) (f : Group → Group) (s : State) : (updGroup g f s).lop = s.lop := rfl
@[simp] theorem updGroup_rmp (g : Nat) (f : Group → Group) (s : State) : (updGroup g f s).rmp = s.rmp := rfl
@[simp] theorem updGroup_stg (g : Nat) (f : Group → Group) (s : State) : (updGroup g f s).stg = s.stg := rfl
@[simp] theorem updGroup_sqn (g : Nat) (f : Group → Group) (s : State) : (updGroup g f s).sqn = s.sqn := rfl
@[simp] theorem updGroup_prg (g : Nat) (f : Group → Group) (s : State) : (updGroup g f s).prg = s.prg := rfl
@[simp] theorem updGroup_acq (g : Nat) (f : Group → Group) (s : State) : (updGroup g f s).acq = s.acq := rfl
@[simp] theorem updGroup_rcd (g : Nat) (f : Group → Group) (s : State) : (updGroup g f s).rcd = s.rcd := rfl
@[simp] theorem updGroup_saf (g : Nat) (f : Group → Group) (s : State) : (updGroup g f s).saf = s.saf := rfl
@[simp] theorem updGroup_shr (g : Nat) (f : Group → Group) (s : State) : (updGroup g f s).shr = s.shr := rfl
@[simp] theorem updGroup_par (g : Nat) (f : Group → Group) (s : State) : (updGroup g f s).par = s.par := rfl
@[simp] theorem updGroup_upd (g : Nat) (f : Group → Group) (s : State) : (updGroup g f s).upd = s.upd := rfl
@[simp] theorem updGroup_mon (g : Nat) (f : Group → Group) (s : State) : (updGroup g f s).mon = s.mon := rfl
@[simp] theorem updGroup_out (g : Nat) (f : Group → Group) (s : State) : (updGroup g f s).out = s.out := rfl

/-! ### updChannel -/

@[simp] theorem updChannel_pending (c : Nat) (f : Channel → Channel) (s : State) : (updChannel c f s).pending = s.pending := rfl
@[simp] theorem updChannel_cfg (c : Nat) (f : Channel → Channel) (s : State) : (updChannel c f s).cfg = s.cfg := rfl
@[simp] theorem updChannel_sys (c : Nat) (f : Channel → Channel) (s : State) : (updChannel c f s).sys = s.sys := rfl
@[simp] theorem updChannel_time (c : Nat) (f : Channel → Channel) (s : State) : (updChannel c f s).time = s.time := rfl
@[simp] theorem updChannel_mbx (c : Nat) (f : Channel → Channel) (s : State) : (updChannel c f s).mbx = s.mbx := rfl
@[simp] theorem updChannel_pts (c : Nat) (f : Channel → Channel) (s : State) : (updChannel c f s).pts = s.pts := rfl
@[simp] theorem updChannel_fld (c : Nat) (f : Channel → Channel) (s : State) : (updChannel c f s).fld = s.fld := rfl
@[simp] theorem updChannel_lop (c : Nat) (f : Channel → Channel) (s : State) : (updChannel c f s).lop = s.lop := rfl
@[simp] theorem updChannel_rmp (c : Nat) (f : Channel → Channel) (s : State) : (updChannel c f s).rmp = s.rmp := rfl
@[simp] theorem updChannel_stg (c : Nat) (f : Channel → Channel) (s : State) : (updChannel c f s).stg = s.stg := rfl
@[simp] theorem updChannel_sqn (c : Nat) (f : Channel → Channel) (s : State) : (updChannel c f s).sqn = s.sqn := rfl
@[simp] theorem updChannel_prg (c : Nat) (f : Channel → Channel) (s : State) : (updChannel c f s).prg = s.prg := rfl
@[simp] theorem updChannel_acq (c : Nat) (f : Channel → Channel) (s : State) : (updChannel c f s).acq = s.acq := rfl
@[simp] theorem updChannel_rcd (c : Nat) (f : Channel → Channel) (s : State) : (updChannel c f s).rcd = s.rcd := rfl
@[simp] theorem updChannel_saf (c : Nat) (f : Channel → Channel) (s : State) : (updChannel c f s).saf = s.saf := rfl
@[simp] theorem updChannel_shr (c : Nat) (f : Channel → Channel) (s : State) : (updChannel c f s).shr = s.shr := rfl
@[simp] theorem updChannel_par (c : Nat) (f : Channel → Channel) (s : State) : (updChannel c f s).par = s.par := rfl
@[simp] theorem updChannel_upd (c : Nat) (f : Channel → Channel) (s : State) : (updChannel c f s).upd = s.upd := rfl
@[simp] theorem updChannel_mon (c : Nat) (f : Channel → Channel) (s : State) : (updChannel c f s).mon = s.mon := rfl
@[simp] theorem updChannel_out (c : Nat) (f : Channel → Channel) (s : State) : (updChannel c f s).out = s.out := rfl

/-! ### updPort -/

@[simp] theorem updPort_pending (n : Nat) (f : Port → Port) (s : State) : (updPort n f s).pending = s.pending := rfl
@[simp] theorem updPort_cfg (n : Nat) (f : Port → Port) (s : State) : (updPort n f s).cfg = s.cfg := rfl
@[simp] theorem updPort_sys (n : Nat) (f : Port → Port) (s : State) : (updPort n f s).sys = s.sys := rfl
@[simp] theorem updPort_time (n : Nat) (f : Port → Port) (s : State) : (updPort n f s).time = s.time := rfl
@[simp] theorem updPort_mbx (n : Nat) (f : Port → Port) (s : State) : (updPort n f s).mbx = s.mbx := rfl
@[simp] theorem updPort_pts (n : Nat) (f : Port → Port) (s : State) : (updPort n f s).pts = s.pts := rfl
@[simp] theorem updPort_ain (n : Nat) (f : Port → Port) (s : State) : (updPort n f s).ain = s.ain := rfl
@[simp] theorem updPort_lop (n : Nat) (f : Port → Port) (s : State) : (updPort n f s).lop = s.lop := rfl
@[simp] theorem updPort_rmp (n : Nat) (f : Port → Port) (s : State) : (updPort n f s).rmp = s.rmp := rfl
@[simp] theorem updPort_stg (n : Nat) (f : Port → Port) (s : State) : (updPort n f s).stg = s.stg := rfl
@[simp] theorem updPort_sqn (n : Nat) (f : Port → Port) (s : State) : (updPort n f s).sqn = s.sqn := rfl
@[simp] theorem updPort_prg (n : Nat) (f : Port → Port) (s : State) : (updPort n f s).prg = s.prg := rfl
@[simp] theorem updPort_acq (n : Nat) (f : Port → Port) (s : State) : (updPort n f s).acq = s.acq := rfl
@[simp] theorem updPort_rcd (n : Nat) (f : Port → Port) (s : State) : (updPort n f s).rcd = s.rcd := rfl
@[simp] theorem updPort_saf (n : Nat) (f : Port → Port) (s : State) : (updPort n f s).saf = s.saf := rfl
@[simp] theorem updPort_shr (n : Nat) (f : Port → Port) (s : State) : (updPort n f s).shr = s.shr := rfl
@[simp] theorem updPort_par (n : Nat) (f : Port → Port) (s : State) : (updPort n f s).par = s.par := rfl
@[simp] theorem updPort_upd (n : Nat) (f : Port → Port) (s : State) : (updPort n f s).upd = s.upd := rfl
@[simp] theorem updPort_mon (n : Nat) (f : Port → Port) (s : State) : (updPort n f s).mon = s.mon := rfl
@[simp] theorem updPort_out (n : Nat) (f : Port → Port) (s : State) : (updPort n f s).out = s.out := rfl

/-! ### updUplink -/

@[simp] theorem updUplink_pending (u : Nat) (f : Uplink → Uplink) (s : State) : (updUplink u f s).pending = s.pending := rfl
@[simp] theorem updUplink_cfg (u : Nat) (f : Uplink → Uplink) (s : State) : (updUplink u f s).cfg = s.cfg := rfl
@[simp] theorem updUplink_sys (u : Nat) (f : Uplink → Uplink) (s : State) : (updUplink u f s).sys = s.sys := rfl
@[simp] theorem updUplink_time (u : Nat) (f : Uplink → Uplink) (s : State) : (updUplink u f s).time = s.time := rfl
@[simp] theorem updUplink_mbx (u : Nat) (f : Uplink → Uplink) (s : State) : (updUplink u f s).mbx = s.mbx := rfl
@[simp] theorem updUplink_pts (u : Nat) (f : Uplink → Uplink) (s : State) : (updUplink u f s).pts = s.pts := rfl
@[simp] theorem updUplink_ain (u : Nat) (f : Uplink → Uplink) (s : State) : (updUplink u f s).ain = s.ain := rfl
@[simp] theorem updUplink_lop (u : Nat) (f : Uplink → Uplink) (s : State) : (updUplink u f s).lop = s.lop := rfl
@[simp] theorem updUplink_rmp (u : Nat) (f : Uplink → Uplink) (s : State) : (updUplink u f s).rmp = s.rmp := rfl
@[simp] theorem updUplink_stg (u : Nat) (f : Uplink → Uplink) (s : State) : (updUplink u f s).stg = s.stg := rfl
@[simp] theorem updUplink_sqn (u : Nat) (f : Uplink → Uplink) (s : State) : (updUplink u f s).sqn = s.sqn := rfl
@[simp] theorem updUplink_prg (u : Nat) (f : Uplink → Uplink) (s : State) : (updUplink u f s).prg = s.prg := rfl
@[simp] theorem updUplink_acq (u : Nat) (f : Uplink → Uplink) (s : State) : (updUplink u f s).acq = s.acq := rfl
@[simp] theorem updUplink_rcd (u : Nat) (f : Uplink → Uplink) (s : State) : (updUplink u f s).rcd = s.rcd := rfl
@[simp] theorem updUplink_saf (u : Nat) (f : Uplink → Uplink) (s : State) : (updUplink u f s).saf = s.saf := rfl
@[simp] theorem updUplink_shr (u : Nat) (f : Uplink → Uplink) (s : State) : (updUplink u f s).shr = s.shr := rfl
@[simp] theorem updUplink_par (u : Nat) (f : Uplink → Uplink) (s : State) : (updUplink u f s).par = s.par := rfl
@[simp] theorem updUplink_upd (u : Nat) (f : Uplink → Uplink) (s : State) : (updUplink u f s).upd = s.upd := rfl
@[simp] theorem updUplink_mon (u : Nat) (f : Uplink → Uplink) (s : State) : (updUplink u f s).mon = s.mon := rfl
@[simp] theorem updUplink_out (u : Nat) (f : Uplink → Uplink) (s : State) : (updUplink u f s).out = s.out := rfl

/-! ### updPair -/

@[simp] theorem updPair_pending (n : Nat) (f : InPair → InPair) (s : State) : (updPair n f s).pending = s.pending := rfl
@[simp] theorem updPair_cfg (n : Nat) (f : InPair → InPair) (s : State) : (updPair n f s).cfg = s.cfg := rfl
@[simp] theorem updPair_sys (n : Nat) (f : InPair → InPair) (s : State) : (updPair n f s).sys = s.sys := rfl
@[simp] theorem updPair_time (n : Nat) (f : InPair → InPair) (s : State) : (updPair n f s).time = s.time := rfl
@[simp] theorem updPair_mbx (n : Nat) (f : InPair → InPair) (s : State) : (updPair n f s).mbx = s.mbx := rfl
@[simp] theorem updPair_pts (n : Nat) (f : InPair → InPair) (s : State) : (updPair n f s).pts = s.pts := rfl
@[simp] theorem updPair_ain (n : Nat) (f : InPair → InPair) (s : State) : (updPair n f s).ain = s.ain := rfl
@[simp] theorem updPair_fld (n : Nat) (f : InPair → InPair) (s : State) : (updPair n f s).fld = s.fld := rfl
@[simp] theorem updPair_lop (n : Nat) (f : InPair → InPair) (s : State) : (updPair n f s).lop = s.lop := rfl
@[simp] theorem updPair_rmp (n : Nat) (f : InPair → InPair) (s : State) : (updPair n f s).rmp = s.rmp := rfl
@[simp] theorem updPair_stg (n : Nat) (f : InPair → InPair) (s : State) : (updPair n f s).stg = s.stg := rfl
@[simp] theorem updPair_sqn (n : Nat) (f : InPair → InPair) (s : State) : (updPair n f s).sqn = s.sqn := rfl
@[simp] theorem updPair_prg (n : Nat) (f : InPair → InPair) (s : State) : (updPair n f s).prg = s.prg := rfl
@[simp] theorem updPair_acq (n : Nat) (f : InPair → InPair) (s : State) : (updPair n f s).acq = s.acq := rfl
@[simp] theorem updPair_rcd (n : Nat) (f : InPair → InPair) (s : State) : (updPair n f s).rcd = s.rcd := rfl
@[simp] theorem updPair_shr (n : Nat) (f : InPair → InPair) (s : State) : (updPair n f s).shr = s.shr := rfl
@[simp] theorem updPair_par (n : Nat) (f : InPair → InPair) (s : State) : (updPair n f s).par = s.par := rfl
@[simp] theorem updPair_upd (n : Nat) (f : InPair → InPair) (s : State) : (updPair n f s).upd = s.upd := rfl
@[simp] theorem updPair_mon (n : Nat) (f : InPair → InPair) (s : State) : (updPair n f s).mon = s.mon := rfl
@[simp] theorem updPair_out (n : Nat) (f : InPair → InPair) (s : State) : (updPair n f s).out = s.out := rfl

/-! ### updOut -/

@[simp] theorem updOut_pending (m : Nat) (f : SafeOut → SafeOut) (s : State) : (updOut m f s).pending = s.pending := rfl
@[simp] theorem updOut_cfg (m : Nat) (f : SafeOut → SafeOut) (s : State) : (updOut m f s).cfg = s.cfg := rfl
@[simp] theorem updOut_sys (m : Nat) (f : SafeOut → SafeOut) (s : State) : (updOut m f s).sys = s.sys := rfl
@[simp] theorem updOut_time (m : Nat) (f : SafeOut → SafeOut) (s : State) : (updOut m f s).time = s.time := rfl
@[simp] theorem updOut_mbx (m : Nat) (f : SafeOut → SafeOut) (s : State) : (updOut m f s).mbx = s.mbx := rfl
@[simp] theorem updOut_pts (m : Nat) (f : SafeOut → SafeOut) (s : State) : (updOut m f s).pts = s.pts := rfl
@[simp] theorem updOut_ain (m : Nat) (f : SafeOut → SafeOut) (s : State) : (updOut m f s).ain = s.ain := rfl
@[simp] theorem updOut_fld (m : Nat) (f : SafeOut → SafeOut) (s : State) : (updOut m f s).fld = s.fld := rfl
@[simp] theorem updOut_lop (m : Nat) (f : SafeOut → SafeOut) (s : State) : (updOut m f s).lop = s.lop := rfl
@[simp] theorem updOut_rmp (m : Nat) (f : SafeOut → SafeOut) (s : State) : (updOut m f s).rmp = s.rmp := rfl
@[simp] theorem updOut_stg (m : Nat) (f : SafeOut → SafeOut) (s : State) : (updOut m f s).stg = s.stg := rfl
@[simp] theorem updOut_sqn (m : Nat) (f : SafeOut → SafeOut) (s : State) : (updOut m f s).sqn = s.sqn := rfl
@[simp] theorem updOut_prg (m : Nat) (f : SafeOut → SafeOut) (s : State) : (updOut m f s).prg = s.prg := rfl
@[simp] theorem updOut_acq (m : Nat) (f : SafeOut → SafeOut) (s : State) : (updOut m f s).acq = s.acq := rfl
@[simp] theorem updOut_rcd (m : Nat) (f : SafeOut → SafeOut) (s : State) : (updOut m f s).rcd = s.rcd := rfl
@[simp] theorem updOut_shr (m : Nat) (f : SafeOut → SafeOut) (s : State) : (updOut m f s).shr = s.shr := rfl
@[simp] theorem updOut_par (m : Nat) (f : SafeOut → SafeOut) (s : State) : (updOut m f s).par = s.par := rfl
@[simp] theorem updOut_upd (m : Nat) (f : SafeOut → SafeOut) (s : State) : (updOut m f s).upd = s.upd := rfl
@[simp] theorem updOut_mon (m : Nat) (f : SafeOut → SafeOut) (s : State) : (updOut m f s).mon = s.mon := rfl
@[simp] theorem updOut_out (m : Nat) (f : SafeOut → SafeOut) (s : State) : (updOut m f s).out = s.out := rfl

/-! ### updAxis -/

@[simp] theorem updAxis_pending (x : Nat) (f : Axis → Axis) (s : State) : (updAxis x f s).pending = s.pending := rfl
@[simp] theorem updAxis_cfg (x : Nat) (f : Axis → Axis) (s : State) : (updAxis x f s).cfg = s.cfg := rfl
@[simp] theorem updAxis_sys (x : Nat) (f : Axis → Axis) (s : State) : (updAxis x f s).sys = s.sys := rfl
@[simp] theorem updAxis_time (x : Nat) (f : Axis → Axis) (s : State) : (updAxis x f s).time = s.time := rfl
@[simp] theorem updAxis_mbx (x : Nat) (f : Axis → Axis) (s : State) : (updAxis x f s).mbx = s.mbx := rfl
@[simp] theorem updAxis_pts (x : Nat) (f : Axis → Axis) (s : State) : (updAxis x f s).pts = s.pts := rfl
@[simp] theorem updAxis_ain (x : Nat) (f : Axis → Axis) (s : State) : (updAxis x f s).ain = s.ain := rfl
@[simp] theorem updAxis_fld (x : Nat) (f : Axis → Axis) (s : State) : (updAxis x f s).fld = s.fld := rfl
@[simp] theorem updAxis_lop (x : Nat) (f : Axis → Axis) (s : State) : (updAxis x f s).lop = s.lop := rfl
@[simp] theorem updAxis_rmp (x : Nat) (f : Axis → Axis) (s : State) : (updAxis x f s).rmp = s.rmp := rfl
@[simp] theorem updAxis_stg (x : Nat) (f : Axis → Axis) (s : State) : (updAxis x f s).stg = s.stg := rfl
@[simp] theorem updAxis_sqn (x : Nat) (f : Axis → Axis) (s : State) : (updAxis x f s).sqn = s.sqn := rfl
@[simp] theorem updAxis_prg (x : Nat) (f : Axis → Axis) (s : State) : (updAxis x f s).prg = s.prg := rfl
@[simp] theorem updAxis_acq (x : Nat) (f : Axis → Axis) (s : State) : (updAxis x f s).acq = s.acq := rfl
@[simp] theorem updAxis_rcd (x : Nat) (f : Axis → Axis) (s : State) : (updAxis x f s).rcd = s.rcd := rfl
@[simp] theorem updAxis_shr (x : Nat) (f : Axis → Axis) (s : State) : (updAxis x f s).shr = s.shr := rfl
@[simp] theorem updAxis_par (x : Nat) (f : Axis → Axis) (s : State) : (updAxis x f s).par = s.par := rfl
@[simp] theorem updAxis_upd (x : Nat) (f : Axis → Axis) (s : State) : (updAxis x f s).upd = s.upd := rfl
@[simp] theorem updAxis_mon (x : Nat) (f : Axis → Axis) (s : State) : (updAxis x f s).mon = s.mon := rfl
@[simp] theorem updAxis_out (x : Nat) (f : Axis → Axis) (s : State) : (updAxis x f s).out = s.out := rfl

/-! ### updConn -/

@[simp] theorem updConn_pending (c : Nat) (f : Conn → Conn) (s : State) : (updConn c f s).pending = s.pending := rfl
@[simp] theorem updConn_cfg (c : Nat) (f : Conn → Conn) (s : State) : (updConn c f s).cfg = s.cfg := rfl
@[simp] theorem updConn_sys (c : Nat) (f : Conn → Conn) (s : State) : (updConn c f s).sys = s.sys := rfl
@[simp] theorem updConn_time (c : Nat) (f : Conn → Conn) (s : State) : (updConn c f s).time = s.time := rfl
@[simp] theorem updConn_mbx (c : Nat) (f : Conn → Conn) (s : State) : (updConn c f s).mbx = s.mbx := rfl
@[simp] theorem updConn_pts (c : Nat) (f : Conn → Conn) (s : State) : (updConn c f s).pts = s.pts := rfl
@[simp] theorem updConn_ain (c : Nat) (f : Conn → Conn) (s : State) : (updConn c f s).ain = s.ain := rfl
@[simp] theorem updConn_fld (c : Nat) (f : Conn → Conn) (s : State) : (updConn c f s).fld = s.fld := rfl
@[simp] theorem updConn_lop (c : Nat) (f : Conn → Conn) (s : State) : (updConn c f s).lop = s.lop := rfl
@[simp] theorem updConn_rmp (c : Nat) (f : Conn → Conn) (s : State) : (updConn c f s).rmp = s.rmp := rfl
@[simp] theorem updConn_stg (c : Nat) (f : Conn → Conn) (s : State) : (updConn c f s).stg = s.stg := rfl
@[simp] theorem updConn_sqn (c : Nat) (f : Conn → Conn) (s : State) : (updConn c f s).sqn = s.sqn := rfl
@[simp] theorem updConn_prg (c : Nat) (f : Conn → Conn) (s : State) : (updConn c f s).prg = s.prg := rfl
@[simp] theorem updConn_acq (c : Nat) (f : Conn → Conn) (s : State) : (updConn c f s).acq = s.acq := rfl
@[simp] theorem updConn_rcd (c : Nat) (f : Conn → Conn) (s : State) : (updConn c f s).rcd = s.rcd := rfl
@[simp] theorem updConn_saf (c : Nat) (f : Conn → Conn) (s : State) : (updConn c f s).saf = s.saf := rfl
@[simp] theorem updConn_par (c : Nat) (f : Conn → Conn) (s : State) : (updConn c f s).par = s.par := rfl
@[simp] theorem updConn_upd (c : Nat) (f : Conn → Conn) (s : State) : (updConn c f s).upd = s.upd := rfl
@[simp] theorem updConn_mon (c : Nat) (f : Conn → Conn) (s : State) : (updConn c f s).mon = s.mon := rfl
@[simp] theorem updConn_out (c : Nat) (f : Conn → Conn) (s : State) : (updConn c f s).out = s.out := rfl

/-! ### updLoop -/

@[simp] theorem updLoop_pending (l : Nat) (f : Loop → Loop) (s : State) : (updLoop l f s).pending = s.pending := rfl
@[simp] theorem updLoop_cfg (l : Nat) (f : Loop → Loop) (s : State) : (updLoop l f s).cfg = s.cfg := rfl
@[simp] theorem updLoop_sys (l : Nat) (f : Loop → Loop) (s : State) : (updLoop l f s).sys = s.sys := rfl
@[simp] theorem updLoop_time (l : Nat) (f : Loop → Loop) (s : State) : (updLoop l f s).time = s.time := rfl
@[simp] theorem updLoop_mbx (l : Nat) (f : Loop → Loop) (s : State) : (updLoop l f s).mbx = s.mbx := rfl
@[simp] theorem updLoop_pts (l : Nat) (f : Loop → Loop) (s : State) : (updLoop l f s).pts = s.pts := rfl
@[simp] theorem updLoop_ain (l : Nat) (f : Loop → Loop) (s : State) : (updLoop l f s).ain = s.ain := rfl
@[simp] theorem updLoop_fld (l : Nat) (f : Loop → Loop) (s : State) : (updLoop l f s).fld = s.fld := rfl
@[simp] theorem updLoop_rmp (l : Nat) (f : Loop → Loop) (s : State) : (updLoop l f s).rmp = s.rmp := rfl
@[simp] theorem updLoop_stg (l : Nat) (f : Loop → Loop) (s : State) : (updLoop l f s).stg = s.stg := rfl
@[simp] theorem updLoop_sqn (l : Nat) (f : Loop → Loop) (s : State) : (updLoop l f s).sqn = s.sqn := rfl
@[simp] theorem updLoop_prg (l : Nat) (f : Loop → Loop) (s : State) : (updLoop l f s).prg = s.prg := rfl
@[simp] theorem updLoop_acq (l : Nat) (f : Loop → Loop) (s : State) : (updLoop l f s).acq = s.acq := rfl
@[simp] theorem updLoop_rcd (l : Nat) (f : Loop → Loop) (s : State) : (updLoop l f s).rcd = s.rcd := rfl
@[simp] theorem updLoop_saf (l : Nat) (f : Loop → Loop) (s : State) : (updLoop l f s).saf = s.saf := rfl
@[simp] theorem updLoop_shr (l : Nat) (f : Loop → Loop) (s : State) : (updLoop l f s).shr = s.shr := rfl
@[simp] theorem updLoop_par (l : Nat) (f : Loop → Loop) (s : State) : (updLoop l f s).par = s.par := rfl
@[simp] theorem updLoop_upd (l : Nat) (f : Loop → Loop) (s : State) : (updLoop l f s).upd = s.upd := rfl
@[simp] theorem updLoop_mon (l : Nat) (f : Loop → Loop) (s : State) : (updLoop l f s).mon = s.mon := rfl
@[simp] theorem updLoop_out (l : Nat) (f : Loop → Loop) (s : State) : (updLoop l f s).out = s.out := rfl

/-! ### updLoopCfg -/

@[simp] theorem updLoopCfg_pending (l : Nat) (f : LoopCfg → LoopCfg) (s : State) : (updLoopCfg l f s).pending = s.pending := rfl
@[simp] theorem updLoopCfg_sys (l : Nat) (f : LoopCfg → LoopCfg) (s : State) : (updLoopCfg l f s).sys = s.sys := rfl
@[simp] theorem updLoopCfg_time (l : Nat) (f : LoopCfg → LoopCfg) (s : State) : (updLoopCfg l f s).time = s.time := rfl
@[simp] theorem updLoopCfg_mbx (l : Nat) (f : LoopCfg → LoopCfg) (s : State) : (updLoopCfg l f s).mbx = s.mbx := rfl
@[simp] theorem updLoopCfg_pts (l : Nat) (f : LoopCfg → LoopCfg) (s : State) : (updLoopCfg l f s).pts = s.pts := rfl
@[simp] theorem updLoopCfg_ain (l : Nat) (f : LoopCfg → LoopCfg) (s : State) : (updLoopCfg l f s).ain = s.ain := rfl
@[simp] theorem updLoopCfg_fld (l : Nat) (f : LoopCfg → LoopCfg) (s : State) : (updLoopCfg l f s).fld = s.fld := rfl
@[simp] theorem updLoopCfg_lop (l : Nat) (f : LoopCfg → LoopCfg) (s : State) : (updLoopCfg l f s).lop = s.lop := rfl
@[simp] theorem updLoopCfg_rmp (l : Nat) (f : LoopCfg → LoopCfg) (s : State) : (updLoopCfg l f s).rmp = s.rmp := rfl
@[simp] theorem updLoopCfg_stg (l : Nat) (f : LoopCfg → LoopCfg) (s : State) : (updLoopCfg l f s).stg = s.stg := rfl
@[simp] theorem updLoopCfg_sqn (l : Nat) (f : LoopCfg → LoopCfg) (s : State) : (updLoopCfg l f s).sqn = s.sqn := rfl
@[simp] theorem updLoopCfg_prg (l : Nat) (f : LoopCfg → LoopCfg) (s : State) : (updLoopCfg l f s).prg = s.prg := rfl
@[simp] theorem updLoopCfg_acq (l : Nat) (f : LoopCfg → LoopCfg) (s : State) : (updLoopCfg l f s).acq = s.acq := rfl
@[simp] theorem updLoopCfg_rcd (l : Nat) (f : LoopCfg → LoopCfg) (s : State) : (updLoopCfg l f s).rcd = s.rcd := rfl
@[simp] theorem updLoopCfg_saf (l : Nat) (f : LoopCfg → LoopCfg) (s : State) : (updLoopCfg l f s).saf = s.saf := rfl
@[simp] theorem updLoopCfg_shr (l : Nat) (f : LoopCfg → LoopCfg) (s : State) : (updLoopCfg l f s).shr = s.shr := rfl
@[simp] theorem updLoopCfg_par (l : Nat) (f : LoopCfg → LoopCfg) (s : State) : (updLoopCfg l f s).par = s.par := rfl
@[simp] theorem updLoopCfg_upd (l : Nat) (f : LoopCfg → LoopCfg) (s : State) : (updLoopCfg l f s).upd = s.upd := rfl
@[simp] theorem updLoopCfg_mon (l : Nat) (f : LoopCfg → LoopCfg) (s : State) : (updLoopCfg l f s).mon = s.mon := rfl
@[simp] theorem updLoopCfg_out (l : Nat) (f : LoopCfg → LoopCfg) (s : State) : (updLoopCfg l f s).out = s.out := rfl

/-! ### updTask -/

@[simp] theorem updTask_pending (i : Nat) (f : Task → Task) (s : State) : (updTask i f s).pending = s.pending := rfl
@[simp] theorem updTask_cfg (i : Nat) (f : Task → Task) (s : State) : (updTask i f s).cfg = s.cfg := rfl
@[simp] theorem updTask_sys (i : Nat) (f : Task → Task) (s : State) : (updTask i f s).sys = s.sys := rfl
@[simp] theorem updTask_time (i : Nat) (f : Task → Task) (s : State) : (updTask i f s).time = s.time := rfl
@[simp] theorem updTask_mbx (i : Nat) (f : Task → Task) (s : State) : (updTask i f s).mbx = s.mbx := rfl
@[simp] theorem updTask_pts (i : Nat) (f : Task → Task) (s : State) : (updTask i f s).pts = s.pts := rfl
@[simp] theorem updTask_ain (i : Nat) (f : Task → Task) (s : State) : (updTask i f s).ain = s.ain := rfl
@[simp] theorem updTask_fld (i : Nat) (f : Task → Task) (s : State) : (updTask i f s).fld = s.fld := rfl
@[simp] theorem updTask_lop (i : Nat) (f : Task → Task) (s : State) : (updTask i f s).lop = s.lop := rfl
@[simp] theorem updTask_rmp (i : Nat) (f : Task → Task) (s : State) : (updTask i f s).rmp = s.rmp := rfl
@[simp] theorem updTask_stg (i : Nat) (f : Task → Task) (s : State) : (updTask i f s).stg = s.stg := rfl
@[simp] theorem updTask_sqn (i : Nat) (f : Task → Task) (s : State) : (updTask i f s).sqn = s.sqn := rfl
@[simp] theorem updTask_acq (i : Nat) (f : Task → Task) (s : State) : (updTask i f s).acq = s.acq := rfl
@[simp] theorem updTask_rcd (i : Nat) (f : Task → Task) (s : State) : (updTask i f s).rcd = s.rcd := rfl
@[simp] theorem updTask_saf (i : Nat) (f : Task → Task) (s : State) : (updTask i f s).saf = s.saf := rfl
@[simp] theorem updTask_shr (i : Nat) (f : Task → Task) (s : State) : (updTask i f s).shr = s.shr := rfl
@[simp] theorem updTask_par (i : Nat) (f : Task → Task) (s : State) : (updTask i f s).par = s.par := rfl
@[simp] theorem updTask_upd (i : Nat) (f : Task → Task) (s : State) : (updTask i f s).upd = s.upd := rfl
@[simp] theorem updTask_mon (i : Nat) (f : Task → Task) (s : State) : (updTask i f s).mon = s.mon := rfl
@[simp] theorem updTask_out (i : Nat) (f : Task → Task) (s : State) : (updTask i f s).out = s.out := rfl

/-! ### updSeq -/

@[simp] theorem updSeq_pending (i : Nat) (f : Sequence → Sequence) (s : State) : (updSeq i f s).pending = s.pending := rfl
@[simp] theorem updSeq_cfg (i : Nat) (f : Sequence → Sequence) (s : State) : (updSeq i f s).cfg = s.cfg := rfl
@[simp] theorem updSeq_sys (i : Nat) (f : Sequence → Sequence) (s : State) : (updSeq i f s).sys = s.sys := rfl
@[simp] theorem updSeq_time (i : Nat) (f : Sequence → Sequence) (s : State) : (updSeq i f s).time = s.time := rfl
@[simp] theorem updSeq_mbx (i : Nat) (f : Sequence → Sequence) (s : State) : (updSeq i f s).mbx = s.mbx := rfl
@[simp] theorem updSeq_pts (i : Nat) (f : Sequence → Sequence) (s : State) : (updSeq i f s).pts = s.pts := rfl
@[simp] theorem updSeq_ain (i : Nat) (f : Sequence → Sequence) (s : State) : (updSeq i f s).ain = s.ain := rfl
@[simp] theorem updSeq_fld (i : Nat) (f : Sequence → Sequence) (s : State) : (updSeq i f s).fld = s.fld := rfl
@[simp] theorem updSeq_lop (i : Nat) (f : Sequence → Sequence) (s : State) : (updSeq i f s).lop = s.lop := rfl
@[simp] theorem updSeq_rmp (i : Nat) (f : Sequence → Sequence) (s : State) : (updSeq i f s).rmp = s.rmp := rfl
@[simp] theorem updSeq_stg (i : Nat) (f : Sequence → Sequence) (s : State) : (updSeq i f s).stg = s.stg := rfl
@[simp] theorem updSeq_prg (i : Nat) (f : Sequence → Sequence) (s : State) : (updSeq i f s).prg = s.prg := rfl
@[simp] theorem updSeq_acq (i : Nat) (f : Sequence → Sequence) (s : State) : (updSeq i f s).acq = s.acq := rfl
@[simp] theorem updSeq_rcd (i : Nat) (f : Sequence → Sequence) (s : State) : (updSeq i f s).rcd = s.rcd := rfl
@[simp] theorem updSeq_saf (i : Nat) (f : Sequence → Sequence) (s : State) : (updSeq i f s).saf = s.saf := rfl
@[simp] theorem updSeq_shr (i : Nat) (f : Sequence → Sequence) (s : State) : (updSeq i f s).shr = s.shr := rfl
@[simp] theorem updSeq_par (i : Nat) (f : Sequence → Sequence) (s : State) : (updSeq i f s).par = s.par := rfl
@[simp] theorem updSeq_upd (i : Nat) (f : Sequence → Sequence) (s : State) : (updSeq i f s).upd = s.upd := rfl
@[simp] theorem updSeq_mon (i : Nat) (f : Sequence → Sequence) (s : State) : (updSeq i f s).mon = s.mon := rfl
@[simp] theorem updSeq_out (i : Nat) (f : Sequence → Sequence) (s : State) : (updSeq i f s).out = s.out := rfl

/-! ### updRamp -/

@[simp] theorem updRamp_pending (r : Nat) (f : Ramp → Ramp) (s : State) : (updRamp r f s).pending = s.pending := rfl
@[simp] theorem updRamp_cfg (r : Nat) (f : Ramp → Ramp) (s : State) : (updRamp r f s).cfg = s.cfg := rfl
@[simp] theorem updRamp_sys (r : Nat) (f : Ramp → Ramp) (s : State) : (updRamp r f s).sys = s.sys := rfl
@[simp] theorem updRamp_time (r : Nat) (f : Ramp → Ramp) (s : State) : (updRamp r f s).time = s.time := rfl
@[simp] theorem updRamp_mbx (r : Nat) (f : Ramp → Ramp) (s : State) : (updRamp r f s).mbx = s.mbx := rfl
@[simp] theorem updRamp_pts (r : Nat) (f : Ramp → Ramp) (s : State) : (updRamp r f s).pts = s.pts := rfl
@[simp] theorem updRamp_ain (r : Nat) (f : Ramp → Ramp) (s : State) : (updRamp r f s).ain = s.ain := rfl
@[simp] theorem updRamp_fld (r : Nat) (f : Ramp → Ramp) (s : State) : (updRamp r f s).fld = s.fld := rfl
@[simp] theorem updRamp_lop (r : Nat) (f : Ramp → Ramp) (s : State) : (updRamp r f s).lop = s.lop := rfl
@[simp] theorem updRamp_stg (r : Nat) (f : Ramp → Ramp) (s : State) : (updRamp r f s).stg = s.stg := rfl
@[simp] theorem updRamp_sqn (r : Nat) (f : Ramp → Ramp) (s : State) : (updRamp r f s).sqn = s.sqn := rfl
@[simp] theorem updRamp_prg (r : Nat) (f : Ramp → Ramp) (s : State) : (updRamp r f s).prg = s.prg := rfl
@[simp] theorem updRamp_acq (r : Nat) (f : Ramp → Ramp) (s : State) : (updRamp r f s).acq = s.acq := rfl
@[simp] theorem updRamp_rcd (r : Nat) (f : Ramp → Ramp) (s : State) : (updRamp r f s).rcd = s.rcd := rfl
@[simp] theorem updRamp_saf (r : Nat) (f : Ramp → Ramp) (s : State) : (updRamp r f s).saf = s.saf := rfl
@[simp] theorem updRamp_shr (r : Nat) (f : Ramp → Ramp) (s : State) : (updRamp r f s).shr = s.shr := rfl
@[simp] theorem updRamp_par (r : Nat) (f : Ramp → Ramp) (s : State) : (updRamp r f s).par = s.par := rfl
@[simp] theorem updRamp_upd (r : Nat) (f : Ramp → Ramp) (s : State) : (updRamp r f s).upd = s.upd := rfl
@[simp] theorem updRamp_mon (r : Nat) (f : Ramp → Ramp) (s : State) : (updRamp r f s).mon = s.mon := rfl
@[simp] theorem updRamp_out (r : Nat) (f : Ramp → Ramp) (s : State) : (updRamp r f s).out = s.out := rfl

/-! ### updRep -/

@[simp] theorem updRep_pending (c : Nat) (f : Rep → Rep) (s : State) : (updRep c f s).pending = s.pending := rfl
@[simp] theorem updRep_cfg (c : Nat) (f : Rep → Rep) (s : State) : (updRep c f s).cfg = s.cfg := rfl
@[simp] theorem updRep_sys (c : Nat) (f : Rep → Rep) (s : State) : (updRep c f s).sys = s.sys := rfl
@[simp] theorem updRep_time (c : Nat) (f : Rep → Rep) (s : State) : (updRep c f s).time = s.time := rfl
@[simp] theorem updRep_mbx (c : Nat) (f : Rep → Rep) (s : State) : (updRep c f s).mbx = s.mbx := rfl
@[simp] theorem updRep_pts (c : Nat) (f : Rep → Rep) (s : State) : (updRep c f s).pts = s.pts := rfl
@[simp] theorem updRep_ain (c : Nat) (f : Rep → Rep) (s : State) : (updRep c f s).ain = s.ain := rfl
@[simp] theorem updRep_fld (c : Nat) (f : Rep → Rep) (s : State) : (updRep c f s).fld = s.fld := rfl
@[simp] theorem updRep_lop (c : Nat) (f : Rep → Rep) (s : State) : (updRep c f s).lop = s.lop := rfl
@[simp] theorem updRep_stg (c : Nat) (f : Rep → Rep) (s : State) : (updRep c f s).stg = s.stg := rfl
@[simp] theorem updRep_sqn (c : Nat) (f : Rep → Rep) (s : State) : (updRep c f s).sqn = s.sqn := rfl
@[simp] theorem updRep_prg (c : Nat) (f : Rep → Rep) (s : State) : (updRep c f s).prg = s.prg := rfl
@[simp] theorem updRep_acq (c : Nat) (f : Rep → Rep) (s : State) : (updRep c f s).acq = s.acq := rfl
@[simp] theorem updRep_rcd (c : Nat) (f : Rep → Rep) (s : State) : (updRep c f s).rcd = s.rcd := rfl
@[simp] theorem updRep_saf (c : Nat) (f : Rep → Rep) (s : State) : (updRep c f s).saf = s.saf := rfl
@[simp] theorem updRep_shr (c : Nat) (f : Rep → Rep) (s : State) : (updRep c f s).shr = s.shr := rfl
@[simp] theorem updRep_par (c : Nat) (f : Rep → Rep) (s : State) : (updRep c f s).par = s.par := rfl
@[simp] theorem updRep_upd (c : Nat) (f : Rep → Rep) (s : State) : (updRep c f s).upd = s.upd := rfl
@[simp] theorem updRep_mon (c : Nat) (f : Rep → Rep) (s : State) : (updRep c f s).mon = s.mon := rfl
@[simp] theorem updRep_out (c : Nat) (f : Rep → Rep) (s : State) : (updRep c f s).out = s.out := rfl

/-! ### updCl -/

@[simp] theorem updCl_pending (i : Nat) (f : ClStage → ClStage) (s : State) : (updCl i f s).pending = s.pending := rfl
@[simp] theorem updCl_cfg (i : Nat) (f : ClStage → ClStage) (s : State) : (updCl i f s).cfg = s.cfg := rfl
@[simp] theorem updCl_sys (i : Nat) (f : ClStage → ClStage) (s : State) : (updCl i f s).sys = s.sys := rfl
@[simp] theorem updCl_time (i : Nat) (f : ClStage → ClStage) (s : State) : (updCl i f s).time = s.time := rfl
@[simp] theorem updCl_mbx (i : Nat) (f : ClStage → ClStage) (s : State) : (updCl i f s).mbx = s.mbx := rfl
@[simp] theorem updCl_pts (i : Nat) (f : ClStage → ClStage) (s : State) : (updCl i f s).pts = s.pts := rfl
@[simp] theorem updCl_ain (i : Nat) (f : ClStage → ClStage) (s : State) : (updCl i f s).ain = s.ain := rfl
@[simp] theorem updCl_fld (i : Nat) (f : ClStage → ClStage) (s : State) : (updCl i f s).fld = s.fld := rfl
@[simp] theorem updCl_lop (i : Nat) (f : ClStage → ClStage) (s : State) : (updCl i f s).lop = s.lop := rfl
@[simp] theorem updCl_rmp (i : Nat) (f : ClStage → ClStage) (s : State) : (updCl i f s).rmp = s.rmp := rfl
@[simp] theorem updCl_sqn (i : Nat) (f : ClStage → ClStage) (s : State) : (updCl i f s).sqn = s.sqn := rfl
@[simp] theorem updCl_prg (i : Nat) (f : ClStage → ClStage) (s : State) : (updCl i f s).prg = s.prg := rfl
@[simp] theorem updCl_acq (i : Nat) (f : ClStage → ClStage) (s : State) : (updCl i f s).acq = s.acq := rfl
@[simp] theorem updCl_rcd (i : Nat) (f : ClStage → ClStage) (s : State) : (updCl i f s).rcd = s.rcd := rfl
@[simp] theorem updCl_saf (i : Nat) (f : ClStage → ClStage) (s : State) : (updCl i f s).saf = s.saf := rfl
@[simp] theorem updCl_shr (i : Nat) (f : ClStage → ClStage) (s : State) : (updCl i f s).shr = s.shr := rfl
@[simp] theorem updCl_par (i : Nat) (f : ClStage → ClStage) (s : State) : (updCl i f s).par = s.par := rfl
@[simp] theorem updCl_upd (i : Nat) (f : ClStage → ClStage) (s : State) : (updCl i f s).upd = s.upd := rfl
@[simp] theorem updCl_mon (i : Nat) (f : ClStage → ClStage) (s : State) : (updCl i f s).mon = s.mon := rfl
@[simp] theorem updCl_out (i : Nat) (f : ClStage → ClStage) (s : State) : (updCl i f s).out = s.out := rfl

/-! ### updFao -/

@[simp] theorem updFao_pending (j : Nat) (f : FaoStage → FaoStage) (s : State) : (updFao j f s).pending = s.pending := rfl
@[simp] theorem updFao_cfg (j : Nat) (f : FaoStage → FaoStage) (s : State) : (updFao j f s).cfg = s.cfg := rfl
@[simp] theorem updFao_sys (j : Nat) (f : FaoStage → FaoStage) (s : State) : (updFao j f s).sys = s.sys := rfl
@[simp] theorem updFao_time (j : Nat) (f : FaoStage → FaoStage) (s : State) : (updFao j f s).time = s.time := rfl
@[simp] theorem updFao_mbx (j : Nat) (f : FaoStage → FaoStage) (s : State) : (updFao j f s).mbx = s.mbx := rfl
@[simp] theorem updFao_pts (j : Nat) (f : FaoStage → FaoStage) (s : State) : (updFao j f s).pts = s.pts := rfl
@[simp] theorem updFao_ain (j : Nat) (f : FaoStage → FaoStage) (s : State) : (updFao j f s).ain = s.ain := rfl
@[simp] theorem updFao_fld (j : Nat) (f : FaoStage → FaoStage) (s : State) : (updFao j f s).fld = s.fld := rfl
@[simp] theorem updFao_lop (j : Nat) (f : FaoStage → FaoStage) (s : State) : (updFao j f s).lop = s.lop := rfl
@[simp] theorem updFao_rmp (j : Nat) (f : FaoStage → FaoStage) (s : State) : (updFao j f s).rmp = s.rmp := rfl
@[simp] theorem updFao_sqn (j : Nat) (f : FaoStage → FaoStage) (s : State) : (updFao j f s).sqn = s.sqn := rfl
@[simp] theorem updFao_prg (j : Nat) (f : FaoStage → FaoStage) (s : State) : (updFao j f s).prg = s.prg := rfl
@[simp] theorem updFao_acq (j : Nat) (f : FaoStage → FaoStage) (s : State) : (updFao j f s).acq = s.acq := rfl
@[simp] theorem updFao_rcd (j : Nat) (f : FaoStage → FaoStage) (s : State) : (updFao j f s).rcd = s.rcd := rfl
@[simp] theorem updFao_saf (j : Nat) (f : FaoStage → FaoStage) (s : State) : (updFao j f s).saf = s.saf := rfl
@[simp] theorem updFao_shr (j : Nat) (f : FaoStage → FaoStage) (s : State) : (updFao j f s).shr = s.shr := rfl
@[simp] theorem updFao_par (j : Nat) (f : FaoStage → FaoStage) (s : State) : (updFao j f s).par = s.par := rfl
@[simp] theorem updFao_upd (j : Nat) (f : FaoStage → FaoStage) (s : State) : (updFao j f s).upd = s.upd := rfl
@[simp] theorem updFao_mon (j : Nat) (f : FaoStage → FaoStage) (s : State) : (updFao j f s).mon = s.mon := rfl
@[simp] theorem updFao_out (j : Nat) (f : FaoStage → FaoStage) (s : State) : (updFao j f s).out = s.out := rfl

/-! ### updDio -/

@[simp] theorem updDio_pending (d : Nat) (f : DioStage → DioStage) (s : State) : (updDio d f s).pending = s.pending := rfl
@[simp] theorem updDio_cfg (d : Nat) (f : DioStage → DioStage) (s : State) : (updDio d f s).cfg = s.cfg := rfl
@[simp] theorem updDio_sys (d : Nat) (f : DioStage → DioStage) (s : State) : (updDio d f s).sys = s.sys := rfl
@[simp] theorem updDio_time (d : Nat) (f : DioStage → DioStage) (s : State) : (updDio d f s).time = s.time := rfl
@[simp] theorem updDio_mbx (d : Nat) (f : DioStage → DioStage) (s : State) : (updDio d f s).mbx = s.mbx := rfl
@[simp] theorem updDio_pts (d : Nat) (f : DioStage → DioStage) (s : State) : (updDio d f s).pts = s.pts := rfl
@[simp] theorem updDio_ain (d : Nat) (f : DioStage → DioStage) (s : State) : (updDio d f s).ain = s.ain := rfl
@[simp] theorem updDio_fld (d : Nat) (f : DioStage → DioStage) (s : State) : (updDio d f s).fld = s.fld := rfl
@[simp] theorem updDio_lop (d : Nat) (f : DioStage → DioStage) (s : State) : (updDio d f s).lop = s.lop := rfl
@[simp] theorem updDio_rmp (d : Nat) (f : DioStage → DioStage) (s : State) : (updDio d f s).rmp = s.rmp := rfl
@[simp] theorem updDio_sqn (d : Nat) (f : DioStage → DioStage) (s : State) : (updDio d f s).sqn = s.sqn := rfl
@[simp] theorem updDio_prg (d : Nat) (f : DioStage → DioStage) (s : State) : (updDio d f s).prg = s.prg := rfl
@[simp] theorem updDio_acq (d : Nat) (f : DioStage → DioStage) (s : State) : (updDio d f s).acq = s.acq := rfl
@[simp] theorem updDio_rcd (d : Nat) (f : DioStage → DioStage) (s : State) : (updDio d f s).rcd = s.rcd := rfl
@[simp] theorem updDio_saf (d : Nat) (f : DioStage → DioStage) (s : State) : (updDio d f s).saf = s.saf := rfl
@[simp] theorem updDio_shr (d : Nat) (f : DioStage → DioStage) (s : State) : (updDio d f s).shr = s.shr := rfl
@[simp] theorem updDio_par (d : Nat) (f : DioStage → DioStage) (s : State) : (updDio d f s).par = s.par := rfl
@[simp] theorem updDio_upd (d : Nat) (f : DioStage → DioStage) (s : State) : (updDio d f s).upd = s.upd := rfl
@[simp] theorem updDio_mon (d : Nat) (f : DioStage → DioStage) (s : State) : (updDio d f s).mon = s.mon := rfl
@[simp] theorem updDio_out (d : Nat) (f : DioStage → DioStage) (s : State) : (updDio d f s).out = s.out := rfl

/-! ### updTrigger -/

@[simp] theorem updTrigger_pending (t : Nat) (f : Trigger → Trigger) (s : State) : (updTrigger t f s).pending = s.pending := rfl
@[simp] theorem updTrigger_cfg (t : Nat) (f : Trigger → Trigger) (s : State) : (updTrigger t f s).cfg = s.cfg := rfl
@[simp] theorem updTrigger_sys (t : Nat) (f : Trigger → Trigger) (s : State) : (updTrigger t f s).sys = s.sys := rfl
@[simp] theorem updTrigger_time (t : Nat) (f : Trigger → Trigger) (s : State) : (updTrigger t f s).time = s.time := rfl
@[simp] theorem updTrigger_mbx (t : Nat) (f : Trigger → Trigger) (s : State) : (updTrigger t f s).mbx = s.mbx := rfl
@[simp] theorem updTrigger_pts (t : Nat) (f : Trigger → Trigger) (s : State) : (updTrigger t f s).pts = s.pts := rfl
@[simp] theorem updTrigger_ain (t : Nat) (f : Trigger → Trigger) (s : State) : (updTrigger t f s).ain = s.ain := rfl
@[simp] theorem updTrigger_fld (t : Nat) (f : Trigger → Trigger) (s : State) : (updTrigger t f s).fld = s.fld := rfl
@[simp] theorem updTrigger_lop (t : Nat) (f : Trigger → Trigger) (s : State) : (updTrigger t f s).lop = s.lop := rfl
@[simp] theorem updTrigger_rmp (t : Nat) (f : Trigger → Trigger) (s : State) : (updTrigger t f s).rmp = s.rmp := rfl
@[simp] theorem updTrigger_stg (t : Nat) (f : Trigger → Trigger) (s : State) : (updTrigger t f s).stg = s.stg := rfl
@[simp] theorem updTrigger_sqn (t : Nat) (f : Trigger → Trigger) (s : State) : (updTrigger t f s).sqn = s.sqn := rfl
@[simp] theorem updTrigger_prg (t : Nat) (f : Trigger → Trigger) (s : State) : (updTrigger t f s).prg = s.prg := rfl
@[simp] theorem updTrigger_rcd (t : Nat) (f : Trigger → Trigger) (s : State) : (updTrigger t f s).rcd = s.rcd := rfl
@[simp] theorem updTrigger_saf (t : Nat) (f : Trigger → Trigger) (s : State) : (updTrigger t f s).saf = s.saf := rfl
@[simp] theorem updTrigger_shr (t : Nat) (f : Trigger → Trigger) (s : State) : (updTrigger t f s).shr = s.shr := rfl
@[simp] theorem updTrigger_par (t : Nat) (f : Trigger → Trigger) (s : State) : (updTrigger t f s).par = s.par := rfl
@[simp] theorem updTrigger_upd (t : Nat) (f : Trigger → Trigger) (s : State) : (updTrigger t f s).upd = s.upd := rfl
@[simp] theorem updTrigger_mon (t : Nat) (f : Trigger → Trigger) (s : State) : (updTrigger t f s).mon = s.mon := rfl
@[simp] theorem updTrigger_out (t : Nat) (f : Trigger → Trigger) (s : State) : (updTrigger t f s).out = s.out := rfl

/-! ### updSegment -/

@[simp] theorem updSegment_pending (i : Nat) (f : Segment → Segment) (s : State) : (updSegment i f s).pending = s.pending := rfl
@[simp] theorem updSegment_cfg (i : Nat) (f : Segment → Segment) (s : State) : (updSegment i f s).cfg = s.cfg := rfl
@[simp] theorem updSegment_sys (i : Nat) (f : Segment → Segment) (s : State) : (updSegment i f s).sys = s.sys := rfl
@[simp] theorem updSegment_time (i : Nat) (f : Segment → Segment) (s : State) : (updSegment i f s).time = s.time := rfl
@[simp] theorem updSegment_mbx (i : Nat) (f : Segment → Segment) (s : State) : (updSegment i f s).mbx = s.mbx := rfl
@[simp] theorem updSegment_pts (i : Nat) (f : Segment → Segment) (s : State) : (updSegment i f s).pts = s.pts := rfl
@[simp] theorem updSegment_ain (i : Nat) (f : Segment → Segment) (s : State) : (updSegment i f s).ain = s.ain := rfl
@[simp] theorem updSegment_fld (i : Nat) (f : Segment → Segment) (s : State) : (updSegment i f s).fld = s.fld := rfl
@[simp] theorem updSegment_lop (i : Nat) (f : Segment → Segment) (s : State) : (updSegment i f s).lop = s.lop := rfl
@[simp] theorem updSegment_rmp (i : Nat) (f : Segment → Segment) (s : State) : (updSegment i f s).rmp = s.rmp := rfl
@[simp] theorem updSegment_stg (i : Nat) (f : Segment → Segment) (s : State) : (updSegment i f s).stg = s.stg := rfl
@[simp] theorem updSegment_sqn (i : Nat) (f : Segment → Segment) (s : State) : (updSegment i f s).sqn = s.sqn := rfl
@[simp] theorem updSegment_prg (i : Nat) (f : Segment → Segment) (s : State) : (updSegment i f s).prg = s.prg := rfl
@[simp] theorem updSegment_rcd (i : Nat) (f : Segment → Segment) (s : State) : (updSegment i f s).rcd = s.rcd := rfl
@[simp] theorem updSegment_saf (i : Nat) (f : Segment → Segment) (s : State) : (updSegment i f s).saf = s.saf := rfl
@[simp] theorem updSegment_shr (i : Nat) (f : Segment → Segment) (s : State) : (updSegment i f s).shr = s.shr := rfl
@[simp] theorem updSegment_par (i : Nat) (f : Segment → Segment) (s : State) : (updSegment i f s).par = s.par := rfl
@[simp] theorem updSegment_upd (i : Nat) (f : Segment → Segment) (s : State) : (updSegment i f s).upd = s.upd := rfl
@[simp] theorem updSegment_mon (i : Nat) (f : Segment → Segment) (s : State) : (updSegment i f s).mon = s.mon := rfl
@[simp] theorem updSegment_out (i : Nat) (f : Segment → Segment) (s : State) : (updSegment i f s).out = s.out := rfl

/-! ### updPoint -/

@[simp] theorem updPoint_pending (p : Nat) (f : Entry → Entry) (s : State) : (updPoint p f s).pending = s.pending := by
  unfold updPoint; split <;> rfl
@[simp] theorem updPoint_cfg (p : Nat) (f : Entry → Entry) (s : State) : (updPoint p f s).cfg = s.cfg := by
  unfold updPoint; split <;> rfl
@[simp] theorem updPoint_sys (p : Nat) (f : Entry → Entry) (s : State) : (updPoint p f s).sys = s.sys := by
  unfold updPoint; split <;> rfl
@[simp] theorem updPoint_time (p : Nat) (f : Entry → Entry) (s : State) : (updPoint p f s).time = s.time := by
  unfold updPoint; split <;> rfl
@[simp] theorem updPoint_mbx (p : Nat) (f : Entry → Entry) (s : State) : (updPoint p f s).mbx = s.mbx := by
  unfold updPoint; split <;> rfl
@[simp] theorem updPoint_ain (p : Nat) (f : Entry → Entry) (s : State) : (updPoint p f s).ain = s.ain := by
  unfold updPoint; split <;> rfl
@[simp] theorem updPoint_fld (p : Nat) (f : Entry → Entry) (s : State) : (updPoint p f s).fld = s.fld := by
  unfold updPoint; split <;> rfl
@[simp] theorem updPoint_lop (p : Nat) (f : Entry → Entry) (s : State) : (updPoint p f s).lop = s.lop := by
  unfold updPoint; split <;> rfl
@[simp] theorem updPoint_rmp (p : Nat) (f : Entry → Entry) (s : State) : (updPoint p f s).rmp = s.rmp := by
  unfold updPoint; split <;> rfl
@[simp] theorem updPoint_stg (p : Nat) (f : Entry → Entry) (s : State) : (updPoint p f s).stg = s.stg := by
  unfold updPoint; split <;> rfl
@[simp] theorem updPoint_sqn (p : Nat) (f : Entry → Entry) (s : State) : (updPoint p f s).sqn = s.sqn := by
  unfold updPoint; split <;> rfl
@[simp] theorem updPoint_prg (p : Nat) (f : Entry → Entry) (s : State) : (updPoint p f s).prg = s.prg := by
  unfold updPoint; split <;> rfl
@[simp] theorem updPoint_acq (p : Nat) (f : Entry → Entry) (s : State) : (updPoint p f s).acq = s.acq := by
  unfold updPoint; split <;> rfl
@[simp] theorem updPoint_rcd (p : Nat) (f : Entry → Entry) (s : State) : (updPoint p f s).rcd = s.rcd := by
  unfold updPoint; split <;> rfl
@[simp] theorem updPoint_saf (p : Nat) (f : Entry → Entry) (s : State) : (updPoint p f s).saf = s.saf := by
  unfold updPoint; split <;> rfl
@[simp] theorem updPoint_shr (p : Nat) (f : Entry → Entry) (s : State) : (updPoint p f s).shr = s.shr := by
  unfold updPoint; split <;> rfl
@[simp] theorem updPoint_par (p : Nat) (f : Entry → Entry) (s : State) : (updPoint p f s).par = s.par := by
  unfold updPoint; split <;> rfl
@[simp] theorem updPoint_upd (p : Nat) (f : Entry → Entry) (s : State) : (updPoint p f s).upd = s.upd := by
  unfold updPoint; split <;> rfl
@[simp] theorem updPoint_mon (p : Nat) (f : Entry → Entry) (s : State) : (updPoint p f s).mon = s.mon := by
  unfold updPoint; split <;> rfl
@[simp] theorem updPoint_out (p : Nat) (f : Entry → Entry) (s : State) : (updPoint p f s).out = s.out := by
  unfold updPoint; split <;> rfl

/-! ### emit -/

@[simp] theorem emit_pending (o : Output) (s : State) : (emit o s).pending = s.pending := rfl
@[simp] theorem emit_cfg (o : Output) (s : State) : (emit o s).cfg = s.cfg := rfl
@[simp] theorem emit_sys (o : Output) (s : State) : (emit o s).sys = s.sys := rfl
@[simp] theorem emit_time (o : Output) (s : State) : (emit o s).time = s.time := rfl
@[simp] theorem emit_mbx (o : Output) (s : State) : (emit o s).mbx = s.mbx := rfl
@[simp] theorem emit_pts (o : Output) (s : State) : (emit o s).pts = s.pts := rfl
@[simp] theorem emit_ain (o : Output) (s : State) : (emit o s).ain = s.ain := rfl
@[simp] theorem emit_fld (o : Output) (s : State) : (emit o s).fld = s.fld := rfl
@[simp] theorem emit_lop (o : Output) (s : State) : (emit o s).lop = s.lop := rfl
@[simp] theorem emit_rmp (o : Output) (s : State) : (emit o s).rmp = s.rmp := rfl
@[simp] theorem emit_stg (o : Output) (s : State) : (emit o s).stg = s.stg := rfl
@[simp] theorem emit_sqn (o : Output) (s : State) : (emit o s).sqn = s.sqn := rfl
@[simp] theorem emit_prg (o : Output) (s : State) : (emit o s).prg = s.prg := rfl
@[simp] theorem emit_acq (o : Output) (s : State) : (emit o s).acq = s.acq := rfl
@[simp] theorem emit_rcd (o : Output) (s : State) : (emit o s).rcd = s.rcd := rfl
@[simp] theorem emit_saf (o : Output) (s : State) : (emit o s).saf = s.saf := rfl
@[simp] theorem emit_shr (o : Output) (s : State) : (emit o s).shr = s.shr := rfl
@[simp] theorem emit_par (o : Output) (s : State) : (emit o s).par = s.par := rfl
@[simp] theorem emit_upd (o : Output) (s : State) : (emit o s).upd = s.upd := rfl
@[simp] theorem emit_mon (o : Output) (s : State) : (emit o s).mon = s.mon := rfl

/-! ### noteRecord -/

@[simp] theorem noteRecord_pending (rank : Nat) (r : Record) (s : State) : (noteRecord rank r s).pending = s.pending := rfl
@[simp] theorem noteRecord_cfg (rank : Nat) (r : Record) (s : State) : (noteRecord rank r s).cfg = s.cfg := rfl
@[simp] theorem noteRecord_sys (rank : Nat) (r : Record) (s : State) : (noteRecord rank r s).sys = s.sys := rfl
@[simp] theorem noteRecord_time (rank : Nat) (r : Record) (s : State) : (noteRecord rank r s).time = s.time := rfl
@[simp] theorem noteRecord_mbx (rank : Nat) (r : Record) (s : State) : (noteRecord rank r s).mbx = s.mbx := rfl
@[simp] theorem noteRecord_pts (rank : Nat) (r : Record) (s : State) : (noteRecord rank r s).pts = s.pts := rfl
@[simp] theorem noteRecord_ain (rank : Nat) (r : Record) (s : State) : (noteRecord rank r s).ain = s.ain := rfl
@[simp] theorem noteRecord_fld (rank : Nat) (r : Record) (s : State) : (noteRecord rank r s).fld = s.fld := rfl
@[simp] theorem noteRecord_lop (rank : Nat) (r : Record) (s : State) : (noteRecord rank r s).lop = s.lop := rfl
@[simp] theorem noteRecord_rmp (rank : Nat) (r : Record) (s : State) : (noteRecord rank r s).rmp = s.rmp := rfl
@[simp] theorem noteRecord_stg (rank : Nat) (r : Record) (s : State) : (noteRecord rank r s).stg = s.stg := rfl
@[simp] theorem noteRecord_sqn (rank : Nat) (r : Record) (s : State) : (noteRecord rank r s).sqn = s.sqn := rfl
@[simp] theorem noteRecord_prg (rank : Nat) (r : Record) (s : State) : (noteRecord rank r s).prg = s.prg := rfl
@[simp] theorem noteRecord_acq (rank : Nat) (r : Record) (s : State) : (noteRecord rank r s).acq = s.acq := rfl
@[simp] theorem noteRecord_saf (rank : Nat) (r : Record) (s : State) : (noteRecord rank r s).saf = s.saf := rfl
@[simp] theorem noteRecord_shr (rank : Nat) (r : Record) (s : State) : (noteRecord rank r s).shr = s.shr := rfl
@[simp] theorem noteRecord_par (rank : Nat) (r : Record) (s : State) : (noteRecord rank r s).par = s.par := rfl
@[simp] theorem noteRecord_upd (rank : Nat) (r : Record) (s : State) : (noteRecord rank r s).upd = s.upd := rfl
@[simp] theorem noteRecord_mon (rank : Nat) (r : Record) (s : State) : (noteRecord rank r s).mon = s.mon := rfl
@[simp] theorem noteRecord_out (rank : Nat) (r : Record) (s : State) : (noteRecord rank r s).out = s.out := rfl

/-! ### note -/

@[simp] theorem note_pending (rank : Nat) (k : EventKind) (args : List Nat) (s : State) : (note rank k args s).pending = s.pending := rfl
@[simp] theorem note_cfg (rank : Nat) (k : EventKind) (args : List Nat) (s : State) : (note rank k args s).cfg = s.cfg := rfl
@[simp] theorem note_sys (rank : Nat) (k : EventKind) (args : List Nat) (s : State) : (note rank k args s).sys = s.sys := rfl
@[simp] theorem note_time (rank : Nat) (k : EventKind) (args : List Nat) (s : State) : (note rank k args s).time = s.time := rfl
@[simp] theorem note_mbx (rank : Nat) (k : EventKind) (args : List Nat) (s : State) : (note rank k args s).mbx = s.mbx := rfl
@[simp] theorem note_pts (rank : Nat) (k : EventKind) (args : List Nat) (s : State) : (note rank k args s).pts = s.pts := rfl
@[simp] theorem note_ain (rank : Nat) (k : EventKind) (args : List Nat) (s : State) : (note rank k args s).ain = s.ain := rfl
@[simp] theorem note_fld (rank : Nat) (k : EventKind) (args : List Nat) (s : State) : (note rank k args s).fld = s.fld := rfl
@[simp] theorem note_lop (rank : Nat) (k : EventKind) (args : List Nat) (s : State) : (note rank k args s).lop = s.lop := rfl
@[simp] theorem note_rmp (rank : Nat) (k : EventKind) (args : List Nat) (s : State) : (note rank k args s).rmp = s.rmp := rfl
@[simp] theorem note_stg (rank : Nat) (k : EventKind) (args : List Nat) (s : State) : (note rank k args s).stg = s.stg := rfl
@[simp] theorem note_sqn (rank : Nat) (k : EventKind) (args : List Nat) (s : State) : (note rank k args s).sqn = s.sqn := rfl
@[simp] theorem note_prg (rank : Nat) (k : EventKind) (args : List Nat) (s : State) : (note rank k args s).prg = s.prg := rfl
@[simp] theorem note_acq (rank : Nat) (k : EventKind) (args : List Nat) (s : State) : (note rank k args s).acq = s.acq := rfl
@[simp] theorem note_saf (rank : Nat) (k : EventKind) (args : List Nat) (s : State) : (note rank k args s).saf = s.saf := rfl
@[simp] theorem note_shr (rank : Nat) (k : EventKind) (args : List Nat) (s : State) : (note rank k args s).shr = s.shr := rfl
@[simp] theorem note_par (rank : Nat) (k : EventKind) (args : List Nat) (s : State) : (note rank k args s).par = s.par := rfl
@[simp] theorem note_upd (rank : Nat) (k : EventKind) (args : List Nat) (s : State) : (note rank k args s).upd = s.upd := rfl
@[simp] theorem note_mon (rank : Nat) (k : EventKind) (args : List Nat) (s : State) : (note rank k args s).mon = s.mon := rfl
@[simp] theorem note_out (rank : Nat) (k : EventKind) (args : List Nat) (s : State) : (note rank k args s).out = s.out := rfl

/-! ### noteAt -/

@[simp] theorem noteAt_pending (rank : Nat) (k : EventKind) (args : List Nat) (sub : Nat) (s : State) : (noteAt rank k args sub s).pending = s.pending := rfl
@[simp] theorem noteAt_cfg (rank : Nat) (k : EventKind) (args : List Nat) (sub : Nat) (s : State) : (noteAt rank k args sub s).cfg = s.cfg := rfl
@[simp] theorem noteAt_sys (rank : Nat) (k : EventKind) (args : List Nat) (sub : Nat) (s : State) : (noteAt rank k args sub s).sys = s.sys := rfl
@[simp] theorem noteAt_time (rank : Nat) (k : EventKind) (args : List Nat) (sub : Nat) (s : State) : (noteAt rank k args sub s).time = s.time := rfl
@[simp] theorem noteAt_mbx (rank : Nat) (k : EventKind) (args : List Nat) (sub : Nat) (s : State) : (noteAt rank k args sub s).mbx = s.mbx := rfl
@[simp] theorem noteAt_pts (rank : Nat) (k : EventKind) (args : List Nat) (sub : Nat) (s : State) : (noteAt rank k args sub s).pts = s.pts := rfl
@[simp] theorem noteAt_ain (rank : Nat) (k : EventKind) (args : List Nat) (sub : Nat) (s : State) : (noteAt rank k args sub s).ain = s.ain := rfl
@[simp] theorem noteAt_fld (rank : Nat) (k : EventKind) (args : List Nat) (sub : Nat) (s : State) : (noteAt rank k args sub s).fld = s.fld := rfl
@[simp] theorem noteAt_lop (rank : Nat) (k : EventKind) (args : List Nat) (sub : Nat) (s : State) : (noteAt rank k args sub s).lop = s.lop := rfl
@[simp] theorem noteAt_rmp (rank : Nat) (k : EventKind) (args : List Nat) (sub : Nat) (s : State) : (noteAt rank k args sub s).rmp = s.rmp := rfl
@[simp] theorem noteAt_stg (rank : Nat) (k : EventKind) (args : List Nat) (sub : Nat) (s : State) : (noteAt rank k args sub s).stg = s.stg := rfl
@[simp] theorem noteAt_sqn (rank : Nat) (k : EventKind) (args : List Nat) (sub : Nat) (s : State) : (noteAt rank k args sub s).sqn = s.sqn := rfl
@[simp] theorem noteAt_prg (rank : Nat) (k : EventKind) (args : List Nat) (sub : Nat) (s : State) : (noteAt rank k args sub s).prg = s.prg := rfl
@[simp] theorem noteAt_acq (rank : Nat) (k : EventKind) (args : List Nat) (sub : Nat) (s : State) : (noteAt rank k args sub s).acq = s.acq := rfl
@[simp] theorem noteAt_saf (rank : Nat) (k : EventKind) (args : List Nat) (sub : Nat) (s : State) : (noteAt rank k args sub s).saf = s.saf := rfl
@[simp] theorem noteAt_shr (rank : Nat) (k : EventKind) (args : List Nat) (sub : Nat) (s : State) : (noteAt rank k args sub s).shr = s.shr := rfl
@[simp] theorem noteAt_par (rank : Nat) (k : EventKind) (args : List Nat) (sub : Nat) (s : State) : (noteAt rank k args sub s).par = s.par := rfl
@[simp] theorem noteAt_upd (rank : Nat) (k : EventKind) (args : List Nat) (sub : Nat) (s : State) : (noteAt rank k args sub s).upd = s.upd := rfl
@[simp] theorem noteAt_mon (rank : Nat) (k : EventKind) (args : List Nat) (sub : Nat) (s : State) : (noteAt rank k args sub s).mon = s.mon := rfl
@[simp] theorem noteAt_out (rank : Nat) (k : EventKind) (args : List Nat) (sub : Nat) (s : State) : (noteAt rank k args sub s).out = s.out := rfl

/-! ### What an update makes of its own field -/

@[simp] theorem updBox_boxes (m : Nat) (f : Mailbox → Mailbox) (s : State) : (updBox m f s).mbx.boxes = s.mbx.boxes.upd m {} f := rfl
@[simp] theorem updGroup_groups (g : Nat) (f : Group → Group) (s : State) : (updGroup g f s).ain.groups = s.ain.groups.upd g {} f := rfl
@[simp] theorem updChannel_channels (c : Nat) (f : Channel → Channel) (s : State) : (updChannel c f s).ain.channels = s.ain.channels.upd c {} f := rfl
@[simp] theorem updPort_ports (n : Nat) (f : Port → Port) (s : State) : (updPort n f s).fld.ports = s.fld.ports.upd n {} f := rfl
@[simp] theorem updUplink_uplinks (u : Nat) (f : Uplink → Uplink) (s : State) : (updUplink u f s).fld.uplinks = s.fld.uplinks.upd u {} f := rfl
@[simp] theorem updPair_pairs (n : Nat) (f : InPair → InPair) (s : State) : (updPair n f s).saf.pairs = s.saf.pairs.upd n {} f := rfl
@[simp] theorem updOut_outs (m : Nat) (f : SafeOut → SafeOut) (s : State) : (updOut m f s).saf.outs = s.saf.outs.upd m {} f := rfl
@[simp] theorem updAxis_axes (x : Nat) (f : Axis → Axis) (s : State) : (updAxis x f s).saf.axes = s.saf.axes.upd x {} f := rfl
@[simp] theorem updConn_conns (c : Nat) (f : Conn → Conn) (s : State) : (updConn c f s).shr.conns = s.shr.conns.upd c {} f := rfl
@[simp] theorem updLoop_loops (l : Nat) (f : Loop → Loop) (s : State) : (updLoop l f s).lop.loops = s.lop.loops.upd l {} f := rfl
@[simp] theorem updTask_tasks (i : Nat) (f : Task → Task) (s : State) : (updTask i f s).prg.tasks = s.prg.tasks.upd i {} f := rfl
@[simp] theorem updSeq_seqs (i : Nat) (f : Sequence → Sequence) (s : State) : (updSeq i f s).sqn.seqs = s.sqn.seqs.upd i {} f := rfl
@[simp] theorem updRamp_ramps (r : Nat) (f : Ramp → Ramp) (s : State) : (updRamp r f s).rmp.ramps = s.rmp.ramps.upd r {} f := rfl
@[simp] theorem updRep_reps (c : Nat) (f : Rep → Rep) (s : State) : (updRep c f s).rmp.reps = s.rmp.reps.upd c {} f := rfl
@[simp] theorem updCl_cl (i : Nat) (f : ClStage → ClStage) (s : State) : (updCl i f s).stg.cl = s.stg.cl.upd i {} f := rfl
@[simp] theorem updFao_fao (j : Nat) (f : FaoStage → FaoStage) (s : State) : (updFao j f s).stg.fao = s.stg.fao.upd j {} f := rfl
@[simp] theorem updDio_dio (d : Nat) (f : DioStage → DioStage) (s : State) : (updDio d f s).stg.dio = s.stg.dio.upd d {} f := rfl
@[simp] theorem updTrigger_trig (t : Nat) (f : Trigger → Trigger) (s : State) : (updTrigger t f s).acq.trig = s.acq.trig.upd t {} f := rfl
@[simp] theorem updSegment_segs (i : Nat) (f : Segment → Segment) (s : State) : (updSegment i f s).acq.segs = s.acq.segs.upd i {} f := rfl
@[simp] theorem emit_out (o : Output) (s : State) : (emit o s).out = s.out ++ [o] := rfl
@[simp] theorem noteRecord_waiting (rank : Nat) (r : Record) (s : State) :
    (noteRecord rank r s).rcd.waiting = s.rcd.waiting ++ [(rank, r)] := rfl
@[simp] theorem note_waiting (rank : Nat) (k : EventKind) (args : List Nat) (s : State) :
    (note rank k args s).rcd.waiting = s.rcd.waiting ++ [(rank, s.record k args)] := rfl

/-! ### Reading an entry after its update -/

@[simp] theorem updBox_same (m : Nat) (f : Mailbox → Mailbox) (s : State) : (updBox m f s).box m = f (s.box m) := Tab.getD_upd_same _ _ _ _
theorem updBox_other (m : Nat) (f : Mailbox → Mailbox) (s : State) {other : Nat} (h : other ≠ m) :
    (updBox m f s).box other = s.box other :=
  Tab.getD_upd_other _ _ _ h
@[simp] theorem updGroup_same (g : Nat) (f : Group → Group) (s : State) : (updGroup g f s).group g = f (s.group g) := Tab.getD_upd_same _ _ _ _
theorem updGroup_other (g : Nat) (f : Group → Group) (s : State) {other : Nat} (h : other ≠ g) :
    (updGroup g f s).group other = s.group other :=
  Tab.getD_upd_other _ _ _ h
@[simp] theorem updChannel_same (c : Nat) (f : Channel → Channel) (s : State) : (updChannel c f s).channel c = f (s.channel c) := Tab.getD_upd_same _ _ _ _
theorem updChannel_other (c : Nat) (f : Channel → Channel) (s : State) {other : Nat} (h : other ≠ c) :
    (updChannel c f s).channel other = s.channel other :=
  Tab.getD_upd_other _ _ _ h
@[simp] theorem updPort_same (n : Nat) (f : Port → Port) (s : State) : (updPort n f s).port n = f (s.port n) := Tab.getD_upd_same _ _ _ _
theorem updPort_other (n : Nat) (f : Port → Port) (s : State) {other : Nat} (h : other ≠ n) :
    (updPort n f s).port other = s.port other :=
  Tab.getD_upd_other _ _ _ h
@[simp] theorem updUplink_same (u : Nat) (f : Uplink → Uplink) (s : State) : (updUplink u f s).uplink u = f (s.uplink u) := Tab.getD_upd_same _ _ _ _
theorem updUplink_other (u : Nat) (f : Uplink → Uplink) (s : State) {other : Nat} (h : other ≠ u) :
    (updUplink u f s).uplink other = s.uplink other :=
  Tab.getD_upd_other _ _ _ h
@[simp] theorem updConn_same (c : Nat) (f : Conn → Conn) (s : State) : (updConn c f s).conn c = f (s.conn c) := Tab.getD_upd_same _ _ _ _
theorem updConn_other (c : Nat) (f : Conn → Conn) (s : State) {other : Nat} (h : other ≠ c) :
    (updConn c f s).conn other = s.conn other :=
  Tab.getD_upd_other _ _ _ h
@[simp] theorem updLoop_same (l : Nat) (f : Loop → Loop) (s : State) : (updLoop l f s).loop l = f (s.loop l) := Tab.getD_upd_same _ _ _ _
theorem updLoop_other (l : Nat) (f : Loop → Loop) (s : State) {other : Nat} (h : other ≠ l) :
    (updLoop l f s).loop other = s.loop other :=
  Tab.getD_upd_other _ _ _ h
@[simp] theorem updTask_same (i : Nat) (f : Task → Task) (s : State) : (updTask i f s).task i = f (s.task i) := Tab.getD_upd_same _ _ _ _
theorem updTask_other (i : Nat) (f : Task → Task) (s : State) {other : Nat} (h : other ≠ i) :
    (updTask i f s).task other = s.task other :=
  Tab.getD_upd_other _ _ _ h
@[simp] theorem updSeq_same (i : Nat) (f : Sequence → Sequence) (s : State) : (updSeq i f s).seq i = f (s.seq i) := Tab.getD_upd_same _ _ _ _
theorem updSeq_other (i : Nat) (f : Sequence → Sequence) (s : State) {other : Nat} (h : other ≠ i) :
    (updSeq i f s).seq other = s.seq other :=
  Tab.getD_upd_other _ _ _ h
@[simp] theorem updRamp_same (r : Nat) (f : Ramp → Ramp) (s : State) : (updRamp r f s).ramp r = f (s.ramp r) := Tab.getD_upd_same _ _ _ _
theorem updRamp_other (r : Nat) (f : Ramp → Ramp) (s : State) {other : Nat} (h : other ≠ r) :
    (updRamp r f s).ramp other = s.ramp other :=
  Tab.getD_upd_other _ _ _ h
@[simp] theorem updRep_same (c : Nat) (f : Rep → Rep) (s : State) : (updRep c f s).rep c = f (s.rep c) := Tab.getD_upd_same _ _ _ _
theorem updRep_other (c : Nat) (f : Rep → Rep) (s : State) {other : Nat} (h : other ≠ c) :
    (updRep c f s).rep other = s.rep other :=
  Tab.getD_upd_other _ _ _ h
@[simp] theorem updCl_same (i : Nat) (f : ClStage → ClStage) (s : State) : (updCl i f s).cl i = f (s.cl i) := Tab.getD_upd_same _ _ _ _
theorem updCl_other (i : Nat) (f : ClStage → ClStage) (s : State) {other : Nat} (h : other ≠ i) :
    (updCl i f s).cl other = s.cl other :=
  Tab.getD_upd_other _ _ _ h
@[simp] theorem updFao_same (j : Nat) (f : FaoStage → FaoStage) (s : State) : (updFao j f s).fao j = f (s.fao j) := Tab.getD_upd_same _ _ _ _
theorem updFao_other (j : Nat) (f : FaoStage → FaoStage) (s : State) {other : Nat} (h : other ≠ j) :
    (updFao j f s).fao other = s.fao other :=
  Tab.getD_upd_other _ _ _ h
@[simp] theorem updDio_same (d : Nat) (f : DioStage → DioStage) (s : State) : (updDio d f s).dio d = f (s.dio d) := Tab.getD_upd_same _ _ _ _
theorem updDio_other (d : Nat) (f : DioStage → DioStage) (s : State) {other : Nat} (h : other ≠ d) :
    (updDio d f s).dio other = s.dio other :=
  Tab.getD_upd_other _ _ _ h
@[simp] theorem updTrigger_same (t : Nat) (f : Trigger → Trigger) (s : State) : (updTrigger t f s).trigger t = f (s.trigger t) := Tab.getD_upd_same _ _ _ _
theorem updTrigger_other (t : Nat) (f : Trigger → Trigger) (s : State) {other : Nat} (h : other ≠ t) :
    (updTrigger t f s).trigger other = s.trigger other :=
  Tab.getD_upd_other _ _ _ h

end Sys2Proof.Machine
end

