-- ==== Sys2Proof/Laws/Settle.lean ====
section
/-! SUPPORT. What every command ends with (`settle`): the drive states of the stages follow a change of claim and change
nothing else, and a state that is settled stays as it is. -/

namespace Sys2Proof.Machine

/-! ### The stages -/

/-- The state with every stage replaced: what the drive states of the stages can change. -/
def sameButStages (s t : State) : Prop := t = { s with stg := t.stg }

theorem sameButStages.refl (s : State) : sameButStages s s := rfl

theorem sameButStages.trans {s t u : State} (h : sameButStages s t) (g : sameButStages t u) : sameButStages s u := by
  unfold sameButStages at *
  rw [g, h]

theorem clDrive_same (now i : Nat) (s : State) : sameButStages s (clDrive now i s) := rfl
theorem faoDrive_same (now j : Nat) (s : State) : sameButStages s (faoDrive now j s) := rfl
theorem dioDrive_same (d : Nat) (s : State) : sameButStages s (dioDrive d s) := rfl

theorem forN_same {n : Nat} {f : Nat → State → State} (h : ∀ i s, sameButStages s (f i s)) (s : State) :
    sameButStages s (forN n f s) :=
  forAll_keeps (P := sameButStages s) _ (fun i t _ ht => ht.trans (h i t)) (.refl s)

theorem driveStages_same (s : State) : sameButStages s (driveStages s) :=
  ((forN_same (clDrive_same _) s).trans (forN_same (faoDrive_same _) _)).trans (forN_same dioDrive_same _)

/-! ### The grade and the claim do not read the stages -/

@[simp] theorem gradeNow_stg (s : State) (x : StgState) : ({ s with stg := x } : State).gradeNow = s.gradeNow := rfl
@[simp] theorem claimNow_stg (s : State) (x : StgState) : ({ s with stg := x } : State).claimNow = s.claimNow := rfl
@[simp] theorem gradeNow_own (s : State) (x : Byte) : ({ s with par.own := x } : State).gradeNow = s.gradeNow := rfl
@[simp] theorem claimNow_own (s : State) (x : Byte) : ({ s with par.own := x } : State).claimNow = s.claimNow := rfl
@[simp] theorem gradeNow_grade (s : State) (x : Nat) : ({ s with par.grade := x } : State).gradeNow = s.gradeNow := rfl
@[simp] theorem claimNow_grade (s : State) (x : Nat) : ({ s with par.grade := x } : State).claimNow = s.claimNow := rfl

/-! ### A settled state stays as it is -/


theorem followReset_none {s : State} (h : s.sys.resetDue = none) : followReset s = s := by
  unfold followReset
  rw [h]

/-- The output points of loops hold their idle values where they must (R165). -/
def State.idleHeld (s : State) : Prop :=
  s.effMode.idles = true →
    ∀ c ∈ s.cfg.points.cells, c.2.owner = 1 → ∀ v, s.idleValue c.1 = some v → (s.ownEntry c.1).value = v

theorem holdIdle_held {s : State} (h : s.idleHeld) : holdIdle s = s := by
  unfold holdIdle
  split
  · rename_i m
    apply forAll_id
    intro c hc
    obtain ⟨hc1, hc2⟩ := List.mem_filter.1 hc
    cases hv : s.idleValue c.1 with
    | none => rfl
    | some v =>
      have := h m c hc1 (by simpa using hc2) v hv
      simp [this]
  · rfl

theorem composeClaim_settled {s : State} (h : Settled s) : composeClaim s = s := by
  have e : ({ s with par.grade := s.gradeNow } : State) = s := by
    rw [← h.grade]
  unfold composeClaim
  simp only [e]
  split
  · rfl
  · rename_i c
    have hd : s.par.delayed = none := by
      cases hh : s.par.delayed <;> simp_all
    have hs : s.sys.supUp = true ∨ s.sys.inReset = true ∨ s.par.role = .givenUp := by
      by_cases a : s.sys.supUp = true
      · exact .inl a
      · by_cases b : s.sys.inReset = true
        · exact .inr (.inl b)
        · exact .inr (.inr (by simp_all))
    simp [h.claim hd hs]

/-- What a command ends with changes nothing in a settled state. -/
theorem settle_settled {s : State} (h : Settled s) : settle s = s := by
  unfold settle
  rw [followReset_none h.noReset, holdIdle_held (fun m c hc ho v hv => h.idle m c hc ho v hv),
    h.window, composeClaim_settled h]

/-! ### Changes that leave a state settled -/

/-- Whether a state is settled does not rest on the queue, the mailboxes, the converters, the loops, the ramps, the stages,
the sequences, the acquisition, the recorder, the island, the Shroud, the monitor or the outputs. -/
theorem Settled.other {s : State} (h : Settled s) (pending : List Instr) (mbx : MbxState) (ain : AinState) (lop : LopState)
    (rmp : RmpState) (stg : StgState) (sqn : SqnState) (acq : AcqState) (rcd : RcdState) (saf : SafState) (shr : ShrState)
    (mon : MonState) (out : List Output) :
    Settled { s with pending := pending, mbx := mbx, ain := ain, lop := lop, rmp := rmp, stg := stg, sqn := sqn,
                     acq := acq, rcd := rcd, saf := saf, shr := shr, mon := mon, out := out } := by
  refine ⟨h.noReset, h.idle, ?_, h.grade, h.claim⟩
  have w := h.window
  by_cases c : (!s.onTrial) = true
  · exact if_pos c
  · have e : trackWindow s = _ := if_neg c
    rw [e] at w
    exact (if_neg c).trans
      (congrArg (fun t : State =>
        { t with pending := pending, mbx := mbx, ain := ain, lop := lop, rmp := rmp, stg := stg, sqn := sqn,
                 acq := acq, rcd := rcd, saf := saf, shr := shr, mon := mon, out := out }) w)

/-- A state that agrees with a settled one in what `Settled` rests on is settled. -/
theorem Settled.of_agree {s t : State} (h : Settled s)
    (e : t.sys = s.sys ∧ t.cfg = s.cfg ∧ t.pts = s.pts ∧ t.upd = s.upd ∧ t.par = s.par ∧ t.time = s.time ∧ t.fld = s.fld ∧
      t.prg = s.prg) : Settled t := by
  obtain ⟨a, b, c, d, e, f, g, i⟩ := e
  have := h.other t.pending t.mbx t.ain t.lop t.rmp t.stg t.sqn t.acq t.rcd t.saf t.shr t.mon t.out
  rw [← a, ← b, ← c, ← d, ← e, ← f, ← g, ← i] at this
  exact this

/-! ### A command whose effect leaves a settled state -/

/-- A command on the main die whose effect keeps the state settled answers exactly its effect. -/
theorem act_settled {f : State → State} {s : State} (r : s.sys.inReset = false) (h : Settled (f { s with out := [] })) :
    act f s = .next { f { s with out := [] } with pending := s.pending } := by
  have e : settle (f { s with out := [] }) = f { s with out := [] } := settle_settled h
  unfold act actAlways
  simp only [r, Bool.false_eq_true, if_false, e]

theorem actAlways_settled {f : State → State} {s : State} (h : Settled (f { s with out := [] })) :
    actAlways f s = .next { f { s with out := [] } with pending := s.pending } := by
  unfold actAlways
  simp only [settle_settled h]

/-- The same where the effect agrees with the state in what `Settled` rests on. -/
theorem act_frame {f : State → State} {s : State} (r : s.sys.inReset = false) (h : Settled s)
    (e : (f { s with out := [] }).sys = s.sys ∧ (f { s with out := [] }).cfg = s.cfg ∧ (f { s with out := [] }).pts = s.pts ∧
      (f { s with out := [] }).upd = s.upd ∧ (f { s with out := [] }).par = s.par ∧
      (f { s with out := [] }).time = s.time ∧ (f { s with out := [] }).fld = s.fld ∧ (f { s with out := [] }).prg = s.prg) :
    act f s = .next { f { s with out := [] } with pending := s.pending } := act_settled r (h.of_agree e)

/-! ### What every command ends with -/

theorem holdIdle_pts (s : State) : ∃ x, holdIdle s = { s with pts := x } := by
  unfold holdIdle
  split
  · refine forAll_keeps (P := fun t => ∃ x, t = { s with pts := x }) _ ?_ ⟨s.pts, rfl⟩
    intro c t _ ht
    obtain ⟨x, rfl⟩ := ht
    split
    · split
      · exact ⟨_, rfl⟩
      · unfold updPoint
        split <;> exact ⟨_, rfl⟩
    · exact ⟨_, rfl⟩
  · exact ⟨_, rfl⟩

theorem trackWindow_form (s : State) : ∃ w g, trackWindow s = { s with upd.window := w, upd.goodSince := g } := by
  unfold trackWindow
  split
  · exact ⟨s.upd.window, s.upd.goodSince, rfl⟩
  · exact ⟨_, _, rfl⟩

theorem composeClaim_form (s : State) :
    ∃ own stg, composeClaim s = { s with par.grade := s.gradeNow, par.own := own, stg := stg } ∧
      (s.par.delayed = none → (s.sys.supUp = true ∨ s.sys.inReset = true ∨ s.par.role = .givenUp) → own = s.claimNow) ∧
      (s.par.delayed ≠ none ∨ (s.sys.supUp = false ∧ s.sys.inReset = false ∧ s.par.role ≠ .givenUp) → own = s.par.own) := by
  unfold composeClaim
  simp only
  split
  · rename_i h
    refine ⟨s.par.own, s.stg, rfl, ?_, fun _ => rfl⟩
    intro d e
    simp [d] at h
    rcases e with e | e | e <;> simp [e] at h
  · rename_i h
    split
    · rename_i e
      refine ⟨s.par.own, s.stg, rfl, fun _ _ => e, fun _ => rfl⟩
    · refine ⟨s.claimNow, (driveStages { s with par.grade := s.gradeNow, par.own := s.claimNow }).stg,
        driveStages_same { s with par.grade := s.gradeNow, par.own := s.claimNow }, fun _ _ => rfl, ?_⟩
      · intro e
        exfalso; apply h
        rcases e with e | ⟨a, b, c⟩
        · cases hd : s.par.delayed <;> simp_all
        · simp [a, b, c]

/-- What every command ends with, where no reset is to be followed. -/
theorem settle_form {s : State} (h1 : s.sys.resetDue = none) :
    ∃ x w g own stg, settle s = { s with pts := x, upd.window := w, upd.goodSince := g, par.grade := s.gradeNow, par.own := own, stg := stg } ∧
      (s.par.delayed = none → (s.sys.supUp = true ∨ s.sys.inReset = true ∨ s.par.role = .givenUp) → own = s.claimNow) ∧
      (s.idleHeld → x = s.pts) ∧ (trackWindow s = s → w = s.upd.window ∧ g = s.upd.goodSince) := by
  unfold settle
  rw [followReset_none h1]
  obtain ⟨x, hx⟩ := holdIdle_pts s
  by_cases hi : s.idleHeld
  · rw [holdIdle_held hi]
    obtain ⟨w, g, hw⟩ := trackWindow_form s
    rw [hw]
    obtain ⟨own, stg, hc, ho, -⟩ := composeClaim_form { s with upd.window := w, upd.goodSince := g }
    refine ⟨s.pts, w, g, own, stg, hc, ho, fun _ => rfl, fun h => ?_⟩
    have e := h
    exact ⟨congrArg (·.upd.window) e, congrArg (·.upd.goodSince) e⟩
  · rw [hx]
    obtain ⟨w, g, hw⟩ := trackWindow_form { s with pts := x }
    rw [hw]
    obtain ⟨own, stg, hc, ho, -⟩ := composeClaim_form { s with pts := x, upd.window := w, upd.goodSince := g }
    refine ⟨x, w, g, own, stg, hc, ho, fun h => absurd h hi, fun h => ?_⟩
    have : trackWindow { s with pts := x } = { s with pts := x } := by
      by_cases c : (!s.onTrial) = true
      · exact if_pos c
      · have e : trackWindow s = _ := if_neg c
        rw [e] at h
        exact (if_neg c).trans (congrArg (fun t : State => { t with pts := x }) h)
    have e := hw.symm.trans this
    exact ⟨congrArg (·.upd.window) e, congrArg (·.upd.goodSince) e⟩
/-- A command of the main die answers its effect followed by what every command ends with. -/
theorem act_answers {f : State → State} {s : State} (r : s.sys.inReset = false) :
    act f s = .next { settle (f { s with out := [] }) with pending := s.pending } := by
  unfold act actAlways
  simp only [r, Bool.false_eq_true, if_false]

end Sys2Proof.Machine
end

