-- ==== Sys2Proof/Laws/Exec.lean ====
section
/-! SUPPORT. Every meaning runs its effect and ends as every command ends; a mailbox command is the arrival of its
datagram. -/

namespace Sys2Proof.Machine

/-- A mailbox command is the arrival of its datagram. -/
theorem exec_request {i : Instr} {op : Op} {d : Datagram} (h : i.op? = some (op, d)) (s : State) :
    exec i s = act (request op d) s := by
  cases i <;> cases h <;> rfl

/-- Every meaning is an effect followed by what every command ends with. -/
theorem exec_acts (i : Instr) (s : State) : ∃ f, exec i s = actAlways f s := by
  cases i
  case powerGood | vinBelow17v | vinBelow16v | resetNLow | sessionTimeout | safetySample |
      confirmationTimeout | testPulse | testPulseEnd | safetyOutputOverload | axisEvaluation |
      tickMirrorSilent | vsafeFault | islandMonitorFault | islandLockstepMismatch | islandWatchdog |
      islandScrub | islandFirmwareRestart | shroudFrame | shroudDatagram | shroudWatchdogExpiry |
      pathMissing | pathMissingFault | claimWordSend =>
    exact ⟨_, (rfl : actAlways _ _ = _)⟩
  all_goals exact ⟨_, (rfl : act _ _ = _)⟩

/-- Every command answers a next state. -/
theorem exec_next (i : Instr) (s : State) : ∃ t, exec i s = .next t := by
  obtain ⟨f, h⟩ := exec_acts i s
  exact ⟨_, h⟩

end Sys2Proof.Machine
end

