-- ==== Sys2Proof/Laws/Mailbox.lean ====
section
/-! SUPPORT. The path of a mailbox command: an arriving request is opened; the supervisor's own are carried out at once, the
others issued; what carrying a command out leaves. -/

namespace Sys2Proof.Machine

/-! ### Arrival -/

theorem gathered_rest (s : State) (d : Datagram) : s.gathered d = { s with mbx := (s.gathered d).mbx } := by
  unfold State.gathered
  dsimp only
  split <;> rfl

theorem gathered_box (s : State) (d : Datagram) (m : Nat) : (s.gathered d).box m = s.box m := by
  unfold State.gathered
  dsimp only
  split <;> rfl

theorem gathered_binding (s : State) (d : Datagram) (m : Nat) : (s.gathered d).binding m = s.binding m := by
  unfold State.gathered
  dsimp only
  split <;> rfl

theorem gathered_port (s : State) (d : Datagram) : (s.gathered d).mbx.udpPort = s.mbx.udpPort := by
  unfold State.gathered
  dsimp only
  split <;> rfl

theorem gathered_sys (s : State) (d : Datagram) : (s.gathered d).sys = s.sys := by rw [gathered_rest]
theorem gathered_time (s : State) (d : Datagram) : (s.gathered d).time = s.time := by rw [gathered_rest]

theorem gathered_deaf (s : State) (d : Datagram) : (s.gathered d).deaf d = s.deaf d := by
  unfold State.deaf State.portOf
  rw [gathered_port, gathered_sys]
  rw [gathered_rest]
  rfl

theorem counted_box (s : State) (d : Datagram) :
    (s.counted d).box d.mailbox.toNat = { s.box d.mailbox.toNat with requests := (s.box d.mailbox.toNat).requests + 1 } := by
  unfold State.counted
  rw [updBox_same, ← gathered_box s d]
  split <;> rfl

theorem counted_binding (s : State) (d : Datagram) (m : Nat) : (s.counted d).binding m = s.binding m := by
  rw [← gathered_binding s d m]
  unfold State.counted State.binding updBox
  split <;> rfl

theorem counted_time (s : State) (d : Datagram) : (s.counted d).time = s.time := by
  rw [← gathered_time s d]
  unfold State.counted updBox
  split <;> rfl

theorem counted_start (s : State) (d : Datagram) :
    (s.counted d).sys.startCount = s.sys.startCount ∧ (s.counted d).sys.opNs = s.sys.opNs := by
  rw [← gathered_sys s d]
  unfold State.counted updBox
  split <;> exact ⟨rfl, rfl⟩

theorem opening_time (s : State) (op : Op) (d : Datagram) : (s.opening op d).time = s.time := by
  exact counted_time { s with out := [] } d

theorem opening_binding (s : State) (op : Op) (d : Datagram) (m : Nat) : (s.opening op d).binding m = s.binding m := by
  have h : ∀ t : State, (openRequest (some op) op.desc.cls op.desc.opcode d t).binding m = t.binding m := fun _ => rfl
  unfold State.opening
  rw [h, counted_binding]
  rfl

theorem requestOf_opening (s : State) (op : Op) (d : Datagram) :
    requestOf op d (s.opening op d) = requestOf op d s := by
  unfold requestOf
  rw [opening_time]

/-- What a mailbox holds of a request just taken (R52, R57, R60). -/
theorem opening_box (s : State) (op : Op) (d : Datagram) :
    (s.opening op d).box d.mailbox.toNat =
      { s.box d.mailbox.toNat with
        requests := (s.box d.mailbox.toNat).requests + 1, state := .opened, tag := d.tag,
        req := { op := some op, cls := op.desc.cls, opcode := op.desc.opcode, payload := d.payload, crc := d.crc },
        payload := [], tick := 0, path := d.path, addr := d.srcAddr, port := d.srcPort, also := [], version := d.version,
        noNotice := d.flags.getLsbD 2, notices := 0, stage := 0, issued := 0, confirmed := false, opened := s.sys.opNs } := by
  unfold State.opening openRequest
  rw [updBox_same, counted_box]
  rw [(counted_start { s with out := [] } d).2]
  rfl

/-- A datagram heard whole is taken up as such. -/
theorem receive_whole {op : Option Op} {cls opcode : Byte} {d : Datagram} {s : State} (h : s.deaf d = false)
    (w : s.entire d = true) : receive op cls opcode d s = receiveWhole op cls opcode d (s.gathered d) := by
  have hd := h
  unfold State.deaf at hd
  simp only [Bool.or_eq_false_iff, Bool.not_eq_false'] at hd
  obtain ⟨⟨⟨hu, -⟩, -⟩, hp⟩ := hd
  have e : (if s.pathRetired d.path then s else { s with mbx.rxFrames := countFrames d.path 1 s.mbx.rxFrames }) =
      { s with mbx.rxFrames := countFrames d.path 1 s.mbx.rxFrames } := by simp [hp]
  unfold receive State.gathered
  rw [e]
  unfold State.entire at w
  cases hf : d.fragment with
  | none => rfl
  | some f =>
    rw [hf] at w
    simp only [Bool.and_eq_true, decide_eq_true_eq] at w
    have hc : ({ s with mbx.rxFrames := countFrames d.path 1 s.mbx.rxFrames } : State).completes d f = true := w.2
    have hp' : ({ s with mbx.rxFrames := countFrames d.path 1 s.mbx.rxFrames } : State).pathRetired d.path = false := hp
    have hl : ¬ d.payload.length + 20 > 4096 := by omega
    simp only [hu, hp', hc, hl, Bool.not_true, Bool.or_self, decide_false, Bool.false_eq_true, if_false, if_true]

/-- A request that arrives is taken. -/
theorem request_taken {op : Op} {d : Datagram} {s : State} (h : Arrives op d s) :
    request op d { s with out := [] } = takeRequest (some op) d (s.opening op d) := by
  obtain ⟨_, hh, hwh, hd, hc, hw, hb, ha, hsv, hs, ⟨h0, h1, _⟩, hf, hn⟩ := h
  have hdeaf : (({ s with out := [] } : State).gathered d).deaf d = false := by
    rw [gathered_deaf]
    exact hh
  have hdrop : dropped op.desc.cls op.desc.opcode d (({ s with out := [] } : State).gathered d) = none := by
    unfold dropped
    have a : headerGood d (({ s with out := [] } : State).gathered d) = true := by
      unfold headerGood
      rw [gathered_sys]
      exact hd
    have b : ((({ s with out := [] } : State).gathered d).binding d.mailbox.toNat).role ≠ .unbound := by
      rw [gathered_binding]
      exact hb
    have c : ((({ s with out := [] } : State).gathered d).binding d.mailbox.toNat).admits d.srcAddr d.srcPort = true := by
      rw [gathered_binding]
      exact ha
    have e : ((({ s with out := [] } : State).gathered d).starting && decide (d.mailbox.toNat ≥ 4)) = false := by
      unfold State.starting
      rw [gathered_sys]
      rcases hsv with h | h
      · unfold State.starting at h
        show (_ && _) = false
        rw [h]
        rfl
      · have : ¬ d.mailbox.toNat ≥ 4 := by omega
        simp [this]
    simp only [a, hc, hw, b, c, e, Bool.not_true, Bool.false_eq_true, if_false]
  have hstart : (d.version != 1 && d.startCount != 0 &&
      d.startCount.toNat != (({ s with out := [] } : State).counted d).sys.startCount) = false := by
    rw [(counted_start { s with out := [] } d).1]
    rcases hs with h | h | h <;> simp [h]
  have hbox := counted_box { s with out := [] } d
  have hopen : ((({ s with out := [] } : State).counted d).box d.mailbox.toNat).isOpen = false := by
    rw [hbox]
    exact hf
  have hnamed : ((({ s with out := [] } : State).counted d).box d.mailbox.toNat).state = .empty ∨
      d.tag ≠ ((({ s with out := [] } : State).counted d).box d.mailbox.toNat).tag := by
    rw [hbox]
    exact hn
  have htag : applyTag (some op) op.desc.cls op.desc.opcode d (({ s with out := [] } : State).counted d) =
      takeRequest (some op) d (s.opening op d) := by
    unfold applyTag
    generalize hb : (({ s with out := [] } : State).counted d).box d.mailbox.toNat = b at hopen hnamed
    have hn' : (b.state != .empty && d.tag = b.tag) = false := by
      rcases hnamed with h | h <;> simp [h]
    simp only [hb, hn', h0, h1, hopen, Bool.false_and, Bool.or_self, Bool.false_eq_true, if_false]
    rfl
  have hdf : ({ s with out := [] } : State).deaf d = false := hh
  have hent : ({ s with out := [] } : State).entire d = true := hwh
  have e : updBox d.mailbox.toNat (fun b => { b with requests := b.requests + 1 })
      (if d.mailbox.toNat < 4 then
        { (({ s with out := [] } : State).gathered d) with
          sys.serviceUsed := (({ s with out := [] } : State).gathered d).sys.opNs }
        else (({ s with out := [] } : State).gathered d)) = ({ s with out := [] } : State).counted d := by
    unfold State.counted
    rw [gathered_sys]
  unfold request
  rw [receive_whole hdf hent]
  unfold receiveWhole
  rw [hdeaf, hdrop]
  simp only [Bool.false_eq_true, if_false]
  rw [e, hstart]
  exact htag

/-- A command that the supervisor serves is carried out as it arrives. -/
theorem exec_served {i : Instr} {op : Op} {d : Datagram} {s : State} (hi : i.op? = some (op, d)) (h : Arrives op d s)
    (right : (s.binding d.mailbox.toNat).role.includes op.desc.role = true) (imm : op.desc.issued = false) :
    exec i s = .next { settle (carryOut (requestOf op d s) (s.opening op d)) with pending := s.pending } := by
  have ht : takeRequest (some op) d (s.opening op d) = carryOut (requestOf op d s) (s.opening op d) := by
    unfold takeRequest
    dsimp only
    have hr : ((s.opening op d).binding d.mailbox.toNat).role.includes op.desc.role = true := by
      rw [opening_binding]
      exact right
    have hf : ¬ d.flags.toNat ≥ 8 := by
      have := h.plain.2.2
      omega
    rw [hr, imm, requestOf_opening]
    simp only [Bool.not_true, Bool.not_false, Bool.false_eq_true, if_false, if_true, hf]
  rw [exec_request hi]
  unfold act actAlways
  have hr : s.sys.inReset = false := h.running
  simp only [hr, Bool.false_eq_true, if_false, request_taken h, ht]

/-- A command of a serving block that passes the checks is issued (R64, R68). -/
theorem exec_issued {i : Instr} {op : Op} {d : Datagram} {s : State} (hi : i.op? = some (op, d)) (h : Takes op d s)
    (iss : op.desc.issued = true) :
    exec i s = .next { settle (issueRequest true (requestOf op d s) (s.opening op d)) with pending := s.pending } := by
  have hp := h.ready.passes
  have ht : takeRequest (some op) d (s.opening op d) = issueRequest true (requestOf op d s) (s.opening op d) := by
    unfold takeRequest
    dsimp only
    have hr : ((s.opening op d).binding d.mailbox.toNat).role.includes op.desc.role = true := by
      rw [opening_binding]
      exact h.right
    have hf : ¬ d.flags.toNat ≥ 8 := by
      have := h.arrives.plain.2.2
      omega
    have hp' : (s.opening op d).failure op (requestOf op d s) = none := hp
    rw [hr, iss, requestOf_opening, hp']
    simp only [Bool.not_true, Bool.false_eq_true, if_false, hf]
  rw [exec_request hi]
  unfold act actAlways
  have hr : s.sys.inReset = false := h.arrives.running
  simp only [hr, Bool.false_eq_true, if_false, request_taken h.arrives, ht]

/-! ### A command issued leaves a settled state -/

theorem Settled.serviceUsed {s : State} (h : Settled s) (x : Nat) : Settled { s with sys.serviceUsed := x } := by
  refine ⟨h.noReset, h.idle, ?_, h.grade, h.claim⟩
  have w := h.window
  by_cases c : (!s.onTrial) = true
  · exact if_pos c
  · have e : trackWindow s = _ := if_neg c
    rw [e] at w
    exact (if_neg c).trans (congrArg (fun t : State => { t with sys.serviceUsed := x }) w)

theorem gathered_settled {s : State} (h : Settled s) (d : Datagram) : Settled (s.gathered d) := by
  refine h.of_agree ?_
  rw [gathered_rest]
  exact ⟨rfl, rfl, rfl, rfl, rfl, rfl, rfl, rfl⟩

theorem opening_settled {s : State} (h : Settled s) (op : Op) (d : Datagram) : Settled (s.opening op d) := by
  have g : Settled (({ s with out := [] } : State).gathered d) :=
    gathered_settled (s := { s with out := [] }) (h.of_agree ⟨rfl, rfl, rfl, rfl, rfl, rfl, rfl, rfl⟩) d
  unfold State.opening openRequest State.counted
  split
  · exact (g.serviceUsed s.sys.opNs).of_agree ⟨rfl, rfl, rfl, rfl, rfl, rfl, rfl, rfl⟩
  · exact g.of_agree ⟨rfl, rfl, rfl, rfl, rfl, rfl, rfl, rfl⟩

/-- Sending a stored answer changes the outputs and the counts of frames only. -/
theorem sendStored_form (v : Byte) (m : Nat) (p : Path) (a : U32) (o : U16) (s : State) :
    ∃ x l, sendStored v m p a o s = { s with mbx.txFrames := x, out := l } := by
  unfold sendStored
  dsimp only
  split
  · exact ⟨s.mbx.txFrames, s.out, rfl⟩
  · exact ⟨_, _, rfl⟩

/-- Sending the answer a mailbox holds, at once or after the boundary, changes no mailbox. -/
theorem sendAnswer_form (m : Nat) (s : State) :
    ∃ x u l, sendAnswer m s = { s with mbx.txFrames := x, mbx.unsent := u, out := l } := by
  unfold sendAnswer
  split
  · exact ⟨s.mbx.txFrames, _, s.out, rfl⟩
  · unfold sendAll
    dsimp only
    refine forAll_keeps (P := fun t : State => ∃ x u l, t = { s with mbx.txFrames := x, mbx.unsent := u, out := l }) _
      (fun r t _ ht => ?_) ⟨s.mbx.txFrames, s.mbx.unsent, s.out, rfl⟩
    obtain ⟨x, u, l, rfl⟩ := ht
    obtain ⟨y, o, e⟩ := sendStored_form (s.box m).version m r.1 r.2.1 r.2.2 { s with mbx.txFrames := x, mbx.unsent := u, out := l }
    exact ⟨y, u, o, e⟩

/-- Sending ACCEPTED to all that asked changes the outputs and the counts of frames beside the mailbox (R61). -/
theorem sendAccepted_form (m : Nat) (s : State) :
    sendAccepted m s = s ∨ ∃ x o, sendAccepted m s =
      { updBox m (fun b => { b with state := .accepted, status := .accepted }) s with mbx.txFrames := x, out := o } := by
  unfold sendAccepted
  dsimp only
  split
  · exact .inl rfl
  · refine .inr (forAll_keeps (P := fun t : State => ∃ x o, t =
      { updBox m (fun b => { b with state := .accepted, status := .accepted }) s with mbx.txFrames := x, out := o }) _
      (fun _ t _ ht => ?_) ⟨_, _, rfl⟩)
    obtain ⟨x, o, rfl⟩ := ht
    split
    · exact ⟨x, o, rfl⟩
    · exact ⟨_, _, rfl⟩

/-- Sending ACCEPTED changes the mailboxes and the outputs only (R61). -/
theorem sendAccepted_rest (m : Nat) (s : State) :
    sendAccepted m s = { s with mbx := (sendAccepted m s).mbx, out := (sendAccepted m s).out } := by
  rcases sendAccepted_form m s with h | ⟨x, o, h⟩ <;> rw [h] <;> rfl

theorem sendAccepted_mbx (m : Nat) (s : State) :
    (sendAccepted m s).mbx.issued = s.mbx.issued ∧
    ((sendAccepted m s).mbx.boxes = s.mbx.boxes ∨
      (sendAccepted m s).mbx.boxes = (updBox m (fun b => { b with state := .accepted, status := .accepted }) s).mbx.boxes) := by
  rcases sendAccepted_form m s with h | ⟨x, o, h⟩ <;> rw [h]
  · exact ⟨rfl, .inl rfl⟩
  · exact ⟨rfl, .inr rfl⟩

/-- Issuing a request changes the mailboxes and the outputs only. -/
theorem issueRequest_rest (now : Bool) (q : Issued) (s : State) :
    issueRequest now q s = { s with mbx := (issueRequest now q s).mbx, out := (issueRequest now q s).out } := by
  unfold issueRequest
  dsimp only
  split
  · rw [sendAccepted_rest]
    rfl
  · rfl

/-- A command of a serving block that passes the checks is issued, and that is all that happens as it arrives. -/
theorem exec_issues {i : Instr} {op : Op} {d : Datagram} {s : State} (hi : i.op? = some (op, d)) (h : Takes op d s)
    (iss : op.desc.issued = true) :
    exec i s = .next { issueRequest true (requestOf op d s) (s.opening op d) with pending := s.pending } := by
  rw [exec_issued hi h iss, settle_settled]
  refine (opening_settled h.settled op d).of_agree ?_
  rw [issueRequest_rest]
  exact ⟨rfl, rfl, rfl, rfl, rfl, rfl, rfl, rfl⟩

/-- An issued request waits in the order of issue, and its mailbox holds it open. -/
theorem exec_issues_held {i : Instr} {op : Op} {d : Datagram} {s : State} (hi : i.op? = some (op, d)) (h : Takes op d s)
    (iss : op.desc.issued = true) :
    Runs i s fun t => requestOf op d s ∈ t.mbx.issued ∧ t.holds (requestOf op d s) = true := by
  refine ⟨_, exec_issues hi h iss, ?_⟩
  have hb := opening_box s op d
  generalize hw : updBox d.mailbox.toNat
      (fun b => { b with stage := 1, issued := (s.opening op d).time.tick, tick := (s.opening op d).time.tick })
      { s.opening op d with mbx.issued := (s.opening op d).mbx.issued ++ [requestOf op d s] } = w
  have hi : requestOf op d s ∈ w.mbx.issued := by
    rw [← hw]
    exact List.mem_append_right _ List.mem_cons_self
  have hbox : w.box d.mailbox.toNat =
      { (s.opening op d).box d.mailbox.toNat with
        stage := 1, issued := (s.opening op d).time.tick, tick := (s.opening op d).time.tick } := by
    rw [← hw, updBox_same]
    rfl
  rw [hb] at hbox
  have key : ∀ u : State, u.mbx.issued = w.mbx.issued →
      (u.mbx.boxes = w.mbx.boxes ∨
        u.mbx.boxes = (updBox d.mailbox.toNat (fun b => { b with state := .accepted, status := .accepted }) w).mbx.boxes) →
      requestOf op d s ∈ u.mbx.issued ∧ u.holds (requestOf op d s) = true := by
    intro u hu h2
    refine ⟨by rw [hu]; exact hi, ?_⟩
    have hv : ∀ v : State, v.box d.mailbox.toNat = v.mbx.boxes.getD d.mailbox.toNat {} := fun _ => rfl
    unfold State.holds
    show ((u.box d.mailbox.toNat).isOpen && decide ((u.box d.mailbox.toNat).tag = d.tag)) = true
    rcases h2 with h2 | h2
    · rw [hv, h2, ← hv, hbox]
      simp [Mailbox.isOpen]
    · rw [hv, h2, ← hv, updBox_same, hbox]
      simp [Mailbox.isOpen]
  have e : issueRequest true (requestOf op d s) (s.opening op d) =
      if w.waitsLong (requestOf op d s) then sendAccepted d.mailbox.toNat w else w := by
    rw [← hw]
    rfl
  rw [e]
  split
  · exact key _ (sendAccepted_mbx _ _).1 (sendAccepted_mbx _ _).2
  · exact key _ rfl (.inl rfl)

/-! ### Carrying a command out -/

/-- What carrying a command out does where nothing turns it away. -/
theorem carryOut_ready {q : Issued} {s : State} (h : Ready q s) :
    carryOut q s = answerReply q (q.op.run q s)
      (mirrorCommand q (noteCommand q (q.op.run q s).status (q.op.run q s).st)) := by
  have ha : auditBlocked q s (noteCommand q (q.op.run q s).status (q.op.run q s).st) = false := by
    unfold auditBlocked
    rw [h.room]
    rfl
  have hv : ((s.box q.mailbox).version = 1 && s.holds q && (q.op.run q s).payload.length > 1008) = false := by
    by_cases e : (s.box q.mailbox).version = 1
    · have := h.fits e
      have : ¬ (q.op.run q s).payload.length > 1008 := by omega
      simp [this]
    · simp only [e, decide_false, Bool.false_and]
  unfold carryOut
  rw [h.passes]
  dsimp only
  rw [ha, hv]
  simp only [Bool.false_eq_true, if_false]

theorem completeRequest_rest (m : Nat) (st : Status) (p : List Byte) (s : State) :
    completeRequest m st p s = { s with mbx := (completeRequest m st p s).mbx, out := (completeRequest m st p s).out } := by
  have ha : ∀ (m : Nat) (s : State), sendAnswer m s = { s with mbx := (sendAnswer m s).mbx, out := (sendAnswer m s).out } := by
    intro m s
    obtain ⟨x, u, l, e⟩ := sendAnswer_form m s
    rw [e]
  unfold completeRequest
  split
  · rfl
  · split
    · rw [ha]
      rfl
    · dsimp only
      split
      · rfl
      · rw [ha]
        rfl
    · rfl

theorem completeTagged_rest (r : Nat × U16) (st : Status) (p : List Byte) (s : State) :
    completeTagged r st p s = { s with mbx := (completeTagged r st p s).mbx, out := (completeTagged r st p s).out } := by
  unfold completeTagged
  split
  · exact completeRequest_rest _ _ _ _
  · rfl

theorem noteCommand_rest (q : Issued) (st : Status) (s : State) :
    noteCommand q st s = { s with rcd := (noteCommand q st s).rcd } := by
  unfold noteCommand
  dsimp only
  split <;> split <;> rfl

theorem mirrorCommand_rest (q : Issued) (s : State) :
    mirrorCommand q s = { s with out := (mirrorCommand q s).out } := by
  have hb : ∀ (i : BulkItem) (s : State), sendBulk i s = { s with out := (sendBulk i s).out } := by
    intro i s
    unfold sendBulk
    split <;> rfl
  have hf : ∀ t : State, t = { s with out := t.out } → forAll (List.finRange 1024) (fun l s =>
      match (s.loop l).swap with
      | some (t, r) => if r = some q.ref then sendBulk (.swap l t) s else s
      | none => s) t = { s with out := (forAll (List.finRange 1024) (fun l s =>
      match (s.loop l).swap with
      | some (t, r) => if r = some q.ref then sendBulk (.swap l t) s else s
      | none => s) t).out } := by
    intro t ht
    refine forAll_keeps (P := fun t : State => t = { s with out := t.out }) _ (fun l t _ ht => ?_) ht
    split
    · split
      · rw [hb, ht]
      · exact ht
    · exact ht
  have h1 : ∀ b : Bool, (if b then sendBulk (.command q.op q.payload) s else s) =
      { s with out := (if b then sendBulk (.command q.op q.payload) s else s).out } := by
    intro b
    cases b
    · rfl
    · exact hb _ _
  unfold mirrorCommand
  dsimp only
  split
  · exact hf _ (h1 _)
  · exact h1 _

/-- Recording and mirroring a command change the recorder and the outputs only. -/
theorem noted_rest (q : Issued) (st : Status) (s : State) :
    mirrorCommand q (noteCommand q st s) =
      { s with rcd := (noteCommand q st s).rcd, out := (mirrorCommand q (noteCommand q st s)).out } := by
  have h := mirrorCommand_rest q (noteCommand q st s)
  have g := noteCommand_rest q st s
  rw [h]
  generalize (mirrorCommand q (noteCommand q st s)).out = o
  rw [g]

/-- The answer of a command that ends with it and does nothing after it. -/
theorem answerReply_now {q : Issued} {r : Reply} {s : State} (h1 : r.later = false) (h2 : r.status ≠ .accepted)
    (h3 : ∀ t, r.post t = t) :
    answerReply q r s =
      if r.status = .done && bulkOp q.op then doneTagged q.ref r.payload s else completeTagged q.ref r.status r.payload s := by
  unfold answerReply
  rw [h1]
  simp only [Bool.false_and, Bool.false_eq_true, if_false, h2, h3]

theorem doneTagged_rest (r : Nat × U16) (p : List Byte) (s : State) :
    doneTagged r p s = { s with mbx := (doneTagged r p s).mbx, out := (doneTagged r p s).out } := by
  unfold doneTagged
  split
  · rfl
  · exact completeTagged_rest r .done p s

/-- Carrying out a command that is answered at once: its effect, its record, its bulk item and its answer. -/
theorem carryOut_now {q : Issued} {s : State} (h : Ready q s) (h1 : (q.op.run q s).later = false)
    (h2 : (q.op.run q s).status ≠ .accepted) (h3 : ∀ t, (q.op.run q s).post t = t) :
    carryOut q s =
      { (q.op.run q s).st with rcd := (carryOut q s).rcd, mbx := (carryOut q s).mbx, out := (carryOut q s).out } := by
  rw [carryOut_ready h, answerReply_now h1 h2 h3]
  split
  · rw [doneTagged_rest, noted_rest]
  · rw [completeTagged_rest, noted_rest]

/-- The mailbox of a request that gets its final status holds it. -/
theorem completeTagged_answers {q : Issued} {st : Status} {p : List Byte} {s : State} (up : s.sys.supUp = true)
    (h : s.holds q = true) : Stored q st p (completeTagged q.ref st p s) := by
  obtain ⟨ho, ht⟩ : (s.box q.mailbox).isOpen = true ∧ (s.box q.mailbox).tag = q.tag := by
    simpa [State.holds] using h
  have hsa : ∀ (m : Nat) (s : State), (sendAnswer m s).box q.mailbox = s.box q.mailbox := by
    intro m s
    obtain ⟨x, u, l, e⟩ := sendAnswer_form m s
    rw [e]
    rfl
  have hst : (s.box q.mailbox).state = .opened ∨ (s.box q.mailbox).state = .accepted := by
    simpa [Mailbox.isOpen] using ho
  unfold completeTagged
  have hr : (s.box q.ref.1).tag = q.ref.2 := ht
  rw [if_pos hr]
  unfold completeRequest
  rw [up]
  simp only [Bool.not_true, Bool.false_eq_true, if_false]
  show Stored q st p (match (s.box q.mailbox).state with
    | .opened => sendAnswer q.mailbox (storeAnswer q.mailbox st p s)
    | .accepted =>
      if (s.box q.mailbox).noNotice then storeAnswer q.mailbox st p s
      else sendAnswer q.mailbox (updBox q.mailbox (fun b => { b with state := .notifying, notices := 1 })
        (storeAnswer q.mailbox st p s))
    | _ => s)
  rcases hst with e | e <;> rw [e] <;> dsimp only
  · unfold Stored
    rw [hsa]
    simp [storeAnswer]
  · split
    · unfold Stored
      simp [storeAnswer]
    · unfold Stored
      rw [hsa]
      simp [storeAnswer]

/-- The DONE of a command whose effect goes to the standby is stored, or kept until the standby has confirmed (R394). -/
theorem doneTagged_answers {q : Issued} {p : List Byte} {s : State} (up : s.sys.supUp = true) (h : s.holds q = true)
    (hb : bulkOp q.op = true) : Answered q .done p (doneTagged q.ref p s) := by
  obtain ⟨ho, ht⟩ : (s.box q.mailbox).isOpen = true ∧ (s.box q.mailbox).tag = q.tag := by
    simpa [State.holds] using h
  cases hf : s.followed with
  | false =>
    have e : doneTagged q.ref p s = completeTagged q.ref .done p s := by simp [doneTagged, hf]
    have g : (completeTagged q.ref .done p s).followed = false := by
      rw [completeTagged_rest]
      exact hf
    rw [e]
    unfold Answered
    rw [if_neg (by simp [g])]
    exact completeTagged_answers up h
  | true =>
    have e : doneTagged q.ref p s =
        updBox q.mailbox (fun b => if b.tag = q.tag then { b with stage := 2 } else b)
          { s with mbx.unconfirmed := s.mbx.unconfirmed ++ [{ mailbox := q.mailbox, tag := q.tag, payload := p, tick := s.time.tick }] } := by
      have c : (s.followed && s.sys.supUp) = true := by simp [hf, up]
      unfold doneTagged
      rw [if_pos c]
      rfl
    have hbox : ({ s with mbx.unconfirmed := s.mbx.unconfirmed ++ [{ mailbox := q.mailbox, tag := q.tag, payload := p, tick := s.time.tick }] } : State).box
        q.mailbox = s.box q.mailbox := rfl
    have g : (doneTagged q.ref p s).followed = true := by
      rw [doneTagged_rest]
      exact hf
    unfold Answered
    rw [if_pos ⟨rfl, hb, g⟩, e]
    refine ⟨?_, ?_, ?_⟩
    · unfold State.holds
      rw [updBox_same, hbox, if_pos ht]
      show ((s.box q.mailbox).isOpen && decide ((s.box q.mailbox).tag = q.tag)) = true
      simp [ho, ht]
    · rw [updBox_same, hbox, if_pos ht]
    · exact List.mem_append_right _ List.mem_cons_self

/-- Carrying out a command that is answered at once and leaves its mailbox to the supervisor answers it. -/
theorem carryOut_answers {q : Issued} {s : State} (h : Ready q s) (h1 : (q.op.run q s).later = false)
    (h2 : (q.op.run q s).status ≠ .accepted) (h3 : ∀ t, (q.op.run q s).post t = t)
    (h4 : (q.op.run q s).st.sys.supUp = s.sys.supUp) (h5 : (q.op.run q s).st.box q.mailbox = s.box q.mailbox) :
    Answered q (q.op.run q s).status (q.op.run q s).payload (carryOut q s) := by
  rw [carryOut_ready h, answerReply_now h1 h2 h3]
  have up : (mirrorCommand q (noteCommand q (q.op.run q s).status (q.op.run q s).st)).sys.supUp = true := by
    rw [noted_rest]
    exact h4.trans h.up
  have held : (mirrorCommand q (noteCommand q (q.op.run q s).status (q.op.run q s).st)).holds q = true := by
    have e : (mirrorCommand q (noteCommand q (q.op.run q s).status (q.op.run q s).st)).box q.mailbox = s.box q.mailbox := by
      rw [noted_rest]
      exact h5
    unfold State.holds
    rw [e]
    exact h.held
  split
  · rename_i c
    simp only [Bool.and_eq_true, decide_eq_true_eq] at c
    rw [c.1] at up held ⊢
    exact doneTagged_answers up held c.2
  · rename_i c
    unfold Answered
    rw [if_neg]
    · exact completeTagged_answers up held
    · rintro ⟨a, b, -⟩
      exact c (by rw [a, b]; rfl)

/-! ### A command completes -/

/-- A command of a serving block completes by what its resolution does. -/
theorem completes_issued {i : Instr} {op : Op} {d : Datagram} {s : State} {P : Issued → State → State → Prop} (hi : i.op? = some (op, d)) (h : Takes op d s) (iss : op.desc.issued = true)
    (hp : ∀ v, Ready (requestOf op d s) v → P (requestOf op d s) v (carryOut (requestOf op d s) v)) : Completes i op d s P := by
  unfold Completes
  rw [if_pos iss]
  obtain ⟨t, e, h1, h2⟩ := exec_issues_held hi h iss
  exact ⟨t, e, h1, h2, hp⟩
/-- A command of the supervisor's own completes by what carrying it out does, where that leaves a settled state. -/
theorem completes_served {i : Instr} {op : Op} {d : Datagram} {s : State} {P : Issued → State → State → Prop} (hi : i.op? = some (op, d)) (h : Takes op d s) (imm : op.desc.issued = false)
    (hs : Settled (carryOut (requestOf op d s) (s.opening op d)))
    (hp : P (requestOf op d s) (s.opening op d) { carryOut (requestOf op d s) (s.opening op d) with pending := s.pending }) : Completes i op d s P := by
  unfold Completes
  rw [if_neg (by simp [imm])]
  refine ⟨_, exec_served hi h.arrives h.right imm, ?_⟩
  rw [settle_settled hs]
  exact hp

theorem opening_pending (s : State) (op : Op) (d : Datagram) : (State.opening s op d).pending = s.pending := by
  have g : (({ s with out := [] } : State).gathered d).pending = s.pending := by rw [gathered_rest]
  unfold State.opening openRequest State.counted
  split <;> exact g

/-- Either, where what carrying the command out does is known for every state. -/
theorem completes_both {i : Instr} {op : Op} {d : Datagram} {s : State} {P : Issued → State → State → Prop} (hi : i.op? = some (op, d)) (h : Takes op d s) 
    (hs : op.desc.issued = false → Settled (carryOut (requestOf op d s) (s.opening op d)) ∧ (carryOut (requestOf op d s) (s.opening op d)).pending = s.pending)
    (hp : ∀ v, Ready (requestOf op d s) v → P (requestOf op d s) v (carryOut (requestOf op d s) v)) : Completes i op d s P := by
  cases e : op.desc.issued with
  | true => exact completes_issued hi h e hp
  | false =>
    refine completes_served hi h e (hs e).1 ?_
    have := hp _ h.ready
    rw [← (hs e).2]
    exact this
/-- A command answered at once leaves its effect, its answer and its records. -/
theorem leaves_now {q : Issued} {v : State} (h : Ready q v) (h1 : (q.op.run q v).later = false)
    (h2 : (q.op.run q v).status ≠ .accepted) (h3 : ∀ t, (q.op.run q v).post t = t)
    (h4 : (q.op.run q v).st.sys.supUp = v.sys.supUp) (h5 : (q.op.run q v).st.box q.mailbox = v.box q.mailbox) :
    Leaves q (q.op.run q v).status (q.op.run q v).payload (q.op.run q v).st (carryOut q v) := by
  refine ⟨carryOut_answers h h1 h2 h3 h4 h5, ?_⟩
  rw [carryOut_now h h1 h2 h3]
  intro p hp
  cases p <;> first | rfl | (exfalso; exact hp (by simp))

end Sys2Proof.Machine
end

