-- ==== Sys2Proof/WellFormed.lean ====
section
/-! DEFINITION. The commands that a sender or the world outside can give: operands that the types do not bound stay within
what the manual's frames, tables and lands carry. exec answers on the others too; no statement rests on this. -/

namespace Sys2Proof

/-- A request is reassembled up to 4,096 B of UDP payload (R54), of which the header is 20 B, or 16 B in version 1 (R57, R485). -/
def Datagram.wf (d : Datagram) : Bool := d.payload.length + (if d.version = 1 then 16 else 20) ≤ 4096

/-- The data of one IPv4 UDP datagram or echo request. -/
def udpOk (bytes : List Byte) : Bool := bytes.length ≤ 65507

/-- A sub-tick time lies within the longest base period (R36, R44). -/
def subTickOk (ns : Nat) : Bool := ns < 1000000

/-- A PTP timestamp: 48 bits of seconds and nanoseconds below one second. -/
def PtpStamp.wf (p : PtpStamp) : Bool := p.seconds < 2 ^ 48 && p.nanos < 1000000000

/-- A Sync as received (R29). -/
def SyncMessage.wf (m : SyncMessage) : Bool := m.origin.wf && m.followUp.all PtpStamp.wf && subTickOk m.rxSub

/-- An address of the memory regions of R21. -/
def addressExists (addr : Nat) : Bool :=
  addr < 0x1A04000 || (0x8000000 ≤ addr && addr < 0x8100000) || (0x1000000000 ≤ addr && addr < 0x1800000000)

/-- 48 current loops, 16 fast outputs and 4 isolation banks (R101, R200). -/
def TickIO.wf (io : TickIO) : Bool :=
  io.loops.all (·.1 < 48) && io.monitors.all (·.1 < 16) && io.supplies.all (· < 4)

/-- Three readings of a test load (R214, R217); 8 results of each of the 4 reference conversions (R125). -/
def LongOutcome.wf : LongOutcome → Bool
  | .finish => true
  | .timeout => true
  | .measured v => v.length ≤ 3
  | .references results => results.length ≤ 32

/-- The numbers of points, loops, ramps, sequences and repetitive controllers (R77, R147, R186, R194, R223). -/
def MirrorContent.wf : MirrorContent → Bool
  | .changes c =>
    c.forces.all (fun f => f.point < 8192 && f.mailbox < 64) && c.owners.all (·.1 < 8192) && c.swaps.all (·.1 < 1024)
  | .points l => l.all (·.point < 8192)
  | .supervision l => l.all (·.loop < 1024)
  | .ramps l => l.all (·.ramp < 1024)
  | .prompts l => l.all (·.loop < 1024)
  | .sequences l => l.all (·.sequence < 16)
  | .repCells l => l.all fun c => c.rep < 128 && c.slot < 2 && c.index < 4096

/-- A BULK command carries the payload of a request. -/
def BulkItem.wf : BulkItem → Bool
  | .instanceData _ _ _ _ _ => true
  | .command _ payload => payload.length ≤ 4076
  | .swap _ _ => true
  | .recipe _ _ _ => true
  | .program _ _ => true
  | .exchange _ => true
  | .loopState _ _ _ _ => true

/-- A command that its sender can give. -/
def Instr.wf : Instr → Bool
  | .powerGood straps _ => straps.almsel.length = 6
  | .vinBelow17v => true
  | .vinBelow16v => true
  | .resetNLow _ => true
  | .bootComplete => true
  | .lidTempRecheck _ => true
  | .lidWarmReached => true
  | .activationCopyComplete => true
  | .settingsMigration _ => true
  | .delayedRestart => true
  | .supervisorLockstepMismatch => true
  | .supervisorWatchdog => true
  | .supervisorRestartComplete => true
  | .coreFault _ => true
  | .coreWatchdog _ => true
  | .coreRestartComplete _ => true
  | .releaseDeadlineMissed => true
  | .loopEngineRestart => true
  | .acquisitionReset _ => true
  | .memoryCorrectedError addr => addressExists addr
  | .memoryUncorrectableError addr => addressExists addr
  | .nandBlockFault _ => true
  | .thermalLimit _ => true
  | .lidOvertemp => true
  | .tickBoundary io => io.wf
  | .tickPeriodChange => true
  | .fastTick j => j < 20
  | .promptDeadline _ j => j < 20
  | .periodRelease => true
  | .elapsedReached _ => true
  | .scheduledStart _ => true
  | .inputLost _ _ => true
  | .inputFrozen _ _ => true
  | .openTimeout _ => true
  | .autoReturn _ => true
  | .learningResumed _ _ => true
  | .conversionEnd _ result => subTickOk result.sub
  | .slotCountWrap _ => true
  | .clampDetect _ => true
  | .clampRelease _ sub => subTickOk sub
  | .groupWatchdog _ => true
  | .bankSupplyFail _ => true
  | .syncReceived _ m => m.wf
  | .gptpSourceTimeout _ => true
  | .fieldSyncSend => true
  | .pdelayRequest _ => true
  | .halyardEdge _ => true
  | .halyardTimeout => true
  | .backupMasterTakeover => true
  | .halArmDrive => true
  | .halArmEdge _ => true
  | .halFireDrive => true
  | .halFireEdge sub => subTickOk sub
  | .halActDrive => true
  | .halActEdge => true
  | .fieldInputFrame _ arrival _ => arrival.payload.length ≤ 1500 && arrival.sub < 1000000
  | .fieldOutputFrame _ => true
  | .portLinkLoss _ => true
  | .linkRegainTimeout _ => true
  | .acyclicSegment _ payload _ => payload.length ≤ 1500
  | .acyclicTimeout _ => true
  | .uplinkFault _ _ => true
  | .arpRequest _ _ => true
  | .icmpEchoRequest _ _ data => udpOk data
  | .fragmentTimeout _ => true
  | .query _ _ d => d.wf
  | .completionAck _ _ d => d.wf
  | .longRunningCompletion _ outcome => outcome.wf
  | .completionNoticeResend _ => true
  | .snapshotExpiry _ => true
  | .repSnapshotExpiry _ => true
  | .cursorExpiry _ => true
  | .serviceTimeout => true
  | .sessionTimeout => true
  | .cyclicTaskStart _ _ => true
  | .eventTaskStart _ _ => true
  | .taskEnd _ _ cycle => subTickOk cycle.sub && cycle.strays.all (·.1 < 8192)
  | .cigenTrap _ _ _ _ => true
  | .onlineChangeBoundary => true
  | .onlineChangeTimeout => true
  | .recordPacking => true
  | .acknowledgement _ _ bytes => udpOk bytes
  | .pathTimeout => true
  | .probeSend => true
  | .segmentCapture => true
  | .batchCommit => true
  | .tokenRefill _ => true
  | .suppressedSummary => true
  | .safetySample io => io.current.all (·.1 < 12)
  | .confirmationTimeout => true
  | .testPulse _ => true
  | .testPulseEnd _ _ => true
  | .safetyOutputOverload _ => true
  | .axisEvaluation => true
  | .tickMirrorSilent => true
  | .vsafeFault => true
  | .islandMonitorFault => true
  | .islandLockstepMismatch => true
  | .islandWatchdog => true
  | .islandScrub _ _ => true
  | .configConnectionFrame => true
  | .islandFirmwareRestart => true
  | .shroudFrame _ arrival => arrival.bytes.length ≤ 48
  | .shroudDatagram _ _ bytes _ => udpOk bytes
  | .shroudWatchdogExpiry _ => true
  | .pathMissing _ _ => true
  | .pathMissingFault _ _ => true
  | .shroudUplinkSend => true
  | .claimWord _ => true
  | .claimWordTimeout => true
  | .complianceDetect _ _ => true
  | .openLoopDetect _ _ => true
  | .foldback _ _ => true
  | .readbackMismatch _ => true
  | .monitorMismatch _ => true
  | .digitalInputEdge _ _ sub => subTickOk sub
  | .outputOverload _ => true
  | .overloadRetry _ => true
  | .openLoadDetect _ => true
  | .landMismatch _ => true
  | .dsupUndervoltage _ _ => true
  | .heartbeat _ => true
  | .heartbeatSend => true
  | .heartbeatLoss _ => true
  | .stayLinkUp _ => true
  | .mirrorSend => true
  | .mirrorFrame frame => frame.content.wf
  | .loadPoint => true
  | .mirrorDeadline => true
  | .bulkItem arrival => arrival.item.wf
  | .controlFrame _ _ => true
  | .healthFrame _ => true
  | .claimChangeDelayed => true
  | .witnessPromotion => true
  | .witnessLossGiveUp => true
  | .automaticYield => true
  | .selfTestSweep _ measured => measured.length ≤ 3
  | .activationDeadline => true
  | .activationProceed => true
  | .activationRestart => true
  | .autoConfirm => true
  | .confirmationWindowClose => true
  | .identify d => d.wf
  | .getMode d => d.wf
  | .getMailbox d => d.wf
  | .getDrops d => d.wf
  | .getChallenge d => d.wf
  | .enterService d => d.wf
  | .leaveService d => d.wf
  | .enterConfigure d => d.wf
  | .goIdle d => d.wf
  | .restartSupervisor d => d.wf
  | .restartModule d => d.wf
  | .setCompat d => d.wf
  | .setBinding d => d.wf
  | .getBindings d => d.wf
  | .setMailboxPort d => d.wf
  | .getTime d => d.wf
  | .getTimeDetail d => d.wf
  | .setTick d => d.wf
  | .setTimeRole d => d.wf
  | .setGptp d => d.wf
  | .stepTime d => d.wf
  | .readPoints d => d.wf
  | .readRange d => d.wf
  | .takeSnapshot d => d.wf
  | .readSnapshot d => d.wf
  | .freeSnapshot d => d.wf
  | .writePoints d => d.wf
  | .setForce d => d.wf
  | .removeForce d => d.wf
  | .listForces d => d.wf
  | .setPointConfig d => d.wf
  | .getPointConfig d => d.wf
  | .getWriteFaults d => d.wf
  | .getChannelStatus d => d.wf
  | .getGroupStatus d => d.wf
  | .setChannelConfig d => d.wf
  | .getChannelConfig d => d.wf
  | .setEnable d => d.wf
  | .readCalibration d => d.wf
  | .setUserTrim d => d.wf
  | .setFaultThreshold d => d.wf
  | .releaseGroup d => d.wf
  | .clearCounters d => d.wf
  | .getPortStatus d => d.wf
  | .getUplinkStatus d => d.wf
  | .setPortConfig d => d.wf
  | .getPortConfig d => d.wf
  | .releaseNode d => d.wf
  | .writeNodeParams d => d.wf
  | .readNodeParams d => d.wf
  | .setPortFaultThreshold d => d.wf
  | .releasePort d => d.wf
  | .clearPortCounters d => d.wf
  | .setUplink d => d.wf
  | .getUplinkConfig d => d.wf
  | .releaseUplink d => d.wf
  | .getLoopConfig d => d.wf
  | .getLoopStatus d => d.wf
  | .getEngineLoad d => d.wf
  | .setLoopWiring d => d.wf
  | .writeBank d => d.wf
  | .readBank d => d.wf
  | .setSwapGroup d => d.wf
  | .swap d => d.wf
  | .cancelSwap d => d.wf
  | .copyActive d => d.wf
  | .startLoops d => d.wf
  | .stopLoops d => d.wf
  | .setStartState d => d.wf
  | .releaseLoop d => d.wf
  | .setLoopFaultThreshold d => d.wf
  | .setSupervision d => d.wf
  | .getSupervision d => d.wf
  | .returnClosed d => d.wf
  | .enterFallback d => d.wf
  | .setRampConfig d => d.wf
  | .getRamp d => d.wf
  | .setRampTarget d => d.wf
  | .setRampLimits d => d.wf
  | .setRepConfig d => d.wf
  | .getRepStatus d => d.wf
  | .setRepState d => d.wf
  | .snapshotRepMemory d => d.wf
  | .readRepMemory d => d.wf
  | .writeRepMemory d => d.wf
  | .commitRepMemory d => d.wf
  | .clearRepMemory d => d.wf
  | .freeRepSnapshot d => d.wf
  | .getClStatus d => d.wf
  | .getFaoStatus d => d.wf
  | .getDioStatus d => d.wf
  | .setClConfig d => d.wf
  | .getStageConfig d => d.wf
  | .setClAlarm d => d.wf
  | .setFaoConfig d => d.wf
  | .setDioConfig d => d.wf
  | .runTestLoad d => d.wf
  | .releaseStage d => d.wf
  | .setStageFaultThreshold d => d.wf
  | .getSequenceStatus d => d.wf
  | .getSequenceConfig d => d.wf
  | .loadBegin d => d.wf
  | .loadData d => d.wf
  | .loadCommit d => d.wf
  | .discardPending d => d.wf
  | .readImage d => d.wf
  | .start d => d.wf
  | .hold d => d.wf
  | .resume d => d.wf
  | .jump d => d.wf
  | .abort d => d.wf
  | .setSequenceBinding d => d.wf
  | .setSequencePoints d => d.wf
  | .getTaskStatus d => d.wf
  | .getCoreLoad d => d.wf
  | .getProgramInfo d => d.wf
  | .programLoadBegin d => d.wf
  | .programLoadData d => d.wf
  | .programLoadCommit d => d.wf
  | .discardStaged d => d.wf
  | .installStaged d => d.wf
  | .onlineChange d => d.wf
  | .stopTask d => d.wf
  | .startTask d => d.wf
  | .resetCore d => d.wf
  | .setVarForce d => d.wf
  | .removeVarForce d => d.wf
  | .listVarForces d => d.wf
  | .readVariables d => d.wf
  | .clearTaskCounters d => d.wf
  | .setStartKind d => d.wf
  | .clearRetentive d => d.wf
  | .getStreamStatus d => d.wf
  | .getTriggerStatus d => d.wf
  | .getSegmentStatus d => d.wf
  | .setStreamConfig d => d.wf
  | .setRecordSet d => d.wf
  | .setFastSet d => d.wf
  | .getStreamConfig d => d.wf
  | .setTrigger d => d.wf
  | .getTrigger d => d.wf
  | .enableTriggers d => d.wf
  | .hostMark d => d.wf
  | .setArm d => d.wf
  | .setSegmentConfig d => d.wf
  | .readSegmentHeader d => d.wf
  | .readSegmentData d => d.wf
  | .clearSegments d => d.wf
  | .readSkewTable d => d.wf
  | .getRecorderStatus d => d.wf
  | .openCursor d => d.wf
  | .readWindow d => d.wf
  | .closeCursor d => d.wf
  | .getCodeInfo d => d.wf
  | .setRateLimit d => d.wf
  | .getClearChallenge d => d.wf
  | .clearAudit d => d.wf
  | .getSafetyStatus d => d.wf
  | .getInputPair d => d.wf
  | .getSafetyOutput d => d.wf
  | .getAxis d => d.wf
  | .getConfigInfo d => d.wf
  | .readConfig d => d.wf
  | .getShroudConnection d => d.wf
  | .openSession d => d.wf
  | .closeSession d => d.wf
  | .configBegin d => d.wf
  | .configData d => d.wf
  | .configCheck d => d.wf
  | .confirm d => d.wf
  | .setPassword d => d.wf
  | .safetyDiscardPending d => d.wf
  | .getPairStatus d => d.wf
  | .getHealthReport d => d.wf
  | .getWitnesses d => d.wf
  | .setPairConfig d => d.wf
  | .getPairConfig d => d.wf
  | .handover d => d.wf
  | .resync d => d.wf
  | .getUpdateStatus d => d.wf
  | .stageBegin d => d.wf
  | .stageData d => d.wf
  | .stageVerify d => d.wf
  | .stageDiscard d => d.wf
  | .scheduleActivation d => d.wf
  | .groupReady d => d.wf
  | .cancelActivation d => d.wf
  | .updateConfirm d => d.wf
  | .reject d => d.wf
  | .getHealth d => d.wf
  | .getResetHistory d => d.wf
  | .listRetired d => d.wf
  | .getFaultCounter d => d.wf
  | .getEccStatus d => d.wf
  | .listRetiredPages d => d.wf
  | .resetDomain d => d.wf
  | .clearFaultCounter d => d.wf
  | .getFuses d => d.wf
  | .getStraps d => d.wf
  | .setCommissioningKey d => d.wf
  | .setDebugLock d => d.wf
  | .monHelp _ => true
  | .monId => true
  | .monMode => true
  | .monHealth => true
  | .monTick => true
  | .monitorTickLine => true
  | .monPt _ _ => true
  | .monRec _ => true
  | .monTrace => true
  | .portLinkUp _ => true
  | .serviceLinkDown => true
  | .claimWordSend => true
  | .gradeCapExpiry _ => true
  | .peerDelayMeasurement _ _ => true
  | .monitorCharacterReceived _ => true

end Sys2Proof
end

