-- ==== Sys2Proof/Tests/Slice0.lean ====
section
/-! SUPPORT. Tests: ill-formed terms that WellFormed refuses, states and requests that meet the hypotheses of the statements
(Certificates/Slice0/Obligations.lean), and single steps whose results the manual gives. -/

set_option maxRecDepth 100000

namespace Sys2Proof.Tests

open Sys2Proof.Machine

/-! ### States and requests of the tests -/

/-- A state with the health grade and the claim that it gives (R387 to R389). -/
def tidy (s : State) : State :=
  let p := { s.par with grade := s.gradeNow }
  let t : State := { s with par := p }
  let p := { p with own := t.claimNow }
  { t with par := p }

/-- The state after reset, taken to a mode and changed by `f`. -/
def at' (m : Mode) (f : State → State := id) : State :=
  let y := { State.reset.sys with mode := m }
  tidy (f { State.reset with sys := y })

/-- The request of a command with a payload, for a mailbox of the role that the factory bindings give (R66), with its CRC. -/
def ask (op : Op) (payload : List Byte) : Datagram :=
  let m : Byte := match op.desc.role with
    | .safety => 2 | .service => 0 | .observe => 3 | .unbound | .operate | .engineer => 4
  let d : Datagram := { path := if m.toNat < 4 then .service else .u0, dstAddr := if m.toNat < 4 then 0xA9FE6030 else 0xC0A8300A,
                        mailbox := m, tag := 1, length := BitVec.ofNat 16 payload.length, payload }
  { d with crc := BitVec.ofNat 32 (crc32c (requestHead op.desc.cls op.desc.opcode d ++ payload)) }

/-- What makes a state settled, as far as a closed test state needs it. -/
def settledB (s : State) : Bool :=
  s.sys.resetDue == none && !s.onTrial && s.par.grade == s.gradeNow && s.par.own == s.claimNow &&
    (!s.effMode.idles || s.cfg.points.cells.all fun c => c.2.owner != 1 ||
      match s.idleValue c.1 with | none => true | some v => (s.ownEntry c.1).value == v)

theorem settled_of_check {s : State} (h : settledB s = true) : Settled s := by
  simp only [settledB, Bool.and_eq_true, beq_iff_eq, Bool.not_eq_true', List.all_eq_true, Bool.or_eq_true, bne_iff_ne] at h
  obtain ⟨⟨⟨⟨a, b⟩, c⟩, d⟩, e⟩ := h
  refine ⟨a, fun i x hx ho v hv => ?_, if_pos (by rw [b]; rfl), c, fun _ _ => d⟩
  have := (e.resolve_left (by simp [i])) x hx
  rw [hv] at this
  simpa [ho] using this

theorem live_of_check {s : State} (h : settledB s = true) (r : s.sys.inReset = false) : Live s := ⟨settled_of_check h, r⟩

/-- The hypotheses of `Takes` on a request and a state, for a request of version 2 without flags or start count. -/
def arrivesB (op : Op) (d : Datagram) (s : State) : Bool :=
  !s.sys.inReset && !s.deaf d && d.fragment == none && headerGood d s && crcGood op.desc.cls op.desc.opcode d &&
    Path.serves d.path d.mailbox.toNat && decide ((s.binding d.mailbox.toNat).role ≠ .unbound) &&
    (s.binding d.mailbox.toNat).admits d.srcAddr d.srcPort &&
    (!s.starting || decide (d.mailbox.toNat < 4)) && d.startCount == 0 && d.flags == 0 &&
    decide ((s.box d.mailbox.toNat).state = .empty) && (s.binding d.mailbox.toNat).role.includes op.desc.role &&
    let q := requestOf op d s
    let u := s.opening op d
    u.sys.supUp && u.holds q && !u.auditFull && (u.box q.mailbox).version != 1

theorem takes_of_arrival {op : Op} {d : Datagram} {s : State} (h0 : Settled s) (h : arrivesB op d s = true)
    (r3 : (s.opening op d).failure op (requestOf op d s) = none) : Takes op d s := by
  simp only [arrivesB, Bool.and_eq_true, Bool.not_eq_true', decide_eq_true_eq, beq_iff_eq, bne_iff_ne] at h
  simp only [Bool.or_eq_true, Bool.not_eq_true', decide_eq_true_eq] at h
  obtain ⟨⟨⟨⟨⟨⟨⟨⟨⟨⟨⟨⟨⟨h1, h2⟩, hf⟩, h3⟩, h4⟩, h5⟩, h6⟩, h7⟩, hs⟩, h8⟩, h9⟩, h10⟩, h11⟩, ⟨⟨r1, r2⟩, r4⟩, r5⟩ := h
  refine ⟨h0, ⟨h1, h2, ?_, h3, h4, h5, h6, h7, hs, .inr (.inl h8), ?_, ?_, .inl h10⟩, h11, ⟨r1, r2, r3, r4, ?_⟩⟩
  · simp [State.entire, hf]
  · rw [h9]; decide
  · simp [Mailbox.isOpen, h10]
  · exact fun v => absurd v r5

def takesB (op : Op) (d : Datagram) (s : State) : Bool :=
  settledB s && arrivesB op d s && (s.opening op d).failure op (requestOf op d s) == none

theorem takes_of_check {op : Op} {d : Datagram} {s : State} (h : takesB op d s = true) : Takes op d s := by
  simp only [takesB, Bool.and_eq_true, beq_iff_eq] at h
  exact takes_of_arrival (settled_of_check h.1.1) h.1.2 h.2

/-- A payload from the widths in bytes and the values of its fields; the field (0, n) is the CRC-32C of all before it but
the first n bytes. -/
def pay (l : List (Nat × Nat)) : List Byte :=
  l.foldl (fun a x => if x.1 = 0 then a ++ le 4 (crc32c (a.drop x.2)) else a ++ le x.1 x.2) []

/-- A command, the fields of its payload and a state. -/
abbrev Case := Op × List (Nat × Nat) × State

theorem takes_all {l : List Case} (h : (l.all fun c => takesB c.1 (ask c.1 (pay c.2.1)) c.2.2) = true) :
    ∀ c ∈ l, Takes c.1 (ask c.1 (pay c.2.1)) c.2.2 :=
  fun c hc => takes_of_check (List.all_eq_true.1 h c hc)

/-! ### Requests that are taken: every command, at the ends of the ranges of its arguments -/

def idle : State := at' .idle
def conf : State := at' .configure
def serv : State := at' .service
def zeros (n : Nat) : List Byte := List.replicate n 0
def retiring (r : Nat) (s : State) : State := { s with sys.retired := [{ resource := r, tick := 0, cause := 0 }] }
def looped : Wiring := { nx := 1, ny := 1, nu := 1, nr := 1, repetitive := true, repIndex := 127 }
def loopAt (l : Nat) (r : RunState) (s : State) : State :=
  updLoop l (fun x => { x with run := r, byCommand := true }) { s with cfg.loops := s.cfg.loops.put l { wiring := looped } }
def owning (p : Nat) (o : Byte) (f : Byte) (s : State) : State :=
  { s with cfg.points := s.cfg.points.put p { owner := o, format := f }, pts.inForce := s.pts.inForce.put p { owner := o, format := f } }
def snap : Snapshot := { tick := 0, entries := {}, owners := {}, used := 0 }
def repSnap : RepSnap := { rep := 0, tick := 0, period := 0x20000, mem0 := {}, mem1 := {}, used := 0 }
def step0 : Machine.Step := { assigns := [], trans := [], pause := false }
def recipe0 : Image := { recipe := 1, period := 100, abortFirst := 1, steps := [step0, step0], bytes := [1] }
def seqAt (r : SeqRun) (s : State) : State := updSeq 15 (fun x => { x with run := r, active := some recipe0 }) s
def task0 : TaskRec :=
  { core := 3, task := 7, priority := 0, event := false, cycle := 1, phase := 0, trigPoint := 0, trigOp := 0, maxSkips := 0,
    level := 0, hyst := 0, inputs := [], outputs := [], latches := [] }
def prog0 : ProgSet := { id := 1, name := [], period := 100, instanceLen := 0, retentiveLen := 0, crc := 0, tasks := [task0], bytes := [] }
def cursorFor (m : Nat) (s : State) : State :=
  { s with rcd.cursors := s.rcd.cursors.put 15 { mailbox := m, audit := false, pos := 0 } }
def noSafety : SafetyCfg :=
  { pairs := [], logic := [], outputs := [], forceOff := [], holds := [], lockout := none, flags := [], lockStages := [],
    lockAxes := [], axes := [], conns := [], confirmTail := [] }
def inSession (f : State → State := id) : State :=
  at' .service fun s => f { s with saf.session := some (2, 0), saf.password := some (0, 0) }
def paired (r : PairMode) (s : State) : State := { s with cfg.pair := { paired := true }, par.role := r }

def moduleCases : List Case :=
  [(.identify, [], idle),
   (.getMode, [], idle),
   (.getMailbox, [(1, 63)], idle),
   (.getDrops, [], idle),
   (.getChallenge, [], idle),
   (.enterService, [(32, 0)], idle),
   (.leaveService, [], serv),
   (.enterConfigure, [], idle)] ++
  [(.goIdle, [], at' .configure fun s => { s with cfg.freeRun := true }),
   (.goIdle, [], at' .configure fun s => paired .unpaired { s with cfg.freeRun := true }),
   (.restartSupervisor, [], idle),
   (.restartModule, [], idle),
   (.setCompat, [(1, 3)], conf),
   (.setBinding, [(1, 63), (1, 0), (10, 0)], serv),
   (.getBindings, [], idle),
   (.setMailboxPort, [(2, 1024)], serv)] ++
  [(.getTime, [], idle),
   (.getTimeDetail, [], idle),
   (.setTick, [(2, 1000), (1, 10)], conf),
   (.setTimeRole, [(1, 0), (4, 0)], conf),
   (.setTimeRole, [(1, 1), (4, 0)], conf),
   (.setGptp, [(1, 127), (1, 1)], conf),
   (.stepTime, [], conf)]

/-- Hypotheses of SupervisorCommandsTakeEffect, RestartSupervisorResetsItsDomain, ModeCommandsChangeTheMode, TimeCommandsTakeEffect, ReadsChangeNothing, PassedCommandsAreIssued. -/
theorem module_requests_are_taken : ∀ c ∈ moduleCases, Takes c.1 (ask c.1 (pay c.2.1)) c.2.2 := takes_all (by decide +kernel)

def pointsCases : List Case :=
  [(.readPoints, [(2, 1), (2, 8191)], idle),
   (.readRange, [(2, 8191), (2, 1)], idle),
   (.takeSnapshot, [], idle),
   (.readSnapshot, [(1, 3), (2, 8191), (2, 1)], at' .idle fun s => { s with pts.snaps := s.pts.snaps.put 3 snap }),
   (.freeSnapshot, [(1, 3)], at' .idle fun s => { s with pts.snaps := s.pts.snaps.put 3 snap }),
   (.writePoints, [(2, 1), (2, 1023), (4, 0)], at' .idle fun s => owning 1023 0x40 0 s),
   (.setForce, [(2, 0), (4, 0)], idle),
   (.removeForce, [(2, 0xFFFF)], idle)] ++
  [(.listForces, [(2, 0)], idle),
   (.setPointConfig, [(6, 0)], conf),
   (.getPointConfig, [(2, 7192), (2, 1000)], idle),
   (.getWriteFaults, [], idle)]

/-- Hypotheses of WritePointsWritesThem, ForcesAreSetAndRemoved, PointConfigAndSnapshots, ReadsChangeNothing. -/
theorem points_requests_are_taken : ∀ c ∈ pointsCases, Takes c.1 (ask c.1 (pay c.2.1)) c.2.2 := takes_all (by decide +kernel)

def analogueCases : List Case :=
  [(.getChannelStatus, [(1, 95)], idle),
   (.getGroupStatus, [(1, 11)], idle),
   (.setChannelConfig, [(1, 95), (1, 1), (1, 0), (1, 0), (1, 0)], conf),
   (.setChannelConfig, [(1, 0), (1, 96), (1, 0), (1, 0), (1, 0)], conf),
   (.getChannelConfig, [(1, 95), (1, 1)], idle),
   (.setEnable, [(1, 95), (1, 0)], idle),
   (.readCalibration, [(3, 0)], idle),
   (.setUserTrim, [(1, 95), (1, 4), (4, 0x3F800000), (4, 0)], idle)] ++
  [(.setFaultThreshold, [(1, 0xFF), (1, 1), (2, 100)], conf),
   (.setFaultThreshold, [(1, 11), (1, 15), (2, 60000)], conf),
   (.releaseGroup, [(1, 11)], at' .idle fun s => retiring (resource 2 11) s),
   (.clearCounters, [(1, 0xFF)], idle),
   (.clearCounters, [(1, 11)], idle)]

/-- Hypotheses of AnalogueCommandsTakeEffect, ReadsChangeNothing. -/
theorem analogue_requests_are_taken : ∀ c ∈ analogueCases, Takes c.1 (ask c.1 (pay c.2.1)) c.2.2 := takes_all (by decide +kernel)

def portsCases : List Case :=
  [(.getPortStatus, [(1, 47)], idle),
   (.getUplinkStatus, [(1, 3)], idle),
   (.setPortConfig, [(1, 47), (1, 1), (1, 0), (1, 1), (1, 1), (1, 0), (2, 20), (2, 30), (1, 2), (4, 0)], conf),
   (.getPortConfig, [(1, 47)], idle),
   (.releaseNode, [(1, 47)], idle),
   (.writeNodeParams, [(1, 47), (2, 1), (1, 0)], idle),
   (.readNodeParams, [(1, 47)], idle),
   (.setPortFaultThreshold, [(1, 0xFF), (1, 1), (2, 100)], conf)] ++
  [(.setPortFaultThreshold, [(1, 51), (1, 1), (2, 60000)], conf),
   (.releasePort, [(1, 47)], at' .idle fun s => retiring (resource 7 47) s),
   (.clearPortCounters, [(1, 0xFF)], idle),
   (.clearPortCounters, [(1, 47)], idle),
   (.setUplink, [(1, 3), (1, 1), (12, 0), (2, 9000)], serv),
   (.getUplinkConfig, [(1, 3)], idle),
   (.releaseUplink, [(1, 3)], at' .idle fun s => retiring (uplinkResource 3) s)]

/-- Hypotheses of PortSettingsTakeEffect, PortWorkGoesOn, ReadsChangeNothing. -/
theorem ports_requests_are_taken : ∀ c ∈ portsCases, Takes c.1 (ask c.1 (pay c.2.1)) c.2.2 := takes_all (by decide +kernel)

def loopsCases : List Case :=
  [(.getLoopConfig, [(2, 1023)], idle),
   (.getLoopStatus, [(2, 1023)], idle),
   (.getEngineLoad, [], idle),
   (.setLoopWiring, [(2, 1023), (1, 1), (1, 1), (1, 1), (1, 0), (1, 0), (1, 0), (1, 0), (1, 0), (16, 0), (2, 1022), (22, 0), (1, 0xFF), (11, 0), (0, 2)], at' .configure fun s => owning 1022 1 0 s),
   (.writeBank, [(2, 1023), (896, 0), (0, 2)], idle),
   (.readBank, [(2, 1023), (1, 1)], idle),
   (.setSwapGroup, [(1, 63), (2, 1), (2, 1023)], idle),
   (.swap, [(1, 0), (2, 1023), (8, 0)], at' .idle fun s => loopAt 1023 .off s)] ++
  [(.swap, [(1, 0), (2, 1023), (8, 2)], at' .idle fun s => loopAt 1023 .off s),
   (.cancelSwap, [(1, 0), (2, 1023)], idle),
   (.copyActive, [(2, 1023)], idle),
   (.startLoops, [(2, 1), (2, 1023)], at' .idle fun s => loopAt 1023 .off s),
   (.stopLoops, [(2, 1), (2, 1023)], at' .run fun s => loopAt 1023 .closed s),
   (.setStartState, [(2, 1023), (32, 0)], idle),
   (.releaseLoop, [(2, 1023)], at' .idle fun s => retiring (loopResource 1023) s),
   (.setLoopFaultThreshold, [(2, 0xFFFF), (1, 1), (2, 100)], conf)] ++
  [(.setLoopFaultThreshold, [(2, 1023), (1, 15), (2, 60000)], conf),
   (.setSupervision, [(2, 1023), (2, 3), (2, 3), (2, 3), (2, 3), (2, 2), (2, 2), (2, 2), (2, 2), (1, 0), (1, 2), (1, 2), (1, 0), (2, 1), (2, 1), (16, 0), (4, 0x3F800000), (4, 0x3F800000), (4, 0x3F800000), (4, 0x3F800000), (4, 0), (0, 2)], idle),
   (.getSupervision, [(2, 1023)], idle),
   (.returnClosed, [(2, 1023)], at' .run fun s => loopAt 1023 .hold s),
   (.enterFallback, [(2, 1023), (1, 4)], at' .run fun s => loopAt 1023 .closed s)]

/-- Hypotheses of LoopSettingsTakeEffect, LoopCommandsWaitForTheirTick, SwapsAndLoopRelease, ReadsChangeNothing. -/
theorem loops_requests_are_taken : ∀ c ∈ loopsCases, Takes c.1 (ask c.1 (pay c.2.1)) c.2.2 := takes_all (by decide +kernel)

def rampsCases : List Case :=
  [(.setRampConfig, [(2, 1023), (1, 1), (2, 0xFFFF), (2, 0xFFFF), (12, 0), (4, 0x3F800000), (4, 0)], conf),
   (.getRamp, [(2, 1023)], idle),
   (.setRampTarget, [(2, 1023), (4, 0)], at' .idle fun s => { s with cfg.ramps := s.cfg.ramps.put 1023 { source := 1 } }),
   (.setRampLimits, [(2, 1023), (4, 0x3F800000), (4, 0)], at' .idle fun s => { s with cfg.ramps := s.cfg.ramps.put 1023 { source := 1 } }),
   (.setRepConfig, [(1, 127), (4, 0x20000), (2, 1), (2, 1), (1, 0), (1, 0xFF), (1, 0), (1, 0), (24, 0), (4, 0x3F800000), (4, 0x3F800000), (2, 0xFFFF), (2, 1023), (12, 0), (0, 1)], at' .configure fun s => loopAt 1023 .off s),
   (.getRepStatus, [(1, 127)], idle),
   (.setRepState, [(1, 127), (1, 2)], at' .idle fun s => { s with cfg.reps := s.cfg.reps.put 127 { period := 0x20000 } }),
   (.snapshotRepMemory, [(1, 127)], at' .idle fun s => { s with cfg.reps := s.cfg.reps.put 127 { period := 0x20000 } })] ++
  [(.readRepMemory, [(1, 3), (1, 1), (2, 1), (2, 1)], at' .idle fun s => { s with rmp.snaps := s.rmp.snaps.put 3 repSnap }),
   (.writeRepMemory, [(1, 127), (1, 1), (2, 1), (2, 1), (4, 0)], at' .idle fun s => { s with cfg.reps := s.cfg.reps.put 127 { period := 0x20000 } }),
   (.commitRepMemory, [(1, 127), (8, 0)], idle),
   (.clearRepMemory, [(1, 127)], idle),
   (.freeRepSnapshot, [(1, 3)], at' .idle fun s => { s with rmp.snaps := s.rmp.snaps.put 3 repSnap })]

/-- Hypotheses of RampAndRepetitiveCommands, ReadsChangeNothing. -/
theorem ramps_requests_are_taken : ∀ c ∈ rampsCases, Takes c.1 (ask c.1 (pay c.2.1)) c.2.2 := takes_all (by decide +kernel)

def stagesCases : List Case :=
  [(.getClStatus, [(1, 47)], idle),
   (.getFaoStatus, [(1, 15)], idle),
   (.getDioStatus, [(1, 63)], idle),
   (.setClConfig, [(1, 47), (9, 0)], conf),
   (.getStageConfig, [(1, 2), (1, 63)], idle),
   (.setClAlarm, [(1, 47), (1, 1)], idle),
   (.setFaoConfig, [(1, 15), (5, 0)], conf),
   (.setDioConfig, [(1, 63), (1, 1), (1, 1), (1, 0), (1, 0), (1, 0)], conf)] ++
  [(.runTestLoad, [(1, 0), (1, 47)], conf),
   (.runTestLoad, [(1, 1), (1, 15)], conf),
   (.releaseStage, [(1, 0), (1, 47)], at' .idle fun s => retiring (stageResource 0 47) s),
   (.releaseStage, [(1, 2), (1, 63)], at' .idle fun s => retiring (stageResource 2 63) s),
   (.setStageFaultThreshold, [(1, 0), (1, 0xFF), (1, 1), (2, 100)], conf),
   (.setStageFaultThreshold, [(1, 2), (1, 63), (1, 15), (2, 60000)], conf)]

/-- Hypotheses of StageCommandsTakeEffect, ReadsChangeNothing. -/
theorem stages_requests_are_taken : ∀ c ∈ stagesCases, Takes c.1 (ask c.1 (pay c.2.1)) c.2.2 := takes_all (by decide +kernel)

def sequencesCases : List Case :=
  [(.getSequenceStatus, [(1, 15)], idle),
   (.getSequenceConfig, [(1, 15)], idle),
   (.loadBegin, [(1, 15), (4, 68), (8, 1)], idle),
   (.loadData, [(1, 15), (4, 67), (2, 1), (1, 0)], at' .idle fun s => updSeq 15 (fun x => { x with load := some { len := 68, id := 1 } }) s),
   (.loadCommit, [(1, 15), (4, 0)], at' .idle fun s => updSeq 15 (fun x => { x with load := some { len := 68, id := 1 } }) s),
   (.discardPending, [(1, 15)], idle),
   (.readImage, [(1, 15), (1, 0), (4, 0), (2, 1)], at' .idle fun s => seqAt .ready s),
   (.start, [(1, 15), (2, 0), (8, 0)], at' .idle fun s => seqAt .ready s)] ++
  [(.start, [(1, 15), (2, 0), (8, 2)], at' .idle fun s => seqAt .ready s),
   (.hold, [(1, 15)], idle),
   (.hold, [(1, 0xFF)], idle),
   (.resume, [(1, 15)], idle),
   (.resume, [(1, 0xFF)], idle),
   (.jump, [(1, 15), (2, 0)], at' .run fun s => seqAt .running s),
   (.abort, [(1, 15)], at' .run fun s => seqAt .running s),
   (.abort, [(1, 0xFF)], idle)] ++
  [(.setSequenceBinding, [(1, 15), (2, 0)], conf),
   (.setSequencePoints, [(1, 15), (2, 0xFFFF), (2, 0xFFFF)], conf)]

/-- Hypotheses of SequenceCommandsTakeEffect, ReadsChangeNothing. -/
theorem sequences_requests_are_taken : ∀ c ∈ sequencesCases, Takes c.1 (ask c.1 (pay c.2.1)) c.2.2 := takes_all (by decide +kernel)

def programsCases : List Case :=
  [(.getTaskStatus, [(1, 3), (1, 7)], idle),
   (.getCoreLoad, [(1, 3)], idle),
   (.getProgramInfo, [(1, 1)], at' .idle fun s => { s with prg.staged := some prog0 }),
   (.programLoadBegin, [(4, 68), (8, 0)], idle),
   (.programLoadData, [(4, 67), (2, 1), (1, 0)], at' .idle fun s => { s with prg.load := some { len := 68, id := 1 } }),
   (.programLoadCommit, [(4, 0)], at' .idle fun s => { s with prg.load := some { len := 68, id := 1 } }),
   (.discardStaged, [], idle),
   (.installStaged, [], at' .configure fun s => { s with prg.staged := some prog0 })] ++
  [(.onlineChange, [(8, 0), (2, 0)], at' .idle fun s => { s with prg.staged := some prog0, prg.running := some prog0 }),
   (.stopTask, [(1, 3), (1, 7)], at' .idle fun s => { s with prg.running := some prog0 }),
   (.startTask, [(1, 3), (1, 7)], at' .idle fun s => { s with prg.running := some prog0 }),
   (.resetCore, [(1, 3)], idle),
   (.removeVarForce, [(1, 0)], idle),
   (.listVarForces, [(2, 0)], idle),
   (.clearTaskCounters, [(1, 3)], idle),
   (.setStartKind, [(1, 1)], conf)] ++
  [(.clearRetentive, [], conf)]

/-- Hypotheses of ProgramSettingsTakeEffect, TaskCommandsTakeEffect, ReadsChangeNothing. -/
theorem programs_requests_are_taken : ∀ c ∈ programsCases, Takes c.1 (ask c.1 (pay c.2.1)) c.2.2 := takes_all (by decide +kernel)

def acquisitionCases : List Case :=
  [(.getStreamStatus, [], idle),
   (.getTriggerStatus, [(1, 63)], idle),
   (.getSegmentStatus, [], idle),
   (.setStreamConfig, [(1, 0), (2, 1000), (10, 0), (2, 100), (7, 0)], conf),
   (.setRecordSet, [(2, 8191), (2, 1), (1, 1)], conf),
   (.setFastSet, [(1, 0)], conf),
   (.getStreamConfig, [], idle),
   (.setTrigger, [(1, 63), (1, 0), (2, 95), (1, 0), (1, 1), (1, 3), (8, 0)], idle)] ++
  [(.getTrigger, [(1, 63)], idle),
   (.enableTriggers, [(9, 0)], idle),
   (.hostMark, [(4, 0)], idle),
   (.setArm, [(1, 1)], idle),
   (.setSegmentConfig, [(2, 1024), (4, 16), (4, 15), (2, 1), (1, 0)], conf),
   (.readSegmentHeader, [(2, 1023)], at' .idle fun s => { s with acq.segs := s.acq.segs.put 1023 { captures := [[]] } }),
   (.readSegmentData, [(2, 1023), (4, 0), (2, 1)], at' .idle fun s => { s with acq.segs := s.acq.segs.put 1023 { captures := [[]] } }),
   (.clearSegments, [], idle)] ++
  [(.readSkewTable, [], idle)]

/-- Hypotheses of AcquisitionCommandsTakeEffect, ReadsChangeNothing. -/
theorem acquisition_requests_are_taken : ∀ c ∈ acquisitionCases, Takes c.1 (ask c.1 (pay c.2.1)) c.2.2 := takes_all (by decide +kernel)

def recorderCases : List Case :=
  [(.getRecorderStatus, [], idle),
   (.openCursor, [(10, 0)], idle),
   (.readWindow, [(1, 15), (1, 0)], at' .idle fun s => cursorFor 3 s),
   (.closeCursor, [(1, 15)], at' .idle fun s => cursorFor 3 s),
   (.getCodeInfo, [(2, 1)], idle),
   (.setRateLimit, [(2, 0x1004), (1, 1), (4, 10)], conf),
   (.getClearChallenge, [], serv)]

/-- Hypotheses of RecorderCommandsTakeEffect, ReadsChangeNothing. -/
theorem recorder_requests_are_taken : ∀ c ∈ recorderCases, Takes c.1 (ask c.1 (pay c.2.1)) c.2.2 := takes_all (by decide +kernel)

def safetyCases : List Case :=
  [(.getSafetyStatus, [], idle),
   (.getInputPair, [(1, 23)], idle),
   (.getSafetyOutput, [(1, 11)], idle),
   (.getAxis, [(1, 31)], idle),
   (.getConfigInfo, [], idle),
   (.readConfig, [(4, 0), (2, 1)], at' .idle fun s => { s with saf.image := [1] }),
   (.getShroudConnection, [(1, 63)], idle),
   (.openSession, [(1, 0)], serv)] ++
  [(.closeSession, [], inSession),
   (.configBegin, [(4, 36)], inSession),
   (.configData, [(4, 35), (2, 1), (1, 0)], inSession fun s => { s with saf.load := some { len := 36, id := 0 } }),
   (.configCheck, [], inSession fun s => { s with saf.load := some { len := 36, id := 0 } }),
   (.confirm, [(4, 7)], inSession fun s => { s with saf.pending := some ([], 7, noSafety) }),
   (.setPassword, [(1, 8), (8, 0), (1, 8), (8, 0)], inSession),
   (.safetyDiscardPending, [], inSession)]

/-- Hypotheses of SafetyCommandsTakeEffect, IslandReadsChangeNothing, ReadsChangeNothing. -/
theorem safety_requests_are_taken : ∀ c ∈ safetyCases, Takes c.1 (ask c.1 (pay c.2.1)) c.2.2 := takes_all (by decide +kernel)

def pairCases : List Case :=
  [(.getPairStatus, [], idle),
   (.getHealthReport, [(1, 0)], idle),
   (.getWitnesses, [], idle),
   (.setPairConfig, [(1, 1), (1, 0), (8, 0), (1, 3), (1, 1), (1, 7)], conf),
   (.getPairConfig, [], idle),
   (.handover, [], at' .idle fun s => paired .active { s with par.peerRole := 3 }),
   (.resync, [], at' .standby)]

/-- Hypotheses of PairCommandsTakeEffect, ReadsChangeNothing. -/
theorem pair_requests_are_taken : ∀ c ∈ pairCases, Takes c.1 (ask c.1 (pay c.2.1)) c.2.2 := takes_all (by decide +kernel)

def updateCases : List Case :=
  [(.getUpdateStatus, [], idle),
   (.stageBegin, [(4, 1), (48, 0)], serv),
   (.stageData, [(4, 0), (2, 1), (1, 0)], at' .service fun s => { s with upd.stage := { state := .partly }, upd.stageLen := 1 }),
   (.stageVerify, [], serv),
   (.stageDiscard, [], serv),
   (.scheduleActivation, [(8, 1000000000), (4, 7), (2, 1), (1, 0), (2, 10)], idle),
   (.groupReady, [(4, 7), (2, 1)], at' .idle fun s => { s with upd.schedule := some { at_ := 20000, group := 7, members := 1, auto := false, hold := 0 } }),
   (.cancelActivation, [], idle)]

/-- Hypotheses of UpdateCommandsTakeEffect, ReadsChangeNothing. -/
theorem update_requests_are_taken : ∀ c ∈ updateCases, Takes c.1 (ask c.1 (pay c.2.1)) c.2.2 := takes_all (by decide +kernel)

def faultsCases : List Case :=
  [(.getHealth, [], idle),
   (.getResetHistory, [], idle),
   (.listRetired, [(2, 0)], idle),
   (.getFaultCounter, [(4, resource 2 11)], idle),
   (.getEccStatus, [(1, 2)], idle),
   (.listRetiredPages, [(4, 0)], idle),
   (.resetDomain, [(1, 0), (1, 0)], idle),
   (.resetDomain, [(1, 1), (1, 53)], idle),
   (.resetDomain, [(1, 2), (1, 11)], idle)] ++
  [(.clearFaultCounter, [(4, resource 2 11)], idle),
   (.getFuses, [], idle),
   (.getStraps, [], idle),
   (.setCommissioningKey, [(32, 0), (0, 0)], serv),
   (.setDebugLock, [(4, 0xDEB610CC)], serv)]

/-- Hypotheses of FaultCommandsTakeEffect, ReadsChangeNothing. -/
theorem faults_requests_are_taken : ∀ c ∈ faultsCases, Takes c.1 (ask c.1 (pay c.2.1)) c.2.2 := takes_all (by decide +kernel)

/-! ### WellFormed refuses (one ill-formed term for each check) -/

theorem test_wf_refuses_long_request : Instr.wf (.getMode { payload := zeros 4077 }) = false := by decide +kernel
theorem test_wf_refuses_long_query : Instr.wf (.query 1 2 { version := 1, payload := zeros 4081 }) = false := by decide +kernel
theorem test_wf_refuses_missing_straps : Instr.wf (.powerGood {} { lidCenti := 0, memoryReady := true }) = false := by decide
theorem test_wf_refuses_address_gap : Instr.wf (.memoryCorrectedError 0x1A04000) = false := by decide
theorem test_wf_refuses_address_above : Instr.wf (.memoryUncorrectableError 0x1800000000) = false := by decide
theorem test_wf_refuses_current_loop_48 :
    Instr.wf (.tickBoundary { loops := [(48, { readback := 0, loopVolts := 0, junction := 0 })] }) = false := by decide
theorem test_wf_refuses_fast_output_16 : Instr.wf (.tickBoundary { monitors := [(16, 0)] }) = false := by decide
theorem test_wf_refuses_bank_4 : Instr.wf (.tickBoundary { supplies := [4] }) = false := by decide
theorem test_wf_refuses_fast_tick_20 : Instr.wf (.fastTick 20) = false ∧ Instr.wf (.promptDeadline 0 20) = false := by decide
theorem test_wf_refuses_late_stamps :
    Instr.wf (.conversionEnd 0 { code := 0, sub := 1000000 }) = false ∧ Instr.wf (.clampRelease 0 1000000) = false ∧
    Instr.wf (.halFireEdge 1000000) = false ∧ Instr.wf (.digitalInputEdge 0 true 1000000) = false ∧
    Instr.wf (.taskEnd 0 0 { sub := 1000000 }) = false := by decide
theorem test_wf_refuses_stray_point : Instr.wf (.taskEnd 0 0 { strays := [(8192, 0)] }) = false := by decide
theorem test_wf_refuses_long_frames :
    Instr.wf (.fieldInputFrame 0 ⟨[], 1000000⟩ true) = false ∧ Instr.wf (.fieldInputFrame 0 ⟨List.replicate 1501 0, 0⟩ true) = false ∧
    Instr.wf (.acyclicSegment 0 (List.replicate 1501 0) true) = false ∧
    Instr.wf (.shroudFrame 0 { bytes := zeros 49, stampNs := 0, path := 0 }) = false := by decide +kernel
theorem test_wf_refuses_bad_timestamps :
    Instr.wf (.syncReceived 0 { origin := { seconds := 2 ^ 48 } }) = false ∧
    Instr.wf (.syncReceived 0 { followUp := some { nanos := 1000000000 } }) = false ∧
    Instr.wf (.syncReceived 0 { rxSub := 1000000 }) = false := by decide
theorem test_wf_refuses_long_datagrams :
    Instr.wf (.icmpEchoRequest 0 0 (zeros 65508)) = false ∧ Instr.wf (.acknowledgement 0 ⟨0, 0, 0⟩ (zeros 65508)) = false ∧
    Instr.wf (.shroudDatagram 0 0 (zeros 65508) 0) = false := by
  have h : udpOk (zeros 65508) = false := by rw [udpOk, zeros, List.length_replicate]; rfl
  exact ⟨h, h, h⟩
theorem test_wf_refuses_too_many_readings :
    Instr.wf (.longRunningCompletion 0 (.measured [0, 0, 0, 0])) = false ∧
    Instr.wf (.longRunningCompletion 0 (.references (List.replicate 33 (0, 0)))) = false ∧
    Instr.wf (.selfTestSweep (.currentLoop 0) [0, 0, 0, 0]) = false := by decide
theorem test_wf_refuses_output_12 : Instr.wf (.safetySample { current := [(12, 0)] }) = false := by decide
theorem test_wf_refuses_mirrored_numbers :
    Instr.wf (.mirrorFrame { frame := [], content := .points [⟨8192, 0, 0, 0⟩] }) = false ∧
    Instr.wf (.mirrorFrame { frame := [], content := .repCells [⟨0, 2, 0, 0⟩] }) = false ∧
    Instr.wf (.mirrorFrame { frame := [], content := .changes { swaps := [(1024, 0)] } }) = false := by decide
theorem test_wf_refuses_long_bulk : Instr.wf (.bulkItem ⟨[], .command .getMode (zeros 4077)⟩) = false := by decide +kernel
theorem test_wf_takes_a_request : Instr.wf (.getMode { payload := [] }) = true := by decide
/-- RUN is on trial with its window open (R422). -/
def trial : State := at' .idle fun s =>
  { s with upd.run := { s.upd.run with state := .unconfirmed }, upd.window := some 0, upd.goodSince := some 0 }

theorem trial_settled : Settled trial :=
  ⟨rfl, fun i => absurd i (by decide), rfl, by decide, fun _ _ => by decide⟩

/-- Hypotheses of UpdateCommandsTakeEffect. -/
theorem confirm_and_reject_are_taken :
    Takes .updateConfirm (ask .updateConfirm []) trial ∧ Takes .reject (ask .reject []) trial :=
  ⟨takes_of_arrival trial_settled (by decide) (by decide), takes_of_arrival trial_settled (by decide) (by decide)⟩

/-- A state with a commissioning key and a challenge of 0x0B.30 (R330). -/
def challenged : State := at' .service fun s =>
  { s with sys.fuses := { s.sys.fuses with keySet := true, keyHash := BitVec.ofNat 256 (unle (sha256 (zeros 32))) },
           sys.keyRecord := some (zeros 32, BitVec.ofNat 32 (crc32c (zeros 32))), rcd.challenge := some (0, 0) }

/-- Hypotheses of RecorderCommandsTakeEffect. -/
theorem clear_audit_is_taken : Takes .clearAudit
    (ask .clearAudit (hmacSha256 challenged.key (nonceBytes 0 ++ challenged.auditDigest 0 ++ le 8 0 ++ le 1 0) ++ le 8 0)) challenged :=
  takes_of_check (by decide +kernel)

/-- A state in which the program set prog0 runs. -/
def running0 : State := at' .idle fun s => { s with prg.running := some prog0 }

/-- The commands on program variables are taken for a path that the set's symbol table holds (the table is opaque:
notes/assumptions/8). -/
theorem variable_commands_are_taken (x : U64 × Bool) (h : Config.symbol [] [65] = some x) :
    Takes .setVarForce (ask .setVarForce ([1, 65] ++ zeros 8)) running0 ∧
    Takes .readVariables (ask .readVariables [1, 1, 65]) running0 := by
  have k : ∀ s : State, s.prg.running = some prog0 → s.pathKnown [65] = true := by
    intro s e
    rw [State.pathKnown, e]
    show (Config.symbol [] [65]).isSome = true
    rw [h]
    rfl
  refine ⟨takes_of_arrival (settled_of_check (by decide)) (by decide) ?_, takes_of_arrival (settled_of_check (by decide)) (by decide) ?_⟩
  · have e : checkSetVarForce (requestOf .setVarForce (ask .setVarForce ([1, 65] ++ zeros 8)) running0)
        (running0.opening .setVarForce (ask .setVarForce ([1, 65] ++ zeros 8))) =
        firstBad [(false, .badArg), (false, .badArg),
          (!(running0.opening .setVarForce (ask .setVarForce ([1, 65] ++ zeros 8))).pathKnown [65], .badArg), (false, .badArg)] := rfl
    rw [k _ rfl] at e
    have e' : Op.check .setVarForce (requestOf .setVarForce (ask .setVarForce ([1, 65] ++ zeros 8)) running0)
        (running0.opening .setVarForce (ask .setVarForce ([1, 65] ++ zeros 8))) = none := e
    unfold State.failure
    rw [e']
    rfl
  · have e : checkReadVariables (requestOf .readVariables (ask .readVariables [1, 1, 65]) running0)
        (running0.opening .readVariables (ask .readVariables [1, 1, 65])) =
        firstBad [(false, .badArg),
          (!(running0.opening .readVariables (ask .readVariables [1, 1, 65])).pathKnown [65] || false, .badArg)] := rfl
    rw [k _ rfl] at e
    have e' : Op.check .readVariables (requestOf .readVariables (ask .readVariables [1, 1, 65]) running0)
        (running0.opening .readVariables (ask .readVariables [1, 1, 65])) = none := e
    unfold State.failure
    rw [e']
    rfl

/-! ### States that meet the hypotheses of the statements about events -/

def liveB (s : State) : Bool := settledB s && !s.sys.inReset

theorem meets {s : State} {p : Prop} [Decidable p] (h : (liveB s && decide p) = true) : Live s ∧ p := by
  simp only [liveB, Bool.and_eq_true, Bool.not_eq_true', decide_eq_true_eq] at h
  exact ⟨live_of_check h.1.1 h.1.2, h.2⟩

def busyBox (st : BoxState) (op : Op) (m : Nat) (s : State) : State :=
  updBox m (fun b => { b with state := st, req := { b.req with op := some op } }) s

/-- A state whose mailbox 3 holds an open request (R60). -/
def held3 : State := at' .idle fun s => busyBox .accepted .getMode 3 s
def plain3 : Datagram := ask .getMode []

/-- The datagram on U0. -/
def onU0 (d : Datagram) : Datagram := { d with path := .u0, dstAddr := 0xC0A8300A }
def first2 : Fragment := { ident := 1, index := 0, count := 2 }

/-- Hypotheses of BadAndForeignDatagramsAreDropped and StaleStartCountIsAnsweredRestarted. -/
theorem datagram_hypotheses :
    (Settled idle ∧ idle.deaf { plain3 with magic := 0 } = false ∧ idle.entire { plain3 with magic := 0 } = true ∧
      headerGood { plain3 with magic := 0 } idle = false) ∧
    (Settled idle ∧ idle.deaf { plain3 with crc := 0 } = false ∧ headerGood { plain3 with crc := 0 } idle = true ∧
      crcGood 0x01 0x02 { plain3 with crc := 0 } = false) ∧
    (idle.deaf (onU0 plain3) = false ∧ headerGood (onU0 plain3) idle = true ∧
      crcGood 0x01 0x02 (onU0 plain3) = true ∧ Path.serves .u0 3 = false) ∧
    (let d := { onU0 plain3 with mailbox := 63, crc := BitVec.ofNat 32 (crc32c (requestHead 0x01 0x02 { plain3 with mailbox := 63 })) }
     idle.deaf d = false ∧ headerGood d idle = true ∧ crcGood 0x01 0x02 d = true ∧ (idle.binding 63).role = .unbound) ∧
    (∃ s, Live s ∧ (s.binding 3).admits plain3.srcAddr plain3.srcPort = false) ∧
    (let d := { plain3 with startCount := 2, crc := BitVec.ofNat 32 (crc32c (requestHead 0x01 0x02 { plain3 with startCount := 2 })) }
     idle.deaf d = false ∧ (dropped 0x01 0x02 d idle).isNone = true ∧ d.version ≠ 1 ∧ d.startCount.toNat ≠ idle.sys.startCount) ∧
    (idle.sys.supUp = true ∧ idle.pathRetired .u0 = false ∧
      idle.completes { onU0 plain3 with fragment := some first2 } first2 = false) :=
  ⟨⟨(meets (s := idle) (p := True) (by decide)).1.settled, by decide⟩, ⟨(meets (s := idle) (p := True) (by decide)).1.settled, by decide⟩,
    by decide, by decide,
    ⟨at' .idle fun s => { s with mbx.bindings := s.mbx.bindings.put 3 { role := .observe, port := 1 } }, meets (by decide)⟩, by decide,
    by decide⟩

/-- Hypotheses of TagRulesAtHeldMailbox. -/
theorem tag_hypotheses :
    (∃ s d, Live s ∧ s.deaf d = false ∧ (dropped 0x01 0x02 d s).isNone = true ∧ d.flags = 0 ∧
      (s.box d.mailbox.toNat).isOpen = true ∧ d.tag ≠ (s.box d.mailbox.toNat).tag) ∧
    (∃ s d, Live s ∧ s.deaf d = false ∧ (dropped 0x01 0x02 d s).isNone = true ∧ d.flags = 0 ∧
      (s.box d.mailbox.toNat).isOpen = true ∧ d.tag = (s.box d.mailbox.toNat).tag ∧
      d.crc = (s.box d.mailbox.toNat).req.crc ∧ (s.box d.mailbox.toNat).req.cls = 0x01 ∧ (s.box d.mailbox.toNat).req.opcode = 0x02) ∧
    (∃ s d, Live s ∧ s.deaf d = false ∧ (dropped 0x01 0x02 d s).isNone = true ∧ d.flags = 0 ∧
      (s.box d.mailbox.toNat).isOpen = false ∧ d.tag = (s.box d.mailbox.toNat).tag ∧
      d.crc = (s.box d.mailbox.toNat).req.crc ∧ (s.box d.mailbox.toNat).state = .answered) :=
  ⟨⟨held3, plain3, meets (by decide)⟩,
    ⟨at' .idle fun s => updBox 3 (fun b => { b with
        state := .accepted, tag := 1, req := { b.req with cls := 0x01, opcode := 0x02, crc := plain3.crc } }) s, plain3, meets (by decide)⟩,
    ⟨at' .idle fun s => updBox 3 (fun b => { b with
        state := .answered, tag := 1, req := { b.req with cls := 0x01, opcode := 0x02, crc := plain3.crc } }) s, plain3, meets (by decide)⟩⟩

def query3 (flags : Byte) : Datagram :=
  { plain3 with flags, crc := BitVec.ofNat 32 (crc32c (requestHead 0x01 0x02 { plain3 with flags })) }

/-- Hypotheses of QueryAndAcknowledgement. -/
theorem query_hypotheses :
    (∃ s, Live s ∧ s.deaf (query3 1) = false ∧ (dropped 0x01 0x02 (query3 1) s).isNone = true ∧
      (query3 1).tag = (s.box 3).tag ∧ (s.box 3).state = .answered ∧ (s.box 3).payload.length ≤ 1008) ∧
    (∃ s, Live s ∧ s.deaf (query3 2) = false ∧ (dropped 0x01 0x02 (query3 2) s).isNone = true ∧
      (query3 2).tag = (s.box 3).tag ∧ (s.box 3).state = .notifying) ∧
    (∃ s, Live s ∧ s.deaf (query3 3) = false ∧ (dropped 0x01 0x02 (query3 3) s).isNone = true ∧ (s.box 3).state = .empty) :=
  ⟨⟨at' .idle fun s => updBox 3 (fun b => { b with state := .answered, tag := 1 }) s, meets (by decide)⟩,
    ⟨at' .idle fun s => updBox 3 (fun b => { b with state := .notifying, tag := 1 }) s, meets (by decide)⟩, ⟨idle, meets (by decide)⟩⟩

/-- Hypotheses of FailedChecksHaveNoEffect. Requests that arrive and fail: the role, the mode, the arguments, the serving block (R64). -/
theorem check_hypotheses :
    (∃ d, d.mailbox = 3 ∧ idle.deaf d = false ∧ (dropped 0x01 0x13 d idle).isNone = true ∧
      (idle.binding 3).role.includes Op.enterConfigure.desc.role = false) ∧
    (arrivesB .goIdle (ask .goIdle []) idle = true ∧ (idle.opening .goIdle (ask .goIdle [])).undecided .goIdle = false ∧
      Op.goIdle.desc.inMode idle.sys.mode = false) ∧
    (arrivesB .readRange (ask .readRange [0]) idle = true ∧ Op.readRange.desc.inMode idle.sys.mode = true ∧
      Op.readRange.check (requestOf .readRange (ask .readRange [0]) idle) (idle.opening .readRange (ask .readRange [0])) =
        some (.badArg, [])) ∧
    (∃ s, Live s ∧ arrivesB .getStreamStatus (ask .getStreamStatus []) s = true ∧
      (s.opening .getStreamStatus (ask .getStreamStatus [])).blockDown .getStreamStatus = true) :=
  ⟨⟨{ plain3 with mailbox := 3, crc := BitVec.ofNat 32 (crc32c (requestHead 0x01 0x13 plain3)) }, by decide⟩, by decide, by decide,
    ⟨at' .idle fun s => { s with sys.acqUp := false }, meets (by decide)⟩⟩

/-- Hypotheses of RestartSupervisorResetsItsDomain. -/
theorem restart_supervisor_hypotheses : (escalate 600 idle.sys.opNs idle.sys.supResets).2 = false := by decide

/-- Hypotheses of SupervisorServesItsOwnCommands. -/
theorem own_command_hypotheses :
    let d := ask .getMode []
    let q := requestOf .getMode d idle
    let r := Op.getMode.run q (idle.opening .getMode d)
    Settled r.st ∧ r.later = false ∧ r.status ≠ .accepted ∧ (∀ t, r.post t = t) ∧ r.st.sys.supUp = true ∧
      r.st.box q.mailbox = (idle.opening .getMode d).box q.mailbox ∧ r.st.pending = idle.pending :=
  ⟨settled_of_check (by decide), rfl, by decide, fun _ => rfl, rfl, rfl, rfl⟩

/-! ### Power, modes, resets and faults -/

theorem power_hypotheses :
    (∃ s, Live s ∧ s.sys.powered = false) ∧
    (∃ s, Live s ∧ s.sys.powered = true ∧ s.cfg.pair.paired = true ∧ s.par.role = .active) ∧
    (∃ s, Live s ∧ s.sys.powered = true ∧ s.cfg.pair.paired = false) ∧
    (∃ s, Live s ∧ s.sys.mode ≠ .halt ∧ 10000 ≤ 10000 ∧ 9999 < 10000) ∧
    (∃ s, Live s ∧ s.sys.mode ≠ .halt ∧ s.sys.restart = some (4, s.sys.opNs + s.periodNs)) ∧
    (∃ s, Settled s ∧ s.sys.inReset = true ∧ Instr.op? (.getMode plain3) = some (.getMode, plain3)) :=
  ⟨⟨at' .boot fun s => { s with sys.powered := false }, meets (by decide)⟩, ⟨at' .idle (paired .active), meets (by decide)⟩,
    ⟨idle, meets (by decide)⟩, ⟨idle, meets (by decide)⟩,
    ⟨at' .idle fun s => { s with sys.restart := some (4, 100000) }, meets (by decide)⟩,
    ⟨at' .boot fun s => { s with sys.inReset := true }, settled_of_check (by decide), by decide⟩⟩

def noImage (s : State) : State :=
  { s with upd.run := {}, upd.fallback := {}, upd.factory := { s.upd.factory with reason := 1 } }

/-- Hypotheses of BootServiceAndTemperature. -/
theorem boot_hypotheses :
    (∃ s, Live s ∧ s.sys.mode = .boot ∧ s.sys.coldHold = false ∧ s.standingFault = none ∧ s.upd.journal = none ∧
      (bootSlots { s with out := [] }).1.isSome = true) ∧
    (∃ s, Live s ∧ s.sys.mode = .boot ∧ s.sys.coldHold = false ∧ s.standingFault = none ∧ s.upd.journal = none ∧
      (bootSlots { s with out := [] }).1 = none) ∧
    (∃ s, Live s ∧ s.sys.mode = .boot ∧ s.sys.coldHold = false ∧ s.standingFault = some 4) ∧
    (∃ s, Live s ∧ s.sys.mode = .boot ∧ s.sys.coldHold = false ∧ s.standingFault = none ∧ s.upd.journal = some 0) ∧
    (∃ s, Live s ∧ s.sys.coldHold = true) ∧ (∃ s, Live s ∧ s.sys.warming = true) ∧ (∃ s, Live s ∧ s.sys.mode = .activate) ∧
    (∃ s, Live s ∧ s.upd.migrate = true ∧ s.upd.slot = 0 ∧ s.sys.mode = .configure ∧
      s.upd.run.header.settingsMin ≤ s.upd.otherSchema) ∧
    (∃ s, Live s ∧ s.upd.migrate = true ∧ s.upd.slot = 0 ∧ s.sys.mode = .configure ∧
      s.upd.otherSchema < s.upd.run.header.settingsMin) ∧
    (∃ s, Live s ∧ s.sys.haltDue = 5 ∧ s.sys.mode ≠ .halt) :=
  ⟨⟨at' .boot fun s => { s with upd.run := { state := .confirmed, header := {} } }, meets (by decide)⟩, ⟨at' .boot noImage, meets (by decide)⟩,
    ⟨at' .boot fun s => { s with sys.pagesOut := true }, meets (by decide)⟩, ⟨at' .boot fun s => { s with upd.journal := some 0 }, meets (by decide)⟩,
    ⟨at' .boot fun s => { s with sys.coldHold := true }, meets (by decide)⟩, ⟨at' .configure fun s => { s with sys.warming := true }, meets (by decide)⟩,
    ⟨at' .activate, meets (by decide)⟩,
    ⟨at' .configure fun s => { s with upd.run := { state := .confirmed, header := {} }, upd.migrate := true }, meets (by decide)⟩,
    ⟨at' .configure fun s => { s with
        upd.run := { state := .confirmed, header := { settingsMin := 1 } }, upd.otherSchema := 0, upd.migrate := true }, meets (by decide)⟩,
    ⟨at' .run fun s => { s with sys.haltDue := 5 }, meets (by decide)⟩⟩

/-- Hypotheses of BootServiceAndTemperature. -/
theorem service_hypotheses :
    (∃ s, Live s ∧ s.sys.mode = .service ∧ s.sys.serviceDown.any (fun a => s.sys.opNs - a ≥ 10000000000) = true ∧ s.inLockout = false) ∧
    (∃ s, Live s ∧ s.sys.mode = .service ∧ s.sys.opNs - s.sys.serviceUsed ≥ 600000000000 ∧ s.inLockout = true) ∧
    (∃ s, Live s ∧ s.sys.hot = false ∧ s.sys.mode ≠ .halt) :=
  ⟨⟨at' .service fun s => { s with sys.opNs := 10000000000, sys.serviceDown := some 0 }, meets (by decide)⟩,
    ⟨at' .service fun s => { s with sys.opNs := 600000000000, saf.state := .lockout }, meets (by decide)⟩, ⟨idle, meets (by decide)⟩⟩

/-- Hypotheses of DomainsResetAndServeAgain. -/
theorem domain_hypotheses :
    (∃ s, Live s ∧ (escalate 600 s.sys.opNs s.sys.supResets).2 = true ∧ s.sys.mode ≠ .halt) ∧
    (∃ s, Live s ∧ s.sys.supUp = false ∧ (s.box 3).isOpen = true ∧ (∀ x ∈ s.mbx.boxes.cells, x.1 = 4 → x.2.isOpen = false)) ∧
    (∃ s, Live s ∧ s.prg.coreDown.contains 3 = false ∧ (escalate 600 s.sys.opNs (s.sys.coreResets.getD 3 [])).2 = true) ∧
    (∃ s, Live s ∧ s.prg.coreDown.contains 3 = true) ∧
    (∃ s, Live s ∧ s.computing = true ∧ s.lop.released = false ∧ s.par.role ≠ .givenUp ∧ s.sys.mode ≠ .handover ∧
      (escalate 600 s.sys.opNs s.sys.engineResets).2 = false) ∧
    (∃ s, Live s ∧ s.computing = true ∧ s.lop.released = false ∧ s.par.role ≠ .givenUp ∧ s.sys.mode ≠ .handover ∧
      (escalate 600 s.sys.opNs s.sys.engineResets).2 = true) ∧
    (∃ s, Live s ∧ s.sys.engineUp = false ∧ s.sys.engineBack ≤ s.time.tick) :=
  ⟨⟨at' .idle fun s => { s with sys.supResets := [0, 0, 0] }, meets (by decide)⟩,
    ⟨at' .idle fun s => busyBox .accepted .getMode 3 { s with sys.supUp := false }, meets (by decide)⟩,
    ⟨at' .idle fun s => { s with sys.coreResets := s.sys.coreResets.put 3 [0, 0, 0] }, meets (by decide)⟩,
    ⟨at' .idle fun s => { s with prg.coreDown := [3] }, meets (by decide)⟩,
    ⟨at' .run fun s => { s with lop.released := false }, meets (by decide)⟩, ⟨at' .run fun s => { s with lop.released := false, sys.engineResets := [0, 0, 0] }, meets (by decide)⟩,
    ⟨at' .idle fun s => { s with sys.engineUp := false }, meets (by decide)⟩⟩

/-- Hypotheses of MemoryFaultsAreCountedAndContained: the ends of the regions whose loss is contained (R21, R452). -/
theorem memory_hypotheses :
    regionOf sramRegions 0x3FFFFF = some (0, 0x3FFFFF) ∧ regionOf sramRegions 0x121FFFF = some (5, 0xFFFF) ∧
    regionOf sramRegions 0x1240000 = some (8, 0) ∧ regionOf sramRegions 0x137FFFF = some (9, 0x7FFFF) ∧
    regionOf sramRegions 0x1400000 = some (10, 0) ∧ regionOf sramRegions 0x1A03FFF = some (12, 0x3FFF) ∧
    regionOf sramRegions 0x17FFFFFFFF = none ∧ (regionOf dramRegions 0x17FFFFFFFF).isSome = true ∧
    regionOf sramRegions 0x80FFFFF = none ∧ regionOf dramRegions 0x80FFFFF = none ∧ (regionOf mramRegions 0x80FFFFF).isSome = true ∧
    (∃ s, Live s ∧ (s.sys.pageStamps.find 0).any (fun a => s.sys.opNs - a ≤ 86400000000000) = true) :=
  ⟨by decide, by decide, by decide, by decide, by decide, by decide, by decide, by decide, by decide, by decide, by decide,
    ⟨at' .idle fun s => { s with sys.pageStamps := s.sys.pageStamps.put 0 0 }, meets (by decide)⟩⟩

/-! ### Ticks, loops and sequences -/

def promptAt (s : State) : State :=
  updLoop 1023 (fun x => { x with run := .closed, fastDone := false }) { s with cfg.loops := s.cfg.loops.put 1023 { wiring := { looped with prompt := true } } }

/-- Hypotheses of TickBoundaryStartsNextTick and LoopsRunAndAreSupervised. -/
theorem tick_hypotheses :
    (∃ s : State, Live s ∧ s.saf.lockEvents = [] ∧ s.mirroring = false ∧ s.time.stepNow = none ∧ s.periodDue = none ∧
      s.mbx.issued = []) ∧
    (∃ s : State, Live s ∧ s.saf.lockEvents = [] ∧ s.mirroring = false ∧ s.time.stepNow = none ∧ s.periodDue = some (1000, 10, 0) ∧
      s.mbx.issued = []) ∧
    (∃ s : State, Live s ∧ 19 < s.time.fastN ∧ s.promptRunning.contains (1023 : Fin 1024).val = true ∧ (s.loop 1023).fastDone = false) ∧
    (∃ s : State, Live s ∧ s.lop.released = false ∧ s.sys.engineUp = true ∧ s.par.role ≠ .givenUp ∧ s.effMode ≠ .sync ∧ s.effMode ≠ .handover ∧
      s.effMode ≠ .standby) ∧
    (∃ s : State, Live s ∧ s.lop.released = false ∧ s.sys.engineUp = true ∧ s.par.role ≠ .givenUp ∧ s.effMode = .standby ∧
      s.par.split = true) :=
  ⟨⟨idle, meets (by decide)⟩, ⟨at' .idle fun s => { s with time.change := some (1000, 10, 0) }, meets (by decide)⟩,
    ⟨at' .run fun s => promptAt { s with time.fastN := 20 }, meets (by decide)⟩,
    ⟨at' .run fun s => { s with lop.released := false }, meets (by decide)⟩,
    ⟨at' .standby fun s => paired .standby { s with lop.released := false, par.split := true }, meets (by decide)⟩⟩

def loopWith (f : Loop → Loop) : State :=
  at' .run fun s => updLoop 1023 f (loopAt 1023 .closed s)

/-- Hypotheses of LoopsRunAndAreSupervised. -/
theorem supervision_hypotheses :
    (∃ s : State, Live s ∧ s.loopRuns 1023 = true ∧ (0 : Fin 4).val < (s.wiring 1023).ny ∧
      (s.loop 1023).sup.lossTicks.getD 0 3 ≤ (s.loop 1023).missing.getD 0 0 ∧ (s.loop 1023).lost.getLsbD 0 = false ∧
      (s.loop 1023).run = .closed) ∧
    (∃ s : State, Live s ∧ s.loopRuns 1023 = true ∧
      (s.loop 1023).sup.freezeTicks.getD 0 1000 ≤ (s.loop 1023).freeze.getD 0 0 ∧ (s.loop 1023).frozen.getLsbD 0 = false) ∧
    (∃ s : State, Live s ∧ s.loopRuns 1023 = true ∧ (s.loop 1023).run = .openLoop ∧ (s.loop 1023).sup.openTicks ≤ (s.loop 1023).openFor ∧
      (s.loop 1023).returnDue = false) ∧
    (∃ s : State, Live s ∧ s.loopRuns 1023 = true ∧ (s.loop 1023).returnDue = true) ∧
    (∃ s : State, Live s ∧ (s.rep 127).learning.getD 1 true = false ∧ (s.repCfg 127).calm ≤ (s.rep 127).calm.getD 1 0) :=
  ⟨⟨loopWith fun x => { x with missing := [3, 0, 0, 0] }, meets (by decide)⟩,
    ⟨loopWith fun x => { x with freeze := [1000, 0, 0, 0] }, meets (by decide)⟩,
    ⟨loopWith fun x => { x with run := .openLoop, openFor := x.sup.openTicks }, meets (by decide)⟩,
    ⟨loopWith fun x => { x with run := .hold, byCommand := false, sup := { x.sup with onCommand := false, returnTicks := 1 }, returns := 1 }, meets (by decide)⟩,
    ⟨at' .run fun s => updRep 127 (fun x => { x with learning := [true, false], calm := [0, 1000] }) s, meets (by decide)⟩⟩

def elapsed0 : Transition := { any := true, timeout := false, target := 1, terms := [{ kind := 0, op := 0, ref := 0, level := 0, hyst := 0 }] }
def recipe1 (target : Nat) : Image :=
  { recipe0 with steps := [{ assigns := [], trans := [{ elapsed0 with target }], pause := false }, step0] }
def seqRuns (target : Nat) : State :=
  at' .run fun s => updSeq 15 (fun x => { x with run := .running, active := some (recipe1 target) }) s

/-- The recipe whose first step waits for one tick. -/
def recipe2 : Image :=
  let m : Term := { kind := 0, op := 0, ref := 0, level := 1, hyst := 0 }
  { recipe0 with steps := [{ assigns := [], trans := [{ elapsed0 with terms := [m] }], pause := false }, step0] }

/-- Hypotheses of SequencesFireAndStart and of the rows of TickBoundaryStartsNextTick about sequences. -/
theorem sequence_hypotheses :
    (∀ target ∈ [endTarget, 0], ∃ (v : State) (st : Machine.Step) (tr : Transition), (v.seq 15).running = true ∧ (v.seq 15).held = false ∧
      (v.seq 15).stepNow = some st ∧ tr.target = target ∧
      let q := { v.seq 15 with elapsed := (v.seq 15).elapsed + 1 }
      firedOf q (termTable v q) = some (0, tr)) ∧
    (∃ v : State, (v.seq 15).scheduled = some (1, 0, 4, 1) ∧ Live v ∧ v.startDue 15 = true) ∧
    (∃ s : State, Live s ∧ s.elapsedDue 15 = true) :=
  ⟨by
      intro target h
      simp only [List.mem_cons, List.not_mem_nil, or_false] at h
      rcases h with rfl | rfl
      · exact ⟨seqRuns endTarget, (recipe1 endTarget).steps.headD step0, { elapsed0 with target := endTarget }, by decide⟩
      · exact ⟨seqRuns 0, (recipe1 0).steps.headD step0, { elapsed0 with target := 0 }, by decide⟩,
    ⟨at' .idle fun s => updSeq 15 (fun x => { x with scheduled := some (1, 0, 4, 1) }) s, by decide, meets (by decide)⟩,
    ⟨at' .run fun s => updSeq 15 (fun x => { x with run := .running, active := some recipe2 }) s, meets (by decide)⟩⟩

/-! ### Converters, time, ports and uplinks -/

def refSlot (settling : Bool) : State :=
  at' .idle fun s => updGroup 11 (fun g => { g with slot := .reference 3, settling }) s

/-- Hypotheses of ConvertersDeliverAndRecover. -/
theorem converter_hypotheses :
    (∃ s : State, Live s ∧ s.groupRuns 11 = true ∧ (s.group 11).slot = .channel 95 true) ∧
    (∃ s : State, Live s ∧ s.groupRuns 11 = true ∧ (s.group 11).slot = .reference 3 ∧ (s.group 11).settling = false) ∧
    (∃ s : State, Live s ∧ s.groupRuns 11 = true ∧ (s.group 11).slot = .reference 3 ∧ (s.group 11).settling = true) ∧
    (∃ s : State, Live s ∧ s.ain.bankDown.contains 3 = false) :=
  ⟨⟨at' .idle fun s => updGroup 11 (fun g => { g with slot := .channel 95 true }) s, meets (by decide)⟩,
    ⟨refSlot false, meets (by decide)⟩, ⟨refSlot true, meets (by decide)⟩, ⟨idle, meets (by decide)⟩⟩

/-- A port that sends and receives (R130). -/
def served (f : Port → Port) (s : State) : State :=
  updPort 47 f (updPort 47 (fun x => { x with mode := .linked }) { s with cfg.ports := s.cfg.ports.put 47 { enabled := 1 } })
def portWith (f : Port → Port) : State := at' .run (served f)

def timed (x : TimeState) (m : Mode) : State :=
  at' m fun s => { s with time.state := x, fld.uplinks := s.fld.uplinks.put 0 { link := true } }
/-- The Sync of grandmaster 0 received with an offset of `ns` at tool time 0, and that offset in the source of U0. -/
def sync0 (ns : Int) : SyncMessage :=
  if 0 ≤ ns then { origin := { seconds := 0, nanos := ns.toNat } } else { rxSub := ns.natAbs }
def heard (ns : Int) (s : State) : State :=
  setGptp 0 (fun g => { g with valid := true, offset := ns, grandmaster := 0, interval := 125000000,
                               lastSync := s.sys.opNs + (sync0 ns).rxSub }) s
def offset0 (ns : Int) (s : State) : State :=
  setGptp 0 (fun g => { g with valid := true, offset := ns, grandmaster := 0 }) s

/-- Hypotheses of TimeFollowsGptpAndHalyard. -/
theorem gptp_hypotheses :
    (∀ ns ∈ [1000001, 1000000, 201, 200, -200], Live (timed .locked .run) ∧
      ((timed .locked .run).hearsSync 0 (sync0 ns) = true ∧
        (syncStamp (sync0 ns)).map (fun p => ptpNs p - ((sync0 ns).rxSub : Int)) = some ns ∧
        syncIntervalNs (sync0 ns) = some 125000000 ∧ (heard ns (timed .locked .run)).bestSource = some 1)) ∧
    (Live (timed .free .configure) ∧ (timed .free .configure).sys.mode.steps = true) ∧
    (Live (timed .free .idle) ∧ (timed .free .idle).sys.mode.steps = false) ∧ Live (timed .holdover .run) ∧
    (idle.hearsSync 0 (sync0 0) = false ∧ syncStamp { twoStep := true } = none ∧ syncIntervalNs { logInterval := 1 } = none) ∧
    (∃ s : State, Live s ∧ (s.gptp 0).valid = true ∧ s.syncLost 0 = true ∧ s.time.state = .locked ∧
      (setGptp 0 (fun g => { g with valid := false }) s).bestSource = none) ∧
    (∃ s : State, Live s ∧ (s.gptp 0).valid = true ∧ s.time.state = .acquiring) ∧
    (∃ s : State, Live s ∧ (s.gptp 0).valid = true ∧ s.time.state = .unaligned) ∧
    (∃ s : State, Live s ∧ s.uplinkUp 0 = true ∧ s.answersPdelay (.uplink 0) = some 48) ∧
    (∃ s : State, Live s ∧ s.portSends 47 = true ∧ s.answersPdelay (.field 47) = some 47) :=
  ⟨by intro ns h
      simp only [List.mem_cons, List.not_mem_nil, or_false] at h
      rcases h with rfl | rfl | rfl | rfl | rfl <;> exact meets (by decide),
    meets (by decide), meets (by decide), (meets (p := True) (by decide)).1, by decide,
    ⟨at' .run fun s => offset0 0 { s with time.state := .locked, sys.opNs := 3000000000 }, meets (by decide)⟩,
    ⟨at' .run fun s => offset0 0 { s with time.state := .acquiring }, meets (by decide)⟩,
    ⟨at' .run fun s => offset0 0 { s with time.state := .unaligned }, meets (by decide)⟩,
    ⟨timed .free .idle, meets (by decide)⟩, ⟨portWith id, meets (by decide)⟩⟩

def unitRole (r : Nat) (drives : Bool) : State := at' .run fun s => { s with cfg.timeRole := r, time.driving := drives }

/-- Hypotheses of TimeFollowsGptpAndHalyard. -/
theorem halyard_hypotheses :
    Live (unitRole 1 true) ∧ Live (unitRole 2 true) ∧
    (Live (unitRole 2 false) ∧ (unitRole 2 false).listens = true ∧ (unitRole 2 false).time.halEdgeAt = none) ∧
    (∃ s : State, Live s ∧ s.listens = true ∧ s.time.halPos = some 93) ∧
    (∃ s : State, Live s ∧ s.listens = true ∧ s.halSilent 2 = true) ∧
    (∃ s : State, Live s ∧ s.cfg.timeRole = 2 ∧ s.time.driving = false ∧ s.halSilent 3 = true) ∧
    (∃ s : State, Live s ∧ s.acq.armAt = some (0, true) ∧ s.time.driving = true ∧ 0 ≤ s.time.tick) ∧
    (∃ s : State, Live s ∧ s.acq.fireDue = true ∧ s.cfg.timeRole ≠ 0) ∧
    (∃ s : State, Live s ∧ s.acq.armed = true ∧ s.cfg.timeRole ≠ 0 ∧ s.acq.fireSeen = false ∧ s.periodNs / 4 ≤ 25000 ∧ 75100 ≤ 3 * s.periodNs / 4 + 100) ∧
    (∃ s : State, Live s ∧ s.acq.armed = true ∧ s.cfg.timeRole ≠ 0 ∧ s.acq.fireSeen = true) ∧
    (∃ (s : State) (x : Schedule), Live s ∧ s.upd.schedule = some x ∧ x.proceeding = true ∧ s.time.driving = true ∧ s.time.tick + 1 = x.at_) :=
  ⟨(meets (p := True) (by decide)).1, (meets (p := True) (by decide)).1, meets (by decide),
    ⟨at' .run fun s => { s with cfg.timeRole := 3, time.halPos := some 93 }, meets (by decide)⟩,
    ⟨at' .run fun s => { s with cfg.timeRole := 3, time.halEdgeAt := some 0, sys.opNs := 200000 }, meets (by decide)⟩,
    ⟨at' .run fun s => { s with cfg.timeRole := 2, time.halEdgeAt := some 0, sys.opNs := 300000 }, meets (by decide)⟩,
    ⟨at' .run fun s => { s with acq.armAt := some (0, true), time.driving := true }, meets (by decide)⟩,
    ⟨at' .run fun s => { s with acq.fireDue := true, cfg.timeRole := 3 }, meets (by decide)⟩,
    ⟨at' .run fun s => { s with acq.armed := true, cfg.timeRole := 3 }, meets (by decide)⟩,
    ⟨at' .run fun s => { s with acq.armed := true, acq.fireSeen := true, cfg.timeRole := 3 }, meets (by decide)⟩,
    ⟨at' .run fun s => { s with time.driving := true, upd.schedule := some { at_ := 1, group := 0, members := 1, auto := false, hold := 0, proceeding := true } },
      { at_ := 1, group := 0, members := 1, auto := false, hold := 0, proceeding := true }, meets (by decide)⟩⟩

def asking (write : Bool) (left : List Byte) (tries age : Nat) : State :=
  portWith fun x => { x with acyclic := some { write, left, tries, age, request := some (4, 1) } }
def field0 (cycle node : U32) : FieldFrame := { port := 47, cycle, nodeId := node, entries := [(1, 2)], shroud := [3] }
/-- A segment's payload of port 47 (R140): the bytes 7 and 8. -/
def segment0 : List Byte := [1, 4, 47, 0] ++ zeros 8 ++ [2, 0, 0, 0, 7, 8]

/-- Hypotheses of PortsAndUplinksServe. -/
theorem port_hypotheses :
    (∃ s : State, Live s ∧ s.portSends 47 = true ∧ readFrame [] = none) ∧
    (∃ (s : State) (p : List Byte) (f : FieldFrame), Live s ∧ s.portSends 47 = true ∧ readFrame p = some f ∧ f.version = 1 ∧ f.kind = 2 ∧
      f.port.toNat = 47 ∧ f.cycle.toNat = s.time.tick % 2 ^ 32 ∧ f.nodeId = (s.portCfg 47).nodeId ∧ (s.port 47).inCheck = false) ∧
    (∃ (s : State) (p : List Byte) (f : FieldFrame), Live s ∧ s.portSends 47 = true ∧ readFrame p = some f ∧ f.version = 1 ∧ f.kind = 2 ∧
      f.port.toNat = 47 ∧ f.cycle.toNat = s.time.tick % 2 ^ 32 ∧ f.nodeId ≠ (s.portCfg 47).nodeId) ∧
    (∃ (s : State) (p : List Byte) (f : FieldFrame), Live s ∧ s.portSends 47 = true ∧ readFrame p = some f ∧ f.version = 1 ∧ f.kind = 2 ∧
      f.port.toNat = 47 ∧ f.cycle.toNat ≠ s.time.tick % 2 ^ 32 ∧ 0 < s.time.tick ∧ f.cycle.toNat = (s.time.tick - 1) % 2 ^ 32) ∧
    (∃ s : State, Live s ∧ s.isRetired (resource 7 47) = false ∧ (s.portCfg 47).enabled = 0) ∧
    (∃ s : State, Live s ∧ s.isRetired (resource 7 47) = true ∧ (s.port 47).inCheck = true ∧ (s.portCfg 47).enabled ≠ 0 ∧ s.starting = false) ∧
    (∃ s : State, Live s ∧ (s.port 47).downSince = some 0 ∧ 1000000000 ≤ s.sys.opNs - 0) ∧
    (∀ x ∈ [(true, zeros 97), (true, zeros 96), (false, [])], Live (asking x.1 x.2 1 0) ∧
      ((asking x.1 x.2 1 0).portRuns 47 = true ∧ readSegment 47 segment0 = some [7, 8] ∧
        ((asking x.1 x.2 1 0).port 47).acyclic = some { write := x.1, left := x.2, request := some (4, 1) })) ∧
    (∀ tries ∈ [2, 3], Live (asking true [] tries 100) ∧
      ((asking true [] tries 100).port 47).acyclic = some { write := true, left := [], tries, age := 100, request := some (4, 1) }) :=
  ⟨⟨portWith id, meets (by decide)⟩, ⟨portWith id, linkPayload (field0 0 0) 1 (entriesBytes [(1, 2)]), field0 0 0, meets (by decide)⟩,
    ⟨portWith id, linkPayload (field0 0 1) 1 (entriesBytes [(1, 2)]), field0 0 1, meets (by decide)⟩,
    ⟨at' .run fun s => served id { s with time.tick := 1 }, linkPayload (field0 0 1) 1 (entriesBytes [(1, 2)]), field0 0 1, meets (by decide)⟩,
    ⟨idle, meets (by decide)⟩,
    ⟨at' .run fun s => served (fun x => { x with inCheck := true }) (retiring (resource 7 47) s), meets (by decide)⟩,
    ⟨at' .run fun s => updPort 47 (fun x => { x with downSince := some 0 }) { s with sys.opNs := 1000000000 }, meets (by decide)⟩,
    by
      intro x h
      simp only [List.mem_cons, List.not_mem_nil, or_false] at h
      rcases h with rfl | rfl | rfl <;> exact meets (by decide),
    by
      intro x h
      simp only [List.mem_cons, List.not_mem_nil, or_false] at h
      rcases h with rfl | rfl <;> exact meets (by decide)⟩

/-- Hypotheses of PortsAndUplinksServe. -/
theorem uplink_hypotheses :
    (∃ s : State, Live s ∧ s.isRetired (uplinkResource 3) = false ∧ (s.uplink 3).downSince = some 0 ∧ 10000000000 ≤ s.sys.opNs - 0) ∧
    (∃ s : State, Live s ∧ s.isRetired (uplinkResource 3) = true ∧ (s.uplink 3).checking = true) ∧
    (∃ s : State, Live s ∧ s.sys.supUp = true ∧ s.pathRetired .u3 = false ∧ (1 : U32) = s.ownAddr .u3 ∧
      s.isRetired (resource 12 3) = false ∧ (1 : U32) = (s.uplinkNow 3).addr) ∧
    (∃ s : State, Live s ∧ s.sys.supUp = true ∧ s.pathRetired .service = false ∧ s.ownAddr .service ≠ 0) :=
  ⟨⟨at' .run fun s => updUplink 3 (fun x => { x with downSince := some 0 }) { s with sys.opNs := 10000000000 }, meets (by decide)⟩,
    ⟨at' .run fun s => updUplink 3 (fun x => { x with checking := true }) (retiring (uplinkResource 3) s), meets (by decide)⟩,
    ⟨at' .run fun s => { s with fld.inUse := s.fld.inUse.put 3 { defaultUplink 3 with addr := 1 } }, meets (by decide)⟩, ⟨idle, meets (by decide)⟩⟩

/-! ### What expires and ends; programs, acquisition and recorder -/

def part0 : Partial := { path := .u0, addr := 1, ident := 1, got := [0], first := 0 }

/-- Hypotheses of UnusedThingsExpireAndLongCommandsEnd. -/
theorem expiry_hypotheses :
    (∀ n ∈ [6, 7], ∃ s : State, Live s ∧ s.sys.supUp = true ∧ s.pathRetired (s.box 63).path = false ∧ (s.box 63).state = .notifying ∧
      (s.box 63).notices = n ∧ s.mbx.holding = false) ∧
    (∃ s : State, Live s ∧ s.mbx.parts.filter (s.partDue .u0 ·) = [part0] ∧ s.mbx.parts.filter (!s.partDue .u0 ·) = [{ part0 with first := 1 }]) ∧
    (∃ s : State, Live s ∧ s.pts.snaps.find 3 = some snap ∧ 10000000000 ≤ s.sys.opNs - snap.used ∧ s.rmp.snaps.find 3 = some repSnap) ∧
    (∃ s : State, Live s ∧ s.rcd.cursors.find 15 = some { mailbox := 3, audit := false, pos := 0 } ∧ 60000000000 ≤ s.sys.opNs - 0) ∧
    (∃ s : State, Live s ∧ s.saf.session = some (2, 0) ∧ 600000000000 ≤ s.sys.opNs - 0) ∧
    (∃ s : State, Live s ∧ s.par.pageCap = some 0 ∧ s.par.stayCap = some 0 ∧ s.par.testCap = some 0 ∧
      capWindowNs .dramPage ≤ s.sys.opNs ∧ capWindowNs .stayErrors ≤ s.sys.opNs ∧ capWindowNs .selfTest ≤ s.sys.opNs) :=
  ⟨by
      intro n h
      simp only [List.mem_cons, List.not_mem_nil, or_false] at h
      rcases h with rfl | rfl
      · exact ⟨at' .run (updBox 63 fun b => { b with state := .notifying, notices := 6 }), meets (by decide)⟩
      · exact ⟨at' .run (updBox 63 fun b => { b with state := .notifying, notices := 7 }), meets (by decide)⟩,
    ⟨at' .run fun s => { s with sys.opNs := 100000000, mbx.parts := [part0, { part0 with first := 1 }] }, meets (by decide)⟩,
    ⟨at' .run fun s => { s with sys.opNs := 10000000000, pts.snaps := s.pts.snaps.put 3 snap, rmp.snaps := s.rmp.snaps.put 3 repSnap },
      meets (by decide)⟩,
    ⟨at' .run fun s => cursorFor 3 { s with sys.opNs := 60000000000 }, meets (by decide)⟩,
    ⟨at' .service fun s => { s with sys.opNs := 600000000000, saf.session := some (2, 0) }, meets (by decide)⟩,
    ⟨at' .run fun s => { s with sys.opNs := 86400000000000, par.pageCap := some 0, par.stayCap := some 0, par.testCap := some 0 },
      meets (by decide)⟩⟩

def long (op : Op) (noNotice : Bool) : State :=
  at' .service fun s => updBox 63 (fun b => { b with
    state := .accepted, noNotice, req := { b.req with op := some op, payload := zeros 40 } }) { s with sys.opNs := 1000000000 }

/-- Hypotheses of UnusedThingsExpireAndLongCommandsEnd. -/
theorem long_hypotheses :
    (∀ op ∈ ([.clearAudit, .releasePort, .loadCommit, .programLoadCommit, .configCheck, .stageVerify, .runTestLoad, .releaseStage, .releaseGroup] : List Op),
      ∀ quiet, Live (long op quiet) ∧ ((long op quiet).sys.supUp = true ∧ ((long op quiet).box 63).state = .accepted ∧
        (long op quiet).followed = false ∧ ((long op quiet).box 63).req.op = some op ∧
        1000000000 ≤ (long op quiet).sys.opNs - ((long op quiet).box 63).opened)) ∧
    (∀ bad, ∃ s : State, Live s ∧ s.sys.supUp = true ∧ (s.box 63).state = .accepted ∧ (s.box 63).req.op = some .releaseUplink ∧
      s.uplinkCheck (rd (s.box 63).req.payload 0 1) = some (!bad)) ∧
    (∃ s : State, Live s ∧ s.followed = true ∧ s.sys.supUp = true ∧ (s.box 63).state = .accepted ∧ (s.box 63).req.op = some .loadCommit) := by
  refine ⟨fun op h quiet => ?_, fun bad => ?_, ⟨at' .idle fun s =>
    busyBox .accepted .loadCommit 63 (paired .active { s with par.stayUp := true, par.peerRole := 3 }), meets (by decide)⟩⟩
  · simp only [List.mem_cons, List.not_mem_nil, or_false] at h
    rcases h with rfl | rfl | rfl | rfl | rfl | rfl | rfl | rfl | rfl <;> cases quiet <;> exact meets (by decide)
  · exact match bad with
      | true => ⟨at' .run fun s => busyBox .accepted .releaseUplink 63 (updUplink 0 (fun x => { x with linkAt := some 0, checkBad := true }) s),
          meets (by decide)⟩
      | false => ⟨at' .run fun s => busyBox .accepted .releaseUplink 63 (updUplink 0 (fun x => { x with linkAt := some 0 })
          { s with sys.opNs := 1000000000 }), meets (by decide)⟩

def tasked (r : TaskRec) (f : Task → Task) : State :=
  at' .run fun s => updTask 31 f { s with prg.running := some { prog0 with tasks := [r] }, time.tick := 1, prg.live := [] }
def event0 : TaskRec := { task0 with event := true, cycle := 2, trigOp := 0, trigPoint := 8000 }
def eventAt (f : Task → Task) : State :=
  at' .idle fun s => updTask 31 f { s with
    prg.running := some { prog0 with tasks := [event0] }, time.tick := 1, rcd.waiting := [],
    pts.entries := s.pts.entries.put 8000 { value := 0x3F800000, valid := true } }
def stageFor (c w : Nat) (f : State → State := id) : State :=
  at' .run fun s => f { s with prg.running := some prog0, prg.staged := some { prog0 with id := 2 }, prg.change := some (c, w, 63, 7) }

/-- Hypotheses of TasksRunAndOnlineChangeEnds and of the rows of TickBoundaryStartsNextTick about tasks. -/
theorem task_hypotheses :
    (∃ v : State, v.taskRec 31 = some task0 ∧ v.coreServes task0.core = true ∧ (v.task 31).mode = .waiting) ∧
    (∃ v : State, v.taskRec 31 = some { task0 with maxSkips := 2 } ∧ v.coreServes 3 = true ∧
      (v.task 31).mode = .running ∧ (v.task 31).consecutive + 1 < 2) ∧
    (∃ v : State, v.taskRec 31 = some { task0 with maxSkips := 2 } ∧ v.coreServes 3 = true ∧
      (v.task 31).mode = .running ∧ 2 ≤ (v.task 31).consecutive + 1) ∧
    (∃ v : State, v.taskRec 31 = some event0 ∧ v.coreServes 3 = true ∧ (v.task 31).started = true ∧
      v.time.tick < (v.task 31).lastStart + event0.cycle) ∧
    (∃ s : State, Live s ∧ s.programsRun = true ∧ (s.taskRec 31).any (·.dueAt s.nextBoundary.1) = true) ∧
    (∃ s : State, Live s ∧ s.programsRun = true ∧ (s.taskRec 31).any (·.event) = true ∧
      ((tickEffect {} { s with out := [] }).task 31).changedAt = s.nextBoundary.1) ∧
    (∃ s : State, Live s ∧ s.prg.running = some prog0 ∧ s.taskRec 31 = some task0 ∧ (s.task 31).mode = .running ∧
      (s.task 31).preempted = false ∧ s.coreServes task0.core = true ∧ (s.task 31).stopAfter = none) ∧
    (∃ s : State, Live s ∧ s.programsRun = true ∧ s.changeDue s.nextBoundary.1 = true) ∧
    (∃ (s : State) (new : ProgSet), Live s ∧ s.prg.change = some (0, 1, 63, 7) ∧ s.prg.running = some prog0 ∧ s.prg.staged = some new ∧
      s.sys.supUp = true ∧ (s.box 63).tag = 7 ∧ (s.box 63).isOpen = true) ∧
    (∃ s : State, Live s ∧ s.prg.change = some (1, 0, 63, 7) ∧ 0 ≤ s.toolNs) :=
  ⟨⟨tasked task0 fun x => { x with mode := .waiting }, by decide⟩,
    ⟨tasked { task0 with maxSkips := 2 } fun x => { x with mode := .running }, by decide⟩,
    ⟨tasked { task0 with maxSkips := 2 } fun x => { x with mode := .running, consecutive := 1 }, by decide⟩,
    ⟨eventAt fun x => { x with mode := .waiting, started := true }, by decide⟩,
    ⟨tasked task0 fun x => { x with mode := .waiting }, meets (by decide)⟩,
    ⟨eventAt fun x => { x with mode := .waiting }, meets (by decide +kernel)⟩,
    ⟨tasked task0 fun x => { x with mode := .running }, meets (by decide)⟩,
    ⟨stageFor 0 1, meets (by decide)⟩,
    ⟨stageFor 0 1 fun s => updBox 63 (fun b => { b with state := .accepted, tag := 7 }) s, { prog0 with id := 2 }, meets (by decide)⟩,
    ⟨stageFor 1 0, meets (by decide)⟩⟩

def ack0 (stream : Nat) : List Byte :=
  let b := le 2 0x5C0A ++ [1, 1] ++ le 4 stream ++ le 8 0 ++ zeros 4
  b ++ le 4 (crc32c b)
def hosted (path : Nat) (lost : Bool) (f : State → State := id) : State :=
  at' .run fun s => f (updUplink 0 (fun x => { x with link := true }) (updUplink 1 (fun x => { x with link := true }) { s with
    acq.stream := { s.acq.stream with hostU0 := 1, hostU1 := 1 }, acq.path := path, sys.opNs := 10000000000,
    acq.ackLost0 := path == 1 && lost, acq.ackLost1 := path == 0 && lost }))

/-- Hypotheses of StreamAndRecorderMoveOn. -/
theorem stream_hypotheses :
    (∃ s : State, Live s ∧ s.acqDark = false ∧ s.uplinkUp 1 = true ∧ ackGood [] = false) ∧
    (∃ s : State, Live s ∧ s.acqDark = false ∧ s.uplinkUp 1 = true ∧ ackGood (ack0 s.acq.streamId) = true ∧ (1 : U32) = s.hostAddr 1 ∧
      rd (ack0 s.acq.streamId) 4 4 = s.acq.streamId) ∧
    (∃ s : State, Live s ∧ s.acqDark = true ∧ s.sys.mode = .halt ∧ s.uplinkUp 1 = true) ∧
    (∃ s : State, Live s ∧ s.acqDark = true ∧ s.sys.mode ≠ .halt ∧ s.uplinkUp 1 = true) ∧ idle.uplinkUp 1 = false ∧
    (∀ path < 2, ∀ lost, Live (hosted path lost) ∧ ((hosted path lost).acqDark = false ∧ (hosted path lost).acq.reachable = true ∧
      (hosted path lost).hostSet = true ∧ (hosted path lost).pathOk path = true ∧ (hosted path lost).pathOk (1 - path) = true ∧
      (hosted path lost).acq.stream.ackMs * 1000000 ≤ (hosted path lost).sys.opNs - (hosted path lost).acq.lastAck)) ∧
    (∃ s : State, Live s ∧ s.acqDark = false ∧ s.acq.reachable = false ∧ s.hostSet = true ∧ s.pathOk (if s.acq.probeU1 then 1 else 0) = true) ∧
    (∃ (s : State) (cfg : SegCfg), Live s ∧ s.cfg.segCfg = some cfg ∧ s.captures = true ∧ s.acq.segCount * cfg.interval < s.time.periodUs) := by
  refine ⟨⟨hosted 0 false, meets (by decide)⟩, ⟨hosted 1 false, meets (by decide)⟩,
    ⟨at' .halt (updUplink 1 fun x => { x with link := true }), meets (by decide)⟩,
    ⟨at' .boot (updUplink 1 fun x => { x with link := true }), meets (by decide)⟩, by decide, ?_,
    ⟨hosted 0 false fun s => { s with acq.reachable := false }, meets (by decide)⟩,
    ⟨at' .run fun s => { s with acq.stream := { s.acq.stream with mode := some 1 }, acq.armed := true, cfg.segCfg := some { segments := 1, length := 16, pre := 0, interval := 1, sources := [] } },
      { segments := 1, length := 16, pre := 0, interval := 1, sources := [] }, meets (by decide)⟩⟩
  intro path h lost
  match path, h, lost with
  | 0, _, false => exact meets (by decide)
  | 0, _, true => exact meets (by decide)
  | 1, _, false => exact meets (by decide)
  | 1, _, true => exact meets (by decide)

/-- Hypotheses of StreamAndRecorderMoveOn. -/
theorem recorder_hypotheses :
    (∃ s : State, Live s ∧ s.batchDue = true) ∧
    (∃ s : State, Live s ∧ kindOfCode 0x1004 = some .datagramDropped ∧ (s.bucket .datagramDropped).tokens < (s.rate .datagramDropped).1 ∧
      (s.rate .datagramDropped).2 * 1000000 ≤ s.sys.opNs - (s.bucket .datagramDropped).below) ∧
    (∃ s : State, Live s ∧ allKinds.contains .datagramDropped = true ∧ 0 < (s.bucket .datagramDropped).suppressed ∧
      60000000000 ≤ s.sys.opNs - (s.bucket .datagramDropped).since) :=
  ⟨⟨at' .run fun s => { s with sys.opNs := 200000000, rcd.queue := [Record.firstBoot] }, meets (by decide)⟩,
    ⟨at' .run fun s => { s with sys.opNs := 10000000000, rcd.buckets := s.rcd.buckets.put EventKind.datagramDropped.number { tokens := 3 } },
      meets (by decide)⟩,
    ⟨at' .run fun s =>
        let b : Bucket := { tokens := 0, suppressed := 1 }
        { s with sys.opNs := 60000000000, rcd.buckets := s.rcd.buckets.put EventKind.datagramDropped.number b }, meets (by decide)⟩⟩

/-! ### The safety island, Shroud, the pair, the stages, update and monitor -/

def out0 : OutCfg := { element := none, test := true, pulse := 200, seriesHigh := false, seriesLow := false }
def conn0 : ConnCfg :=
  { number := 63, input := true, field := none, unit := 1, identity := 1, length := 4, window := 10, dual := true, addr0 := 1, addr1 := 2,
    opt := false, outputs := [] }
def axis0 : AxisCfg :=
  { srcA := 0, srcB := 0, drive := 0, scale := 0, tolPos := 0, tolSpeed := 0, vStill := 0, sls := [], slpOn := false, slpLo := 0, slpHi := 0,
    sdi := 0, sdiTol := 0, ss1Time := 0, ss1Decel := 0, ss1OnViolation := false, selSto := none, selSs1 := none, selSls := [] }
def safety0 : SafetyCfg := { noSafety with outputs := List.replicate 12 out0, conns := [conn0], axes := [axis0] }
def islandAt (x : IslandState) (f : State → State := id) : State :=
  at' .run fun s => f { s with saf.state := x, saf.cfg := some safety0 }

/-- Hypotheses of SafetySampleHoldsLockoutOff and IslandFaultsPulsesAndAxes. -/
theorem island_hypotheses :
    (∃ s : State, Settled s ∧ s.saf.state = .run ∧ 100000000 ≤ s.sys.opNs - s.sys.opSinceGood) ∧
    (∀ before ∈ [IslandState.run, .lockout], ∃ s : State, Settled s ∧ s.saf.state = .confirming ∧ s.saf.before = before) ∧
    idle.sys.opNs - idle.sys.opSinceGood < 100000000 ∧ (∃ s : State, Settled s ∧ s.saf.state = .unconfigured ∧ s.safetyCfg = none) ∧
    (∃ s : State, Settled s ∧ s.saf.state = .confirming ∧ 30000000000 ≤ s.sys.opNs - s.saf.confirmAt) ∧
    (∃ s : State, Settled s ∧ s.sys.firmwareDefer = true ∧ s.upd.run.reason = 0 ∧ s.sys.fuses.rollbackIsland ≤ s.upd.run.header.island) ∧
    (∃ s : State, Settled s ∧ s.sys.firmwareDefer = true ∧ s.upd.run.reason ≠ 0) ∧
    (∃ s : State, Settled s ∧ s.safetyCfg = some safety0 ∧ pulseSwitch (safety0.outCfg 11) (s.safeOut 11).nextHigh = some true ∧
      (s.safeOut 11).pulse = none ∧ safety0.axes[0]? = some axis0) ∧
    (∀ dark, ∃ s : State, Settled s ∧ (s.safeOut 11).pulse = some { high := true, dark } ∧ s.saf.state = .run) ∧
    (∃ s : State, Settled s ∧ ((s.safeOut 11).high || (s.safeOut 11).low) = true) :=
  ⟨⟨islandAt .run fun s => { s with sys.opNs := 100000000 }, (meets (p := True) (by decide)).1.settled, by decide⟩,
    by
      intro before h
      simp only [List.mem_cons, List.not_mem_nil, or_false] at h
      rcases h with rfl | rfl
      · exact ⟨islandAt .confirming fun s => { s with saf.before := .run }, (meets (p := True) (by decide)).1.settled, by decide⟩
      · exact ⟨islandAt .confirming fun s => { s with saf.before := .lockout }, (meets (p := True) (by decide)).1.settled, by decide⟩,
    by decide, ⟨idle, (meets (p := True) (by decide)).1.settled, by decide⟩,
    ⟨islandAt .confirming fun s => { s with saf.before := .lockout, sys.opNs := 30000000000 }, (meets (p := True) (by decide)).1.settled, by decide⟩,
    ⟨islandAt .run fun s => { s with sys.firmwareDefer := true, upd.run := { state := .confirmed, header := { island := 1000000 } } },
      (meets (p := True) (by decide)).1.settled, by decide⟩,
    ⟨islandAt .run fun s => { s with sys.firmwareDefer := true, upd.run := { state := .confirmed, reason := 1 } },
      (meets (p := True) (by decide)).1.settled, by decide⟩,
    ⟨islandAt .run, (meets (p := True) (by decide)).1.settled, by decide⟩,
    fun dark => ⟨islandAt .run (updOut 11 fun x => { x with pulse := some { high := true, dark } }), by
      cases dark <;> exact (meets (p := True) (by decide)).1.settled, by cases dark <;> decide⟩,
    ⟨islandAt .run (updOut 11 fun x => { x with high := true }), (meets (p := True) (by decide)).1.settled, by decide⟩⟩

/-- A Shroud frame of connection 63 (R367): identity 1, sequence 1, window 10, 4 data bytes. -/
def frame0 : List Byte :=
  let b := le 4 1 ++ le 2 1 ++ le 2 10 ++ [4, 0] ++ le 2 0 ++ zeros 4
  b ++ le 4 (crc32c b)
def datagram0 : List Byte := le 2 0x5AF0 ++ [1, 1, 0, 1] ++ le 2 0 ++ frame0
/-- A frame of another identity. -/
def foreign0 : List Byte :=
  let b := le 4 2 ++ le 2 1 ++ le 2 10 ++ [4, 0] ++ le 2 0 ++ zeros 4
  b ++ le 4 (crc32c b)
def islandUp : State := islandAt .run (updUplink 0 fun x => { x with link := true })
def connAt (f : Conn → Conn) : State := islandAt .run (updConn 63 f)

/-- Hypotheses of ShroudConnectionsRun. -/
theorem shroud_hypotheses :
    (∃ s : State, Live s ∧ s.connCfg 63 = some conn0 ∧ frame0.length = 16 + conn0.length ∧ rd frame0 8 1 = conn0.length ∧ rd frame0 10 2 = 0 ∧
      rd frame0 9 1 ≤ 1 ∧ crc32c (frame0.take (12 + conn0.length)) = rd frame0 (12 + conn0.length) 4 ∧ rd frame0 0 4 = conn0.identity.toNat ∧
      rd frame0 6 2 = conn0.window ∧ (s.conn 63).mode = .notEstablished) ∧
    (∃ s : State, Live s ∧ s.connCfg 63 = some conn0 ∧ (s.conn 63).mode = .valid ∧ 5 ≤ (s.conn 63).deadline ∧
      (rd frame0 4 2 + 65536 - (s.conn 63).last) % 65536 = 64) ∧
    (rd [] 0 2 ≠ 0x5AF0) ∧ idle.uplinkUp 0 = false ∧
    (∃ s : State, Live s ∧ s.uplinkUp 0 = true ∧ s.connCfg 63 = some conn0 ∧ rd foreign0 0 4 ≠ conn0.identity.toNat ∧ foreign0.length = 16 + conn0.length ∧
      crc32c (foreign0.take (12 + conn0.length)) = rd foreign0 (12 + conn0.length) 4) ∧
    (∃ s : State, Live s ∧ s.uplinkUp 0 = true ∧ s.safetyCfg = some safety0 ∧ rd datagram0 0 2 = 0x5AF0 ∧ rd datagram0 2 1 = 1 ∧ rd datagram0 4 1 = 0 ∧
      rd datagram0 5 1 = 1 ∧ rd datagram0 6 2 = 0 ∧ datagram0.drop 8 = frame0 ∧ (s.conn 63).mode = .notEstablished ∧
      (safety0.conns.filter fun k => k.input && k.field.isNone && k.unit == rd datagram0 3 1 && k.addr0 == 1) = [conn0]) ∧
    (∃ s : State, Live s ∧ s.connCfg 63 = some conn0 ∧ (s.conn 63).mode = .valid ∧ (s.conn 63).deadline ≤ s.islandNs ∧ conn0.opt = false ∧
      s.saf.state ≠ .confirming) ∧
    (∀ p < 2, ∃ s : State, Live s ∧ s.connCfg 63 = some conn0 ∧ s.pathSilent conn0 p 3 = true ∧ s.pathSilent conn0 p 1 = true ∧
      (s.conn 63).miss0 = false ∧ (s.conn 63).miss1 = false ∧ (s.conn 63).pathFault0 = false ∧ (s.conn 63).pathFault1 = false) ∧
    (∃ s : State, Live s ∧ s.safetyCfg = some safety0 ∧ (safety0.conns.map (·.number)).Nodup) :=
  ⟨⟨islandAt .run, meets (by decide)⟩, ⟨connAt fun x => { x with mode := .valid, deadline := 5, last := 65473 }, meets (by decide)⟩, by decide, by decide,
    ⟨islandUp, meets (by decide)⟩, ⟨islandUp, meets (by decide)⟩, ⟨connAt fun x => { x with mode := .valid }, meets (by decide)⟩,
    fun p h => match p, h with
      | 0, _ => ⟨islandAt .run fun s => updConn 63 (fun x => { x with mode := .valid }) { s with saf.samples := 1000 }, meets (by decide)⟩
      | 1, _ => ⟨islandAt .run fun s => updConn 63 (fun x => { x with mode := .valid }) { s with saf.samples := 1000 }, meets (by decide)⟩,
    ⟨islandAt .run, meets (by decide)⟩⟩

def member (r : PairMode) (f : State → State := id) : State := at' .idle fun s => f (paired r { s with par.stayUp := true })
/-- A Stay link frame (R393) of a kind, a tick and one part of `parts`, as unit 0 sends it. -/
def stay0 (kind tick part parts : Nat) : List Byte := stayBytes kind 0 0 tick part parts 0 []
def mirror0 (tick part : Nat) : MirrorFrame := { frame := stay0 2 tick part 2, content := .points [] }

/-- Hypotheses of PairMembersMirrorAndChangeRoles. -/
theorem pair_hypotheses :
    claimWordGood (claimWordOf 0xF0) = true ∧ claimWordGood (claimWordOf 0xF1) = true ∧ claimWordGood 0 = false ∧
    stayGood 1 (stay0 1 0 0 1) = true ∧ stayGood 1 [] = false ∧ stayGood 4 (stay0 4 0 0 1) = true ∧ stayGood 5 (stay0 5 0 1 1) = true ∧
    bulkGood [stay0 3 0 0 2, stay0 3 0 1 2] = true ∧ bulkGood [stay0 3 0 1 2, stay0 3 0 0 2] = false ∧
    (∃ s : State, Live s ∧ s.par.stayUp = true ∧ s.par.handoverBox = some 4 ∧ s.sys.supUp = true ∧ (s.box 4).isOpen = true) ∧
    (∃ s : State, Live s ∧ s.par.stayUp = true ∧ s.par.handoverBox = none ∧ s.sys.supUp = true ∧ (s.box 4).isOpen = true ∧
      s.mbx.unconfirmed = [{ mailbox := 4, tag := (s.box 4).tag, payload := [], tick := 0 }]) ∧
    (∃ s : State, Live s ∧ s.heartbeatSilent = true) ∧ (∃ s : State, Live s ∧ s.heartbeatSilent = false) ∧
    (∃ s : State, Live s ∧ s.cfg.pair.paired = true ∧ s.par.role = .active ∧ s.lop.released = true ∧ s.par.stayUp = true ∧
      s.par.mirrored = false ∧ s.par.snapTick + 1 = s.time.tick) ∧
    (∃ s : State, Live s ∧ stayGood 2 (mirror0 0 0).frame = true ∧ s.mirroring = true ∧ stayTick (mirror0 0 0).frame + 1 = s.time.tick ∧
      stayPart (mirror0 0 0).frame < stayParts (mirror0 0 0).frame ∧ s.par.rxTick ≠ 0) ∧
    (∃ s : State, Live s ∧ stayGood 2 (mirror0 0 1).frame = true ∧ s.mirroring = true ∧ stayTick (mirror0 0 1).frame + 1 = s.time.tick ∧
      stayPart (mirror0 0 1).frame < stayParts (mirror0 0 1).frame ∧ s.par.rxTick = stayTick (mirror0 0 1).frame ∧ s.par.parts = [0]) ∧
    (∃ s : State, Live s ∧ s.mirroring = true ∧ s.mirrorComplete = true ∧ s.par.judged ≠ some s.time.tick) ∧
    (∃ s : State, Live s ∧ s.mirroring = true ∧ s.mirrorComplete = false ∧ s.par.judged ≠ some s.time.tick ∧ s.par.role = .standby ∧
      s.par.peerIncumbentSeen = false ∧ s.par.instTasks.contains 31 = false) ∧
    (∃ s : State, Live s ∧ s.par.stayUp = true ∧ (s.par.sentParts.find? fun f => stayTick f.frame == stayTick (stay0 5 0 1 1) &&
      stayPart f.frame == stayPart (stay0 5 0 1 1)) = some (mirror0 0 1)) ∧
    (∃ s : State, Live s ∧ s.cfg.pair.paired = true ∧ s.par.stayUp = true) ∧
    (∃ s : State, Live s ∧ s.par.delayed = some 0) ∧ (∃ s : State, Live s ∧ s.witnessPromotes = true) ∧
    (∃ s : State, Live s ∧ s.unsupportedNow = true) ∧
    (∃ s : State, Live s ∧ s.cfg.pair.paired = true ∧ s.par.role = .active ∧
      s.par.yieldSince.any (fun a => s.sys.opNs - a ≥ 10000000000) = true) ∧
    (∃ s : State, Live s ∧ s.cfg.pair.paired = true ∧ s.par.role = .standby ∧ s.isRetired (stageResource 0 47) = false ∧
      testPass 0 (testValues 0).1 = true ∧ testPass 0 [] = false) :=
  ⟨by decide, by decide, by decide, by decide, by decide, by decide, by decide, by decide, by decide,
    ⟨member .active fun s => busyBox .accepted .handover 4 { s with par.handoverBox := some 4 }, meets (by decide)⟩,
    ⟨member .active fun s => busyBox .accepted .loadCommit 4 { s with mbx.unconfirmed := [{ mailbox := 4, tag := 0, payload := [], tick := 0 }] },
      meets (by decide)⟩,
    ⟨member .active, meets (by decide)⟩, ⟨member .active fun s => { s with par.hbTick := some 0, time.tick := 2 }, meets (by decide)⟩,
    ⟨member .active fun s => { s with time.tick := 1, par.snapTick := 0, par.mirrored := false, lop.released := true }, meets (by decide)⟩,
    ⟨member .standby fun s => { s with sys.mode := .standby, time.tick := 1, par.rxTick := 7 }, meets (by decide)⟩,
    ⟨member .standby fun s => { s with sys.mode := .standby, time.tick := 1, par.rxTick := 0, par.parts := [0] }, meets (by decide)⟩,
    ⟨member .standby fun s => { s with sys.mode := .standby, time.tick := 1, par.rxTick := 0, par.parts := [0], par.partCount := 1 }, meets (by decide)⟩,
    ⟨member .standby fun s => { s with sys.mode := .standby, time.tick := 1, par.rxTick := 0, par.parts := [0], par.partCount := 2 }, meets (by decide)⟩,
    ⟨member .active fun s => { s with par.sentParts := [mirror0 0 0, mirror0 0 1] }, meets (by decide)⟩,
    ⟨member .active, meets (by decide)⟩,
    ⟨member .givenUp fun s => { s with par.delayed := some 0 }, meets (by decide)⟩,
    ⟨member .standby fun s =>
        let c : PairCfg := { paired := true, witnesses := [0] }
        { s with sys.mode := .standby, cfg.pair := c, par.stopped := 3, par.claimLost := true, par.hbLost := true, time.tick := 6 },
      meets (by decide)⟩,
    ⟨member .active fun s => { s with par.unsupported := 2, par.claimLost := true, par.hbLost := true, time.tick := 6 }, meets (by decide)⟩,
    ⟨member .active fun s => { s with par.yieldSince := some 0, sys.opNs := 10000000000 }, meets (by decide)⟩,
    ⟨member .standby fun s => { s with sys.mode := .standby }, meets (by decide)⟩⟩

def clAt (f : ClStage → ClStage) : State := at' .run fun s => updCl 47 f s
def dioAt (c : DioCfg) (f : DioStage → DioStage) : State := at' .run fun s => updDio 63 f { s with cfg.dio := s.cfg.dio.put 63 c }

/-- A digital output 100 ms after its overload (R220). -/
def retried (c : DioCfg) (x : Drive) : State :=
  at' .configure fun s => updDio 63 (fun d => { d with overload := true, drive := x, command := true })
    { s with cfg.dio := s.cfg.dio.put 63 c, cfg.any := true, sys.opNs := 100000000 }

/-- Hypotheses of StagesDetectAndProtect. -/
theorem stage_hypotheses :
    (∃ s : State, Live s ∧ (s.cl 47).compliance = false ∧ (s.cl 47).openLoop = false ∧ (s.clCfg 47).mode = 0 ∧ (s.cl 47).drive ≠ .off ∧
      fLt (fOfNat 4) (s.cl 47).applied = true) ∧
    (∃ s : State, Live s ∧ (s.cl 47).compliance = true ∧ (s.cl 47).openLoop = true) ∧
    (fLe (fOfNat 150) (fOfNat 150) = true ∧ fLe (fOfNat 150) (fOfNat 139) = false ∧ fLt (fOfNat 139) (fOfNat 140) = true) ∧
    (∃ s : State, Live s ∧ foldbackSteps (s.sys.opNs + s.periodNs) (fOfNat 150) (s.cl 47) = true) ∧
    (∃ s : State, Live s ∧ foldbackSteps (s.sys.opNs + s.periodNs) (fOfNat 150) (s.cl 47) = false) ∧
    (∃ s : State, Live s ∧ (s.cl 47).foldback = true) ∧ (∃ s : State, Live s ∧ 10000000 < (s.cl 47).mismatch * s.periodNs) ∧
    (∃ s : State, Live s ∧ 10000000 < (s.fao 15).mismatchNs) ∧ (∃ s : State, Live s ∧ (s.dioCfg 63).output = false ∧ (s.dio 63).level ≠ true) ∧
    (∃ s : State, Live s ∧ (s.dioCfg 63).output = true ∧ (s.dioCfg 63).openLoad = true ∧ (s.dio 63).level = true ∧ (s.dio 63).overload = false ∧
      (s.dio 63).lineClosed = true ∧ s.stg.dsupLow.contains (63 / 8) = false ∧ s.isRetired (dioResource 63) = false) ∧
    (∃ s : State, Live s ∧ (s.dioCfg 63).output = true ∧ (s.dio 63).overload = true ∧ (s.dio 63).drive = .held ∧
      (s.dio 63).command = true ∧ (s.dio 63).overloadAt + 100000000 < s.sys.opNs + s.periodNs) ∧
    (∃ s : State, Live s ∧ (s.dioCfg 63).output = true ∧ (s.dio 63).overload = true ∧ (s.dio 63).drive = .driving ∧
      (s.dioCommand 63).getD false = true ∧ (s.dio 63).overloadAt + 100000000 < s.sys.opNs + s.periodNs) ∧
    (∀ below, ∃ s : State, Live s ∧ s.stg.dsupLow.contains (7 : Fin 8).val = !below) :=
  ⟨⟨clAt fun x => { x with drive := .driving, applied := fOfNat 5 }, meets (by decide)⟩,
    ⟨clAt fun x => { x with compliance := true, openLoop := true }, meets (by decide)⟩, by decide,
    ⟨clAt id, meets (by decide)⟩, ⟨clAt fun x => { x with foldback := true, foldTemp := fOfNat 150 }, meets (by decide)⟩,
    ⟨clAt fun x => { x with foldback := true }, meets (by decide)⟩, ⟨clAt fun x => { x with mismatch := 101 }, meets (by decide)⟩,
    ⟨at' .run fun s => updFao 15 (fun x => { x with mismatchNs := 10000001 }) s, meets (by decide)⟩, ⟨dioAt {} id, meets (by decide)⟩,
    ⟨dioAt { output := true, openLoad := true } fun x => { x with level := true, drive := .driving, lineClosed := true }, meets (by decide)⟩,
    ⟨retried { output := true } .held, meets (by decide)⟩, ⟨retried { output := true, idleOn := true } .driving, meets (by decide)⟩,
    fun below => match below with
      | true => ⟨at' .run, meets (by decide)⟩
      | false => ⟨at' .run fun s => { s with stg.dsupLow := [7] }, meets (by decide)⟩⟩

def plan (tick : Nat) (m : Mode) (x : Schedule) (f : State → State := id) : State :=
  at' m fun s => f { s with time.tick := tick, upd.schedule := some x }
def soon : Schedule := { at_ := 20000, group := 7, members := 1, auto := false, hold := 10 }
def going : Schedule := { soon with proceeding := true }

/-- Hypotheses of ActivationsProceedOrDefer. -/
theorem activation_hypotheses :
    (∃ s : State, Live s ∧ s.upd.schedule = some soon ∧ soon.proceeding = false ∧ s.deadline soon ≤ s.time.tick) ∧
    (∃ s : State, Live s ∧ s.upd.schedule = some soon ∧ s.time.tick + 1 = soon.at_ ∧ s.whyDefer soon ≠ 0) ∧
    (∃ (s : State) (x : Schedule), Live s ∧ s.upd.schedule = some x ∧ x.proceeding = false ∧ s.time.tick + 1 = x.at_ ∧ s.whyDefer x = 0) ∧
    (∃ s : State, Live s ∧ s.upd.schedule = some going ∧ s.time.tick = going.at_ ∧ s.effMode ≠ .handover ∧ s.cfg.timeRole = 0 ∧ s.sys.mode ≠ .halt) ∧
    (∃ s : State, Live s ∧ s.upd.schedule = some going ∧ s.time.tick = going.at_ ∧ s.effMode = .handover) :=
  ⟨⟨plan 15000 .idle soon, meets (by decide)⟩, ⟨plan 19999 .idle soon, meets (by decide)⟩,
    ⟨plan 19999 .idle { soon with judged := true, readyNow := true } fun s => { s with upd.stage := { state := .verified } },
      { soon with judged := true, readyNow := true }, meets (by decide)⟩,
    ⟨plan 20000 .idle going, meets (by decide)⟩, ⟨plan 20000 .handover going, meets (by decide)⟩⟩

/-- RUN on trial at the end of its window, with and without automatic confirmation. -/
def trialEnd (auto : Bool) : State := at' .idle fun s =>
  { s with sys.opNs := 600000000000, upd.run := { s.upd.run with state := .unconfirmed }, upd.window := some 0, upd.goodSince := some 0,
           upd.auto := auto }

/-- Hypotheses of ActivationsProceedOrDefer. -/
theorem trial_hypotheses :
    (∀ auto, Settled (trialEnd auto) ∧ (trialEnd auto).sys.inReset = false ∧ (trialEnd auto).upd.run.state = .unconfirmed ∧
      (trialEnd auto).upd.window.any (fun w => (trialEnd auto).sys.opNs - w ≥ 600000000000) = true ∧ (trialEnd auto).autoDue = auto) := by
  intro auto
  refine ⟨⟨rfl, fun i => absurd i (by cases auto <;> decide), rfl, ?_, fun _ _ => ?_⟩, rfl, rfl, ?_, ?_⟩ <;> cases auto <;> decide

/-- Hypotheses of MonitorPrintsAndChangesNothing. -/
theorem monitor_hypotheses :
    (Live idle ∧ (idle.monitorServes = true ∧ idle.debugLocked = false)) ∧ (idle.nativePoint 8191).isSome = true ∧
    (∃ s : State, Live s ∧ s.monitorServes = true ∧ s.debugLocked = true) ∧ (∃ s : State, Live s ∧ s.monitorServes = true ∧ s.mon.ticking = true ∧ s.lineDue = true) ∧
    (∃ s : State, Live s ∧ s.monitorServes = true ∧ s.debugLocked = false ∧ s.sys.mode = .activate) :=
  ⟨meets (by decide), by decide, ⟨at' .run fun s => { s with sys.fuses := { s.sys.fuses with debugLock := 4 } }, meets (by decide)⟩,
    ⟨at' .run fun s => { s with mon.ticking := true }, meets (by decide)⟩, ⟨at' .activate, meets (by decide)⟩⟩

/-! ### Single steps and tables whose results the manual gives -/

/-- The state a command answers, tested by `p`; false where it stops. -/
def after (c : Instr) (s : State) (p : State → Bool) : Bool := match exec c s with | .next t => p t | _ => false

/-- R38: at T = 100 µs the accepted values of N are 2, 4, 5, 8, 10, 16 and 20. -/
theorem test_divisors_at_100 : (List.range 25).filter (fun n => !divisorBad 100 n) = [2, 4, 5, 8, 10, 16, 20] := by decide

/-- The check value of CRC-32C over the digits 1 to 9 and the first word of SHA-256 of "abc", as published. -/
theorem test_crc32c : crc32c [0x31, 0x32, 0x33, 0x34, 0x35, 0x36, 0x37, 0x38, 0x39] = 0xE3069283 := by decide
theorem test_sha256 : (sha256 [0x61, 0x62, 0x63]).take 4 = [0xBA, 0x78, 0x16, 0xBF] := by decide +kernel

/-- Chapter 8, worked case of ramp 61: from 200.0 with velocity 0.125 towards 150 the next tick holds 200.1240234375 with
velocity 0.1240234375; at 157.875 with −0.125 the final braking begins. -/
def ramp61 : RampCfg := { source := 1, lo := 0, hi := 0x43FA0000, rate := 0x3E000000, accel := 0x3A800000 }
theorem test_ramp_turns :
    let x := (rampStep ramp61 false { value := 0x43480000, velocity := 0x3E000000, target := 0x43160000, rate := 0x3E000000, accel := 0x3A800000 }).1
    x.value = 0x43481FC0 ∧ x.velocity = 0x3DFE0000 := by decide +kernel
theorem test_ramp_brakes :
    let x := (rampStep ramp61 false { value := 0x431DE000, velocity := 0xBE000000, target := 0x43160000, rate := 0x3E000000, accel := 0x3A800000 }).1
    x.value = 0x431DC040 ∧ x.velocity = 0xBDFE0000 := by decide +kernel

/-- R387 and the worked case of chapter 16: an active unit A of grade 5 has claim 0xB1, a standby unit B of grade 5 has 0xA0. -/
theorem test_claim_words : claimWordGood (claimWordOf 0xB1) = true ∧ claimWordGood (claimWordOf 0xA0) = true := by decide

/-- R68, worked case of chapter 2: mailbox 3 resolves before mailbox 6, though issued later. -/
theorem test_lower_mailbox_first :
    let q := fun (m : Nat) (op : Op) => { requestOf op (ask op []) idle with mailbox := m }
    let s : State := { idle with mbx.issued := [q 6 .hold, q 3 .jump] }
    s.resolutionOrder.map (·.mailbox) = [3, 6] := by decide

/-- R440: a pulse on RESET_N shorter than 10 µs is ignored; one of 10 µs starts the module again with cause 2. -/
theorem test_reset_pulse_ignored : after (.resetNLow 9999) idle (fun t => t.sys.mode == .idle && t.sys.startCount == 1) = true := by
  decide +kernel
theorem test_reset_pulse_starts : after (.resetNLow 10000) idle (fun t => t.sys.mode == .boot && t.sys.startCount == 2 &&
    t.sys.history.head?.map (·.cause) == some 2) = true := by decide +kernel

/-- R36, R39: the tick boundary starts the next tick, T later. -/
theorem test_tick_boundary : after (.tickBoundary {}) { idle with rcd.waiting := [] } (fun t => t.time.tick == 1 && t.sys.opNs == 100000) = true := by decide +kernel

/-- R60: another tag at a mailbox that holds an open request is answered BUSY and changes nothing but the count. -/
theorem test_busy : after (.getMode plain3) held3 (fun t => t.out.length == 1 && (t.box 3).state == .accepted && (t.box 3).requests == 1) = true := by
  decide +kernel

/-- R71: a stale start count is answered RESTARTED with stage 0 and issue tick 0, and is not stored. -/
def stale3 : Datagram :=
  { plain3 with startCount := 2, crc := BitVec.ofNat 32 (crc32c (requestHead 0x01 0x02 { plain3 with startCount := 2 })) }
theorem test_restarted : after (.getMode stale3) idle (fun t => (t.box 3).state == .empty && (t.box 3).restarts == 1 &&
    match t.out with | [.response _ _ _ b] => b.drop 32 == zeros 9 | _ => false) = true := by decide +kernel

/-- R88: a forced point shows the forced value with FORCED and VALID. -/
theorem test_force : let d := ask .setForce (pay [(2, 95), (4, 0x3F800000)])
    let w := carryOut (requestOf .setForce d idle) (idle.opening .setForce d)
    (w.entry 95).value = 0x3F800000 ∧ (w.entry 95).forced = true ∧ (w.entry 95).valid = true ∧ (w.box 4).status = .done := by
  decide +kernel

/-- R338, R357: VSAFE out of its limits takes the island into lock-out with cause 0x09. -/
theorem test_vsafe : after .vsafeFault (islandAt .run fun s => { s with sys.opNs := 100000000 }) (fun t => t.saf.state == .lockout && t.saf.fault == 9) = true := by decide +kernel

/-- R42, R457: a lid above 95 °C for 1 s is a permanent fault, and a permanent fault takes the module to HALT at the tick's end. -/
theorem test_lid : after .lidOvertemp idle (fun t => t.sys.mode == .idle && t.sys.haltDue == 7) = true := by decide +kernel
theorem test_halt : let t := followHalt { idle with sys.haltDue := 7 }
    t.sys.mode = .halt ∧ t.sys.haltCause = 7 := by decide +kernel

/-- R141, R444, R489: a lost field link resets the port and stands in the reset history. -/
theorem test_link_loss : after (.portLinkLoss (.field 47)) idle (fun t => (t.port 47).mode == .inReset && (t.port 47).linkLosses == 1 &&
    t.sys.history.head?.map (·.cause) == some 0x0501) = true := by decide +kernel

/-- R480: an unknown command is answered `ERR unknown` and the prompt. -/
theorem test_monitor : after (.monHelp .unknown) idle (fun t => t.out == [.monitor "ERR unknown\r\n", .monitor "amest> "]) = true := by
  decide +kernel

/-- R372, R374: the first good frame of a connection makes it VALID with its data. -/
theorem test_shroud : after (.shroudFrame 63 { bytes := frame0, stampNs := 0, path := 0 }) (islandAt .run)
    (fun t => (t.conn 63).mode == .valid && (t.conn 63).data == zeros 4 && (t.conn 63).accepted == 1) = true := by decide +kernel

/-- An empty queue idles, and a step takes the command at the front. -/
theorem test_idle : step idle = .next idle := rfl
theorem test_front : step { idle with pending := [.fastTick 0, .monId] } = exec (.fastTick 0) { idle with pending := [.monId] } := rfl
/-- No table row has bits (notes/assumptions/2). -/
theorem test_no_word : decodeTableWord 32 0 = none ∧ idle.withFetchWord 32 0 = idle := ⟨rfl, rfl⟩

end Sys2Proof.Tests
end

section
/-! SUPPORT. Datagrams that do not reach their mailbox (R54, R56): what a drop and a held fragment leave, and the frame of
either. -/

namespace Sys2Proof.Machine

/-! ### Frames of the mailbox path -/

theorem only_mbx (s : State) (x : MbxState) (o : List Output) : Only [.mbx] s { s with mbx := x, out := o } := by
  intro p hp
  cases p
  case mbx => exact absurd List.mem_cons_self hp
  all_goals rfl

theorem only_mbx_rcd (s : State) (x : MbxState) (r : RcdState) (o : List Output) :
    Only [.mbx, .rcd] s { s with mbx := x, rcd := r, out := o } := by
  intro p hp
  cases p
  case mbx | rcd => exact absurd (by simp) hp
  all_goals rfl

theorem only_mbx_sys (s : State) (x : MbxState) (y : SysState) (o : List Output) :
    Only [.mbx, .sys] s { s with mbx := x, sys := y, out := o } := by
  intro p hp
  cases p
  case mbx | sys => exact absurd (by simp) hp
  all_goals rfl

/-! ### Receiving a datagram -/

/-- Receiving a datagram whole counts its frame and takes the fragments held of it, and changes nothing else. -/
theorem gathered_form (s : State) (d : Datagram) :
    ∃ x p, s.gathered d = { s with mbx.rxFrames := x, mbx.parts := p } := by
  unfold State.gathered
  dsimp only
  split <;> exact ⟨_, _, rfl⟩

theorem gathered_headerGood (s : State) (d : Datagram) : headerGood d (s.gathered d) = headerGood d s := by
  unfold headerGood
  rw [gathered_sys]

/-- A datagram heard whole does what the path of a whole request makes of it, where that leaves a settled state. -/
theorem exec_heard {i : Instr} {op : Op} {d : Datagram} {s : State} (hi : i.op? = some (op, d)) (run : s.sys.inReset = false)
    (heard : s.deaf d = false) (whole : s.entire d = true)
    (hs : Settled (receiveWhole (some op) op.desc.cls op.desc.opcode d (({ s with out := [] } : State).gathered d))) :
    exec i s = .next
      { receiveWhole (some op) op.desc.cls op.desc.opcode d (({ s with out := [] } : State).gathered d) with
        pending := s.pending } := by
  have e : request op d { s with out := [] } =
      receiveWhole (some op) op.desc.cls op.desc.opcode d (({ s with out := [] } : State).gathered d) :=
    receive_whole (s := { s with out := [] }) heard whole
  rw [exec_request hi, act_settled run (by rwa [e]), e]

/-! ### Drops (R56) -/

theorem dropFor_rest (m : Nat) (s : State) :
    dropFor m s = { s with mbx.boxes := (dropFor m s).mbx.boxes } := by
  unfold dropFor
  split <;> rfl

theorem dropNoted_rest (m reason : Nat) (s : State) :
    dropNoted m reason s =
      { s with mbx.boxes := (dropFor m s).mbx.boxes,
               rcd.waiting := s.rcd.waiting ++ [(8, s.record .datagramDropped [m, reason])] } := by
  unfold dropNoted note noteRecord
  rw [dropFor_rest]
  rfl

theorem dropFor_other (m : Nat) (s : State) {n : Nat} (h : n ≠ m) : (dropFor m s).box n = s.box n := by
  unfold dropFor
  split
  · exact updBox_other m _ s h
  · rfl

theorem dropFor_same {m : Nat} (s : State) (h : m < 64) :
    (dropFor m s).box m = { s.box m with dropped := (s.box m).dropped + 1 } := by
  rw [dropFor, if_pos h, updBox_same]

theorem dropped_of_badHeader {cls opcode : Byte} {d : Datagram} {s : State} (h : headerGood d s = false) :
    dropped cls opcode d s = some (dropFor d.mailbox.toNat { s with mbx.badHeader := s.mbx.badHeader + 1 }) := by
  simp [dropped, h]

theorem dropped_of_badCrc {cls opcode : Byte} {d : Datagram} {s : State} (h : headerGood d s = true)
    (c : crcGood cls opcode d = false) :
    dropped cls opcode d s = some (dropFor d.mailbox.toNat { s with mbx.badCrc := s.mbx.badCrc + 1 }) := by
  simp [dropped, h, c]

/-- A datagram from outside the binding is dropped, recorded and counted under exactly one of the three reasons (R56). -/
theorem dropped_of_foreign {cls opcode : Byte} {d : Datagram} {s : State} (h : headerGood d s = true)
    (c : crcGood cls opcode d = true)
    (f : Path.serves d.path d.mailbox.toNat = false ∨ (s.binding d.mailbox.toNat).role = .unbound ∨
      (s.binding d.mailbox.toNat).admits d.srcAddr d.srcPort = false) :
    ∃ reason x y z,
      dropped cls opcode d s = some (dropNoted d.mailbox.toNat reason
        { s with mbx.wrongTransport := x, mbx.unbound := y, mbx.sourceRefused := z }) ∧
      x + y + z = s.mbx.wrongTransport + s.mbx.unbound + s.mbx.sourceRefused + 1 := by
  by_cases hw : Path.serves d.path d.mailbox.toNat = false
  · exact ⟨2, s.mbx.wrongTransport + 1, s.mbx.unbound, s.mbx.sourceRefused, by simp [dropped, h, c, hw], by omega⟩
  by_cases hb : (s.binding d.mailbox.toNat).role = .unbound
  · exact ⟨3, s.mbx.wrongTransport, s.mbx.unbound + 1, s.mbx.sourceRefused, by simp [dropped, h, c, hw, hb], by omega⟩
  have ha : (s.binding d.mailbox.toNat).admits d.srcAddr d.srcPort = false := by simpa [hw, hb] using f
  exact ⟨4, s.mbx.wrongTransport, s.mbx.unbound, s.mbx.sourceRefused + 1, by simp [dropped, h, c, hw, hb, ha], by omega⟩

/-- A dropped datagram does what R56 makes of it and nothing else. -/
theorem exec_dropped {i : Instr} {op : Op} {d : Datagram} {s u : State} (hi : i.op? = some (op, d)) (h : Settled s)
    (run : s.sys.inReset = false) (heard : s.deaf d = false) (whole : s.entire d = true)
    (hd : dropped op.desc.cls op.desc.opcode d (({ s with out := [] } : State).gathered d) = some u)
    (hu : u = { s with mbx := u.mbx, rcd := u.rcd, out := [] }) : exec i s = .next u := by
  have hdeaf : (({ s with out := [] } : State).gathered d).deaf d = false :=
    (gathered_deaf { s with out := [] } d).trans heard
  have e : receiveWhole (some op) op.desc.cls op.desc.opcode d (({ s with out := [] } : State).gathered d) = u := by
    simp [receiveWhole, hdeaf, hd]
  have hs : Settled u := h.of_agree (by rw [hu]; exact ⟨rfl, rfl, rfl, rfl, rfl, rfl, rfl, rfl⟩)
  rw [exec_heard hi run heard whole (by rwa [e]), e, hu]

/-- A datagram with a wrong header or CRC is counted as such and for its mailbox. -/
theorem exec_damaged {i : Instr} {op : Op} {d : Datagram} {s : State} (hi : i.op? = some (op, d)) (h : Settled s)
    (run : s.sys.inReset = false) (heard : s.deaf d = false) (whole : s.entire d = true)
    (bad : headerGood d s = false ∨ crcGood op.desc.cls op.desc.opcode d = false) :
    ∃ x p, exec i s = .next (dropFor d.mailbox.toNat
      { s with mbx.rxFrames := x, mbx.parts := p, out := [],
               mbx.badHeader := s.mbx.badHeader + if headerGood d s then 0 else 1,
               mbx.badCrc := s.mbx.badCrc + if headerGood d s then 1 else 0 }) := by
  obtain ⟨x, p, hg⟩ := gathered_form { s with out := [] } d
  have hh : headerGood d (({ s with out := [] } : State).gathered d) = headerGood d s :=
    gathered_headerGood { s with out := [] } d
  refine ⟨x, p, exec_dropped hi h run heard whole ?_ (by rw [dropFor_rest])⟩
  cases good : headerGood d s with
  | false => rw [dropped_of_badHeader (hh.trans good), hg]; rfl
  | true =>
    have hc : crcGood op.desc.cls op.desc.opcode d = false := by simpa [good] using bad
    rw [dropped_of_badCrc (hh.trans good) hc, hg]
    rfl

/-- A datagram from outside the binding is counted, for its mailbox too, and recorded. -/
theorem exec_foreign {i : Instr} {op : Op} {d : Datagram} {s : State} (hi : i.op? = some (op, d)) (h : Settled s)
    (run : s.sys.inReset = false) (heard : s.deaf d = false) (whole : s.entire d = true) (good : headerGood d s = true)
    (crc : crcGood op.desc.cls op.desc.opcode d = true)
    (f : Path.serves d.path d.mailbox.toNat = false ∨ (s.binding d.mailbox.toNat).role = .unbound ∨
      (s.binding d.mailbox.toNat).admits d.srcAddr d.srcPort = false) :
    ∃ x p reason a b c,
      exec i s = .next (dropNoted d.mailbox.toNat reason
        { s with mbx.rxFrames := x, mbx.parts := p, out := [],
                 mbx.wrongTransport := a, mbx.unbound := b, mbx.sourceRefused := c }) ∧
      a + b + c = s.mbx.wrongTransport + s.mbx.unbound + s.mbx.sourceRefused + 1 := by
  obtain ⟨x, p, hg⟩ := gathered_form { s with out := [] } d
  have hb : (({ s with out := [] } : State).gathered d).binding d.mailbox.toNat = s.binding d.mailbox.toNat :=
    gathered_binding { s with out := [] } d _
  obtain ⟨reason, a, b, c, hd, sum⟩ := dropped_of_foreign
    ((gathered_headerGood { s with out := [] } d).trans good) crc (by rwa [hb])
  rw [hg] at hd sum
  exact ⟨x, p, reason, a, b, c, exec_dropped hi h run heard whole (by rw [hg]; exact hd) (by rw [dropNoted_rest]), sum⟩

/-! ### Fragments (R54) -/

/-- A fragment of a datagram of which others are missing is counted and held. -/
theorem exec_held {i : Instr} {op : Op} {d : Datagram} {f : Fragment} {s : State} (hi : i.op? = some (op, d)) (h : Settled s)
    (run : s.sys.inReset = false) (up : s.sys.supUp = true) (path : s.pathRetired d.path = false) (part : d.fragment = some f)
    (short : d.payload.length + 20 ≤ 4096) (lacks : s.completes d f = false) :
    exec i s = .next (holdPart d f { s with mbx.rxFrames := countFrames d.path 1 s.mbx.rxFrames, out := [] }) := by
  have e : request op d { s with out := [] } =
      holdPart d f { s with mbx.rxFrames := countFrames d.path 1 s.mbx.rxFrames, out := [] } := by
    have hp : ∀ x, ({ s with mbx.rxFrames := x, out := [] } : State).pathRetired d.path = false := fun _ => path
    have hc : ∀ x, ({ s with mbx.rxFrames := x, out := [] } : State).completes d f = false := fun _ => lacks
    have hl : ¬ d.payload.length + 20 > 4096 := by omega
    simp [request, receive, part, up, hp, hc, hl]
  rw [exec_request hi, act_frame run h (by rw [e]; exact ⟨rfl, rfl, rfl, rfl, rfl, rfl, rfl, rfl⟩), e]
  rfl

/-- The fragment held is among those of its datagram. -/
theorem holdPart_holds (d : Datagram) (f : Fragment) (s : State) :
    ∃ x ∈ (holdPart d f s).mbx.parts, x.matches d f = true ∧ f.index ∈ x.got := by
  refine ⟨_, List.mem_append_right _ List.mem_cons_self, ?_, List.mem_cons_self⟩
  simp [Partial.matches]

/-- Settles O7: each drop of R56 and each held fragment of R54 is one explicit state, of which the clauses are read off. -/
theorem badAndForeignDatagramsAreDropped : Obligations.BadAndForeignDatagramsAreDropped := by
  unfold Obligations.BadAndForeignDatagramsAreDropped
  refine ⟨?damaged, ?foreign, ?fragment⟩
  case damaged =>
    intro i op d s hi h run heard whole bad
    obtain ⟨x, p, e⟩ := exec_damaged hi h run heard whole bad
    refine ⟨_, e, ?_, ?_, ?_, ?_, fun m hm => dropFor_other _ _ hm, fun hm => dropFor_same _ hm⟩
    · rw [dropFor_rest]
    · rw [dropFor_rest]
      exact only_mbx _ _ _
    · intro good
      rw [dropFor_rest]
      simp [good]
    · intro good
      rw [dropFor_rest]
      simp [good]
  case foreign =>
    intro i op d s hi h run heard whole good crc f
    obtain ⟨x, p, reason, a, b, c, e, sum⟩ := exec_foreign hi h run heard whole good crc f
    refine ⟨_, e, ?_, ?_, ?_, fun m hm => dropFor_other _ _ hm, fun hm => dropFor_same _ hm, reason, ?_⟩
    · rw [dropNoted_rest]
    · rw [dropNoted_rest]
      exact only_mbx_rcd _ _ _ _
    · rw [dropNoted_rest]
      exact sum
    · rw [dropNoted_rest]
      rfl
  case fragment =>
    intro i op d f s hi h run up path part short lacks
    exact ⟨_, exec_held hi h run up path part short lacks, rfl, only_mbx _ _ _, fun _ => rfl, rfl, holdPart_holds d f _⟩

end Sys2Proof.Machine
end

section
/-! SUPPORT. The start count (R71): a whole-module reset and a start, and the answer to a request with a stale start count. -/

namespace Sys2Proof.Machine

/-! ### A request with a stale start count -/

/-- A check that turns away with `some` lets pass exactly where its condition fails. -/
theorem ite_some_eq_none_iff {α : Type} {c : Prop} [Decidable c] {a : α} {x : Option α} :
    (if c then some a else x) = none ↔ ¬ c ∧ x = none := by
  by_cases h : c
  · rw [if_pos h]
    exact ⟨fun e => (nomatch e), fun e => absurd h e.1⟩
  · rw [if_neg h]
    exact ⟨fun e => ⟨h, e⟩, fun e => e.2⟩

/-- A request goes on past R56 and R75 exactly where nothing there turns it away. -/
theorem dropped_none_iff (cls opcode : Byte) (d : Datagram) (s : State) :
    dropped cls opcode d s = none ↔
      headerGood d s = true ∧ crcGood cls opcode d = true ∧ Path.serves d.path d.mailbox.toNat = true ∧
        (s.binding d.mailbox.toNat).role ≠ .unbound ∧ (s.binding d.mailbox.toNat).admits d.srcAddr d.srcPort = true ∧
        (s.starting && decide (d.mailbox.toNat ≥ 4)) = false := by
  simp only [dropped, ite_some_eq_none_iff, Bool.not_eq_true', Bool.not_eq_false, Bool.not_eq_true, ne_eq, and_true]

theorem gathered_starting (s : State) (d : Datagram) : (s.gathered d).starting = s.starting := by
  unfold State.starting
  rw [gathered_sys]

theorem gathered_dropped_none {cls opcode : Byte} {d : Datagram} {s : State} (h : dropped cls opcode d s = none) :
    dropped cls opcode d (s.gathered d) = none := by
  rw [dropped_none_iff] at h ⊢
  rwa [gathered_headerGood, gathered_binding, gathered_starting]

/-- A request that passes R56 is counted: in its mailbox, as a frame, and as a use of the service port (R74). -/
theorem counted_form (s : State) (d : Datagram) :
    ∃ x p u, s.counted d = updBox d.mailbox.toNat (fun b => { b with requests := b.requests + 1 })
      { s with mbx.rxFrames := x, mbx.parts := p, sys.serviceUsed := u } := by
  obtain ⟨x, p, hg⟩ := gathered_form s d
  refine ⟨x, p, if d.mailbox.toNat < 4 then s.sys.opNs else s.sys.serviceUsed, ?_⟩
  unfold State.counted
  rw [hg]
  split <;> rfl

/-- A heard request that passes R56 is answered RESTARTED where its start count is stale, and goes on where it is not. -/
theorem receiveWhole_of_passed {op : Option Op} {cls opcode : Byte} {d : Datagram} {s : State} (heard : s.deaf d = false)
    (pass : dropped cls opcode d s = none) :
    receiveWhole op cls opcode d (s.gathered d) =
      if d.version != 1 && d.startCount != 0 && d.startCount.toNat != s.sys.startCount then
        answerNow cls opcode d .restarted (List.replicate 9 0) 0
          (updBox d.mailbox.toNat (fun b => { b with restarts := b.restarts + 1 }) (s.counted d))
      else applyTag op cls opcode d (s.counted d) := by
  have e : updBox d.mailbox.toNat (fun b => { b with requests := b.requests + 1 })
      (if d.mailbox.toNat < 4 then { s.gathered d with sys.serviceUsed := (s.gathered d).sys.opNs } else s.gathered d) =
        s.counted d := by
    unfold State.counted
    rw [gathered_sys]
  unfold receiveWhole
  rw [gathered_deaf, heard, gathered_dropped_none pass]
  dsimp only
  rw [e, (counted_start s d).1]
  rfl

/-- The status stands in byte 8 of a response, in both layouts (R58, R485). -/
theorem responseBytes_status (version : Byte) (m : Nat) (tag : U16) (cls opcode : Byte) (st : Status) (payload : List Byte)
    (tick : Nat) (s : State) :
    (responseBytes version m tag cls opcode st payload tick s)[8]? = some (BitVec.ofNat 8 st.code) := by
  unfold responseBytes
  split <;> rfl

/-- The payload of a version 2 response follows its 32 bytes of header (R58). -/
theorem responseBytes_payload {version : Byte} (h : version ≠ 1) (m : Nat) (tag : U16) (cls opcode : Byte) (st : Status)
    (payload : List Byte) (tick : Nat) (s : State) :
    (responseBytes version m tag cls opcode st payload tick s).drop 32 = payload := by
  unfold responseBytes
  rw [if_neg h]
  rfl

/-- An answer that is not stored is sent and counted as a frame, and changes nothing else (R60). -/
theorem answerNow_form (cls opcode : Byte) (d : Datagram) (st : Status) (payload : List Byte) (tick : Nat) (s : State) :
    ∃ y bytes, answerNow cls opcode d st payload tick s =
        { s with mbx.txFrames := y, out := s.out ++ s.sends d.path d.srcAddr d.srcPort bytes } ∧
      bytes[8]? = some (BitVec.ofNat 8 st.code) ∧ (d.version ≠ 1 → bytes.drop 32 = payload) :=
  ⟨_, _, rfl, responseBytes_status .., fun h => responseBytes_payload h ..⟩

/-- A request with a stale start count leaves its mailbox but for two counts, and sends RESTARTED with stage 0 (R71). -/
theorem exec_stale {i : Instr} {op : Op} {d : Datagram} {s : State} (hi : i.op? = some (op, d)) (h : Settled s)
    (run : s.sys.inReset = false) (heard : s.deaf d = false) (whole : s.entire d = true)
    (pass : dropped op.desc.cls op.desc.opcode d s = none) (v2 : d.version ≠ 1) (given : d.startCount ≠ 0)
    (stale : d.startCount.toNat ≠ s.sys.startCount) :
    ∃ x y p u bytes, exec i s = .next
        (updBox d.mailbox.toNat (fun b => { b with restarts := b.restarts + 1 })
          (updBox d.mailbox.toNat (fun b => { b with requests := b.requests + 1 })
            { s with mbx.rxFrames := x, mbx.txFrames := y, mbx.parts := p, sys.serviceUsed := u,
                     out := s.sends d.path d.srcAddr d.srcPort bytes })) ∧
      bytes[8]? = some (BitVec.ofNat 8 Status.restarted.code) ∧ bytes.drop 32 = List.replicate 9 0 := by
  obtain ⟨x, p, u, hc⟩ := counted_form { s with out := [] } d
  have pass' : dropped op.desc.cls op.desc.opcode d { s with out := [] } = none := by
    rw [dropped_none_iff] at pass ⊢
    exact pass
  have e := receiveWhole_of_passed (op := some op) (s := { s with out := [] }) heard pass'
  have c : (d.version != 1 && d.startCount != 0 && d.startCount.toNat != s.sys.startCount) = true := by
    simp only [Bool.and_eq_true, bne_iff_ne]
    exact ⟨⟨v2, given⟩, stale⟩
  rw [if_pos c, hc] at e
  obtain ⟨y, bytes, ha, status, payload⟩ := answerNow_form op.desc.cls op.desc.opcode d .restarted (List.replicate 9 0) 0
    (updBox d.mailbox.toNat (fun b => { b with restarts := b.restarts + 1 })
      (updBox d.mailbox.toNat (fun b => { b with requests := b.requests + 1 })
        { s with mbx.rxFrames := x, mbx.parts := p, sys.serviceUsed := u, out := [] }))
  have hs : Settled (receiveWhole (some op) op.desc.cls op.desc.opcode d (({ s with out := [] } : State).gathered d)) := by
    rw [e]
    exact (h.serviceUsed u).of_agree ⟨rfl, rfl, rfl, rfl, rfl, rfl, rfl, rfl⟩
  rw [exec_heard hi run heard whole hs, e]
  exact ⟨x, y, p, u, bytes, congrArg Host.Outcome.next ha, status, payload v2⟩

/-! ### What every command ends with keeps the mailboxes and the start count -/

theorem settle_fields {s : State} (h : s.sys.resetDue = none) : (settle s).mbx = s.mbx ∧ (settle s).sys = s.sys := by
  obtain ⟨x, w, g, own, stg, e, -⟩ := settle_form h
  rw [e]
  exact ⟨rfl, rfl⟩

/-- A command that acts in reset as well leaves the mailboxes and the system state that its effect does, where that orders no reset. -/
theorem actAlways_fields {f : State → State} {s : State} (h : (f { s with out := [] }).sys.resetDue = none) :
    ∃ t, actAlways f s = .next t ∧ t.mbx = (f { s with out := [] }).mbx ∧ t.sys = (f { s with out := [] }).sys :=
  ⟨_, rfl, settle_fields h⟩

/-! ### A whole-module reset -/

theorem setForced_mbx (x : StageId) (on : Bool) (s : State) : (setForced x on s).mbx = s.mbx := by
  cases x <;> rfl

theorem setForced_sys (x : StageId) (on : Bool) (s : State) : (setForced x on s).sys = s.sys := by
  cases x <;> rfl

theorem forAll_setForced_mbx (l : List StageId) (on : Bool) (s : State) : (forAll l (setForced · on) s).mbx = s.mbx :=
  forAll_same State.mbx l (fun x => setForced_mbx x on) s

theorem forAll_setForced_sys (l : List StageId) (on : Bool) (s : State) : (forAll l (setForced · on) s).sys = s.sys :=
  forAll_same State.sys l (fun x => setForced_sys x on) s

theorem retirePoints_mbx (r : Nat) (s : State) : (retirePoints r s).mbx = s.mbx :=
  forAll_same State.mbx _ (fun _ => updPoint_mbx _ _) s

theorem retirePoints_sys (r : Nat) (s : State) : (retirePoints r s).sys = s.sys :=
  forAll_same State.sys _ (fun _ => updPoint_sys _ _) s

theorem showRetired_mbx (s : State) : (showRetired s).mbx = s.mbx := by
  refine forAll_same State.mbx _ (fun x t => ?_) s
  rw [retirePoints_mbx]
  split <;> rfl

theorem showRetired_sys (s : State) : (showRetired s).sys = s.sys := by
  refine forAll_same State.sys _ (fun x t => ?_) s
  rw [retirePoints_sys]
  split <;> rfl

theorem endSession_sys (s : State) : (endSession s).sys = s.sys := by
  unfold endSession
  split <;> rfl

/-- A whole-module reset clears the mailboxes, keeps the start count, and leaves no reset to be followed. -/
theorem clearModule_fields (cause : Nat) (s : State) :
    (clearModule cause s).mbx = {} ∧ (clearModule cause s).sys.startCount = s.sys.startCount ∧
      (clearModule cause s).sys.resetDue = none := by
  have hs : (endSession (keepCommitted (enterReset 0 0 cause { s with upd.schedule := none }))).sys.startCount =
      s.sys.startCount := by
    rw [endSession_sys]
    rfl
  unfold clearModule
  dsimp only
  split <;>
    simp only [id, note_mbx, note_sys, showRetired_mbx, showRetired_sys, forAll_setForced_mbx, forAll_setForced_sys, hs,
      and_self]

/-! ### A start -/

theorem traceLine_mbx (text : String) (s : State) : (traceLine text s).mbx = s.mbx := by
  unfold traceLine
  dsimp only
  split <;> rfl

theorem traceLine_sys (text : String) (s : State) : (traceLine text s).sys = s.sys := by
  unfold traceLine
  dsimp only
  split <;> rfl

theorem readStraps_mbx (lands : Straps) (s : State) : (readStraps lands s).mbx = s.mbx := by
  unfold readStraps
  dsimp only
  split <;> rfl

theorem readStraps_sys (lands : Straps) (s : State) :
    (readStraps lands s).sys = { s.sys with lands := lands, straps := lands } := by
  unfold readStraps
  dsimp only
  split <;> rfl

/-- Each start raises the start count by one (R71). -/
theorem startModule_startCount (cause : Nat) (s : State) :
    (startModule cause s).sys.startCount = s.sys.startCount + 1 := by
  simp only [startModule, traceLine_sys, readStraps_sys, note_sys]

theorem startModule_resetDue (cause : Nat) (s : State) : (startModule cause s).sys.resetDue = s.sys.resetDue := by
  simp only [startModule, traceLine_sys, readStraps_sys, note_sys]

theorem startModule_mbx (cause : Nat) (s : State) : (startModule cause s).mbx = s.mbx := by
  simp only [startModule, traceLine_mbx, readStraps_mbx, note_mbx]

/-! ### The island's restart keeps the start count -/

theorem sameButStages.mbx {s t : State} (h : sameButStages s t) : t.mbx = s.mbx := by
  rw [h]

theorem sameButStages.sys {s t : State} (h : sameButStages s t) : t.sys = s.sys := by
  rw [h]

theorem forceStages_sys (l : List StageId) (s : State) : (forceStages l s).sys = s.sys := by
  unfold forceStages
  split
  · rfl
  · rw [(driveStages_same _).sys, forAll_setForced_sys, forAll_setForced_sys]

theorem outputOff_sys (m : Nat) (s : State) : (outputOff m s).sys = s.sys := by
  unfold outputOff driveSwitches
  dsimp only
  split <;> rfl

theorem openSwitches_sys (s : State) : (openSwitches s).sys = s.sys := by
  unfold openSwitches forN
  refine forAll_same State.sys _ (fun m t => ?_) s
  rw [outputOff_sys, updOut_sys]

theorem endConfirming_sys (st : Status) (s : State) : (endConfirming st s).sys = s.sys := by
  unfold endConfirming
  split
  · rfl
  · dsimp only
    split
    · rw [completeRequest_rest]
      rfl
    · rfl

theorem lockAxes_sys (s : State) : (lockAxes s).sys = s.sys := by
  unfold lockAxes
  split
  · exact forAll_same State.sys _ (fun x => updAxis_sys x _) s
  · rfl

theorem lockStart_sys (s : State) : (lockStart s).sys = s.sys := by
  unfold lockStart
  split
  · rfl
  · rw [lockAxes_sys, forceStages_sys]

theorem islandRestart_sys (s : State) : (islandRestart s).sys = s.sys := by
  unfold islandRestart
  rw [lockStart_sys, forceStages_sys, openSwitches_sys, endConfirming_sys]

theorem mirrorIsland_sys (s : State) : (mirrorIsland s).sys = s.sys := by
  unfold mirrorIsland forN
  dsimp only
  refine forAll_same State.sys _ (fun i t => ?_) s
  rw [updPoint_sys]

/-! ### The events that reset or start the module -/

theorem resetLowEffect_of_held {held : Nat} {s : State} (run : s.sys.inReset = false) (mode : s.sys.mode ≠ .halt)
    (long : 10000 ≤ held) : resetLowEffect held s = startModule 2 (clearModule 2 s) := by
  have short : ¬ held < 10000 := by omega
  simp [resetLowEffect, moduleReset, run, mode, short]

/-- With the supplies the module starts: the start count rises by one, and no reset is ordered. -/
theorem powerGoodEffect_sys {s : State} (lands : Straps) (r : StartReading) (off : s.sys.powered = false) :
    (powerGoodEffect lands r s).sys.startCount = s.sys.startCount + 1 ∧
      (powerGoodEffect lands r s).sys.resetDue = s.sys.resetDue := by
  unfold powerGoodEffect
  rw [if_neg (by simp [off]), startModule_startCount, startModule_resetDue, traceLine_sys, mirrorIsland_sys, islandRestart_sys]
  exact ⟨rfl, rfl⟩

/-- Mailboxes that were cleared are empty. -/
theorem box_empty {s : State} (h : s.mbx = {}) (m : Nat) : (s.box m).state = .empty := by
  unfold State.box
  rw [h]
  rfl

/-- Settles O8: the reset and the starts by what they leave of the mailboxes and of the start count, the request by the one state
that its answer leaves. -/
theorem staleStartCountIsAnsweredRestarted : Obligations.StaleStartCountIsAnsweredRestarted := by
  unfold Obligations.StaleStartCountIsAnsweredRestarted
  refine ⟨?resetLow, ?supplyLoss, ?powerGood, ?request⟩
  case resetLow =>
    intro held s h run mode long
    have e := resetLowEffect_of_held (s := { s with out := [] }) run mode long
    obtain ⟨clear, kept, due⟩ := clearModule_fields 2 { s with out := [] }
    obtain ⟨t, ht, mbx, sys⟩ := actAlways_fields (f := resetLowEffect held) (s := s) (by rw [e, startModule_resetDue, due])
    refine ⟨t, ht, box_empty ?_, ?_⟩
    · rw [mbx, e, startModule_mbx, clear]
    · rw [sys, e, startModule_startCount, kept]
  case supplyLoss =>
    intro s h on
    have e : below16Effect { s with out := [] } =
        driveStages { clearModule 3 { s with out := [] } with sys.inReset := true, sys.powered := false } := by
      simp [below16Effect, on]
    obtain ⟨clear, kept, due⟩ := clearModule_fields 3 { s with out := [] }
    obtain ⟨t, ht, mbx, sys⟩ := actAlways_fields (f := below16Effect) (s := s) (by rw [e, (driveStages_same _).sys, due])
    refine ⟨t, ht, box_empty ?_, ?_⟩
    · rw [mbx, e, (driveStages_same _).mbx, clear]
    · rw [sys, e, (driveStages_same _).sys, kept]
  case powerGood =>
    intro lands r s h off
    obtain ⟨count, due⟩ := powerGoodEffect_sys (s := { s with out := [] }) lands r off
    obtain ⟨t, ht, -, sys⟩ := actAlways_fields (f := powerGoodEffect lands r) (due.trans h.noReset)
    exact ⟨t, ht, (congrArg SysState.startCount sys).trans count⟩
  case request =>
    intro i op d s hi h run heard whole pass v2 given stale
    obtain ⟨x, y, p, u, bytes, e, status, stage⟩ := exec_stale hi h run heard whole pass v2 given stale
    refine ⟨_, e, ⟨bytes, rfl, status, stage⟩, ?_, fun m hm => ?_, rfl, only_mbx_sys _ _ _ _, rfl⟩
    · rw [updBox_same, updBox_same]
      rfl
    · rw [updBox_other _ _ _ hm, updBox_other _ _ _ hm]
      rfl

end Sys2Proof.Machine
end
